-- ==== Sys2Proof/Word.lean ====
section
/-!
DEFINITION. The word types of the Z512 and nothing else: bytes, 16-bit parameter words, 24-bit
samples, 32-bit register words (R8, R10, R31, R33). Arithmetic helpers that a repair may have to
mend live in Sys2Proof/Machine/Bits.lean.
-/
namespace Sys2Proof

/-- One byte. -/
abbrev Byte := BitVec 8
/-- One 16-bit voice parameter word (R33). -/
abbrev Half := BitVec 16
/-- One S24 sample code, Q1.23 (R10). -/
abbrev S24 := BitVec 24
/-- One 32-bit register or Basin word (R31, R233). -/
abbrev Word := BitVec 32

end Sys2Proof
end

