-- ==== Sys2Proof/Syntax.lean ====
section
/-!
DEFINITION. The commands the block takes: one constructor per row of spec/opcode_table.json, with the
operands that the row's rule gives it. The table gives no bits and no fields, so the operands are
read from the rules: who writes (Source), which unit, the value, or the bytes that cross the balls.
A core-instruction row carries the core alone: the instruction executed is the one that stands at that core's PC.
-/
namespace Sys2Proof

/-- Who makes an access (R30, R459): the local host over SPI, a Trail node by CMD_WRITE or CMD_READ,
a control core, or the boot engine applying a pack record (R425). -/
inductive Source where
  | host
  | trail (node : Nat)
  | core (k : Fin 8)
  | boot
  deriving DecidableEq, Repr

/-- The two Trail ports (R258). -/
inductive Port where
  | a
  | b
  deriving DecidableEq, Repr

/-- What a switch fade acts on: an oscillator (R48), the oscillator mix (PHDR bits, R48), the filter (R88). -/
inductive FadeUnit where
  | osc1
  | osc2
  | mix
  | filter
  deriving DecidableEq, Repr

/-- What reaches the node from outside at one sample boundary: the frames that master audio ports have
completed (R325; port code and channel samples), the voices whose residue check fails (R114), and the audio
ports whose read-back of the frame differs (R341). -/
structure BoundaryInput where
  rx : List (Nat × List S24)
  residue : List (Fin 512)
  readback : List (Fin 8)
  deriving DecidableEq, Repr

/-- One frame received on a slave port (R326, R334): its channel samples, its length in 1/256 base-clock ticks, for a
biphase port its parity or coding errors and its V bits by channel, and whether a driven ball read back wrong (R341). DESIGN CHOICE (log 91, safe). -/
structure PortFrame where
  samples : List S24
  period : Nat
  parErr : List Bool
  vbit : List Bool
  mismatch : Bool
  deriving DecidableEq, Repr

/-- One received serial character (R367): the three samples of each of its bits, start bit first, as far as its first stop bit, and for
rate measurement (R369) the span of the measured edges in base-clock ticks and whether every other edge lay in place. DESIGN CHOICE (log 91, safe). -/
structure RxChar where
  bits : List (BitVec 3)
  span : Nat
  edgesOk : Bool
  deriving DecidableEq, Repr

/-- One received DMX packet (R378, R379): its slots, start code first, the lengths of its break and of the mark after it in base-clock ticks, how
many slots had FE and NOISE, and the trail time at the end of its break. -/
structure DmxPacket where
  slots : List Byte
  low : Nat
  mark : Nat
  fe : Nat
  noise : Nat
  breakEnd : Nat
  deriving DecidableEq, Repr

/-- A received training set (R262): its STATE byte, and how many of its characters were code errors (R260). -/
structure TrainSet where
  state : Byte
  codeErrors : Nat
  deriving DecidableEq, Repr

/-- An analogue output channel (R358). -/
inductive OutUnit where
  | aout (c : Fin 4)
  | cout (c : Fin 8)
  deriving DecidableEq, Repr

/-- The monitored supplies of PWR_SUPPLY (R407). -/
inductive Supply where
  | vddc
  | vddt
  | vddio1
  | vddio2
  | vdda
  deriving DecidableEq, Repr

/-- Why a warm reset asserts (R414): the RESETn ball, a commanded reset (R415), the watchdog (R416), a supply (R410). -/
inductive WarmCause where
  | pin
  | cmd
  | wdog
  | supply
  deriving DecidableEq, Repr

/-- The commands, one constructor per row of spec/opcode_table.json. -/
inductive Instr where
  /-- SAMPLE_BOUNDARY (R17). The phase counter returns to 0 at a sample boundary and every sample-locked stage of the pipeline begins. -/
  | sampleBoundary (inp : BoundaryInput)
  /-- RAMP_END (R123). A 64-sample steal ramp ends and the voice takes its deferred start or becomes IDLE. -/
  | rampEnd (v : Fin 512)
  /-- RELEASE_LIMIT (R100). A release phase that has lasted N(RELMAX) samples finishes the voice through the steal ramp. -/
  | releaseLimit (v : Fin 512)
  /-- SWITCH_FADE_ZERO (R48). A switch fade reaches zero gain, the held F changes are applied and the gain starts to rise. -/
  | switchFadeZero (v : Fin 512) (u : FadeUnit)
  /-- CROSSFADE_END (R82). A 32-sample X crossfade ends and any held change of the same field starts its own crossfade. -/
  | crossfadeEnd (v : Fin 512) (word : Nat)
  /-- GLIDE_END (R85). A glide reaches its target value and ends. -/
  | glideEnd (v : Fin 512) (word : Nat)
  /-- ENVELOPE_SEGMENT_END (R96). An envelope segment's count reaches N and the envelope enters its next segment. -/
  | envelopeSegmentEnd (v : Fin 512) (e : Fin 3)
  /-- LFO_WRAP (R102). An LFO phase wraps past 1 and its random generator draws a new value. -/
  | lfoWrap (v : Fin 512) (l : Fin 2)
  /-- SAMPLE_LOOP_POINT (R60). A sample oscillator's position reaches a loop point or LENGTH and is shifted, reflected or ended. -/
  | sampleLoopPoint (v : Fin 512) (o : Fin 2)
  /-- VOICE_PARAM_WRITE (R25). A core, host or Trail write into voice parameter space is checked and held for the next intake. -/
  | voiceParamWrite (src : Source) (v : Fin 512) (word : Nat) (values : List Half)
  /-- RECALC (R132). Writing RECALC starts a content-hash recalculation. -/
  | recalc (src : Source)
  /-- RECALC_DONE (R132). The hash recalculation ends, BUSY clears and STALE clears unless content was written meanwhile. -/
  | recalcDone
  /-- GO (R462). Writing GO queues the event image at VOICE_EVADR as a local node-directed event. -/
  | go (src : Source)
  /-- COPYBACK_END (R166). The copy-back of a commit's update set into the shadow array completes and held bank-1 accesses are served. -/
  | copybackEnd
  /-- CCMD_COMMIT (R164). COMMIT written to SPE_CCMD requests a commit of the dirty coefficients at the commit time. -/
  | ccmdCommit (src : Source) (noramp : Bool)
  /-- CCMD_CANCEL (R167). CANCEL written to SPE_CCMD withdraws a pending commit. -/
  | ccmdCancel (src : Source)
  /-- CCMD_DISCARD (R167). DISCARD written to SPE_CCMD copies values in force over every dirty shadow entry. -/
  | ccmdDiscard (src : Source)
  /-- COEF_WRITE (R163). A write to coefficient bank 1 stores the shadow value and marks it dirty. -/
  | coefWrite (src : Source) (index : Fin 4096) (value : Word)
  /-- SPE_TEMP_WRITE (R142). A write to an SPE temporary is held and applied before step 0 of the next run. -/
  | speTempWrite (src : Source) (index : Fin 256) (value : Word)
  /-- PCMD_LOAD (R169). LOAD written to SPE_PCMD starts validation of the staging program. -/
  | pcmdLoad (src : Source) (len : BitVec 14) (clrt : Bool)
  /-- PCMD_CANCEL (R171). CANCEL written to SPE_PCMD withdraws a LOAD that is validating or pending. -/
  | pcmdCancel (src : Source)
  /-- LOAD_VALIDATED (R169). Load validation ends after LEN + 64 cycles, leaving the program pending or refused. -/
  | loadValidated
  /-- SPE_DLCTL (R159). A write to a delay-line control register changes EN, LEN or FMT from the next sample boundary. -/
  | speDlctl (src : Source) (j : Fin 64) (value : Word)
  /-- DELAY_CLEAR (R160). Writing CLEAR starts zero-filling a delay line at the boundary where the write takes effect. -/
  | delayClear (src : Source) (j : Fin 64) (value : Word)
  /-- DELAY_CLEAR_END (R160). A delay-line clear finishes and CLEARING clears. -/
  | delayClearEnd (j : Fin 64)
  /-- NOP (R188). Core instruction that does nothing. -/
  | nop (k : Fin 8)
  /-- MOV (R188). Core instruction copying a source operand to a destination. -/
  | mov (k : Fin 8)
  /-- MOVS (R188). Core instruction copying with sign extension to a larger size. -/
  | movs (k : Fin 8)
  /-- MOVZ (R188). Core instruction copying with zero extension to a larger size. -/
  | movz (k : Fin 8)
  /-- CLR (R188). Core instruction writing 0 to its destination. -/
  | clr (k : Fin 8)
  /-- LEA (R188). Core instruction writing the address of its source operand. -/
  | lea (k : Fin 8)
  /-- LDP (R188). Core instruction loading an address pointer or WP. -/
  | ldp (k : Fin 8)
  /-- STP (R188). Core instruction storing an address pointer or WP. -/
  | stp (k : Fin 8)
  /-- LDSW (R179). Core instruction loading the status word. -/
  | ldsw (k : Fin 8)
  /-- STSW (R179). Core instruction storing the status word. -/
  | stsw (k : Fin 8)
  /-- CAS (R199). Core instruction performing an atomic compare and swap on an aligned word. -/
  | cas (k : Fin 8)
  /-- XADD (R199). Core instruction performing an atomic fetch and add on an aligned word. -/
  | xadd (k : Fin 8)
  /-- ADD (R191). Core instruction adding two operands. -/
  | add (k : Fin 8)
  /-- ADDC (R192). Core instruction adding two operands and the carry. -/
  | addc (k : Fin 8)
  /-- SUB (R191). Core instruction subtracting two operands. -/
  | sub (k : Fin 8)
  /-- SUBC (R192). Core instruction subtracting two operands and the borrow. -/
  | subc (k : Fin 8)
  /-- ADDS (R188). Core instruction adding with signed saturation. -/
  | adds (k : Fin 8)
  /-- SUBS (R188). Core instruction subtracting with signed saturation. -/
  | subs (k : Fin 8)
  /-- NEG (R191). Core instruction negating its source. -/
  | neg (k : Fin 8)
  /-- ABS (R188). Core instruction taking the absolute value of its source. -/
  | abs (k : Fin 8)
  /-- CMP (R191). Core instruction setting flags from a subtraction without writing. -/
  | cmp (k : Fin 8)
  /-- TST (R188). Core instruction setting flags from its operand. -/
  | tst (k : Fin 8)
  /-- MIN (R188). Core instruction writing the smaller of two operands. -/
  | min (k : Fin 8)
  /-- MAX (R188). Core instruction writing the larger of two operands. -/
  | max (k : Fin 8)
  /-- MUL (R188). Core instruction writing the low bits of a product. -/
  | mul (k : Fin 8)
  /-- DIV (R194). Core instruction writing a quotient or remainder, trapping on division by zero. -/
  | div (k : Fin 8)
  /-- AND (R188). Core instruction computing a bitwise AND. -/
  | and (k : Fin 8)
  /-- OR (R188). Core instruction computing a bitwise OR. -/
  | or (k : Fin 8)
  /-- XOR (R188). Core instruction computing a bitwise XOR. -/
  | xor (k : Fin 8)
  /-- ANDN (R188). Core instruction computing a AND NOT b. -/
  | andn (k : Fin 8)
  /-- NOT (R188). Core instruction computing a bitwise NOT. -/
  | not (k : Fin 8)
  /-- SHL (R193). Core instruction shifting left with zero fill. -/
  | shl (k : Fin 8)
  /-- SHR (R193). Core instruction shifting right with zero fill. -/
  | shr (k : Fin 8)
  /-- SAR (R193). Core instruction shifting right with sign fill. -/
  | sar (k : Fin 8)
  /-- ROL (R193). Core instruction rotating left. -/
  | rol (k : Fin 8)
  /-- BFX (R195). Core instruction extracting a bit field. -/
  | bfx (k : Fin 8)
  /-- BFI (R195). Core instruction inserting a bit field. -/
  | bfi (k : Fin 8)
  /-- CLZ (R196). Core instruction counting leading zeros. -/
  | clz (k : Fin 8)
  /-- CLS (R196). Core instruction counting leading sign bits. -/
  | cls (k : Fin 8)
  /-- PERM (R197). Core instruction permuting bytes of two words. -/
  | perm (k : Fin 8)
  /-- FTOA (R198). Core instruction widening a fraction exactly into accumulator format. -/
  | ftoa (k : Fin 8)
  /-- RNDA (R198). Core instruction rounding and saturating an accumulator to a fraction. -/
  | rnda (k : Fin 8)
  /-- MULF (R198). Core instruction forming a rounded, saturated fractional product. -/
  | mulf (k : Fin 8)
  /-- MACF (R198). Core instruction adding a fractional product to an accumulator. -/
  | macf (k : Fin 8)
  /-- MSCF (R198). Core instruction subtracting a fractional product from an accumulator. -/
  | mscf (k : Fin 8)
  /-- MACM (R200). Core instruction forming a filter tap and moving the sample up one place. -/
  | macm (k : Fin 8)
  /-- BCC (R190). Core conditional branch taken when COND holds. -/
  | bcc (k : Fin 8)
  /-- BAL (R188). Core instruction branching and writing the link address. -/
  | bal (k : Fin 8)
  /-- JMP (R188). Core instruction jumping to an address operand. -/
  | jmp (k : Fin 8)
  /-- DONE (R206). Core instruction ending the item with a status, releasing successors and writing any completion record. -/
  | done (k : Fin 8)
  /-- POST (R207). Core instruction asking the Dispatcher to create an item from a descriptor image. -/
  | post (k : Fin 8)
  /-- SIGNAL (R208). Core instruction pulling one peg of a descriptor. -/
  | signal (k : Fin 8)
  /-- CANCEL (R208). Core instruction cancelling a descriptor. -/
  | cancel (k : Fin 8)
  /-- SEND (R209). Core instruction checking and queuing a Trail message image. -/
  | send (k : Fin 8)
  /-- TIME (R201). Core instruction writing the 64-bit trail time captured at one instant. -/
  | time (k : Fin 8)
  /-- CYC (R201). Core instruction writing the cycles the item has used. -/
  | cyc (k : Fin 8)
  /-- TRAP (R205). Core instruction ending the item with TRAP_USER and a code. -/
  | trap (k : Fin 8)
  /-- TRAP_BUDGET (R203). The item's cycle count reaches its budget before a fetch and the item ends with TRAP_BUDGET. -/
  | trapBudget (k : Fin 8)
  /-- SUCCESSOR_LIST_ENTRY (R217). A successor-list entry read from the Basin returns and its peg pull or cascade is applied. -/
  | successorListEntry
  /-- DISPATCH (R221). The Dispatcher gives the highest-priority oldest READY item to the lowest idle eligible core. -/
  | dispatch
  /-- INSTANTIATE (R225). An occupied source-ring entry is turned into a READY item from its template once a descriptor and credit are free. -/
  | instantiate (q : Fin 12)
  /-- DSP_POST (R214). POST written to DSP_CMD creates an item from the image at DSP_IMGADR. -/
  | dspPost (src : Source)
  /-- DSP_SIGNAL (R215). SIGNAL written to DSP_CMD pulls one peg of a descriptor. -/
  | dspSignal (src : Source) (index : BitVec 10)
  /-- DSP_CANCEL (R219). CANCEL written to DSP_CMD cancels or frees a descriptor according to its state. -/
  | dspCancel (src : Source) (index : BitVec 10)
  /-- DSP_DSEL (R232). Writing DSP_DSEL copies a descriptor into DSP_DWORD0–7 at one instant. -/
  | dspDsel (src : Source) (index : BitVec 10)
  /-- SWEEP_REGION (R249). The sweep borrows the next 256-byte region, saves, march-tests and restores it. -/
  | sweepRegion (bad : List (Fin 64))
  /-- ECC_WRITEBACK (R245). A corrected word is written back when its bank's write port is first free. -/
  | eccWriteback (w : Nat)
  /-- REMAP_COMPLETE (R247). The copy of a remapped row to its spare finishes. -/
  | remapComplete
  /-- BASIN_CLEAR_END (R254). The power-up clear of every Basin word ends and waiting accesses proceed. -/
  | basinClearEnd
  /-- FRAME_START (R19). The trailhead, or a standby that took over, starts one frame on each port every trail cycle. -/
  | frameStart
  /-- FRAME_HEADER (R268). A received frame header has been checked and the node starts forwarding the copy cut-through or wraps it. -/
  | frameHeader (p : Port) (bytes : List Byte) (rx : Nat)
  /-- FRAME_RECEIVED (R267). A whole copy has been received and is judged good or bad, with CRC counting, delay measurement and loop update. -/
  | frameReceived (p : Port) (bytes : List Byte) (codeErrors : Nat) (rx : Nat)
  /-- FRAME_DELIVERY (R287). A good copy is delivered to the engines 4 ticks after its last character: events queued and slot samples buffered. -/
  | frameDelivery (p : Port)
  /-- EVENT_MESSAGE (R305). A well-formed event message that selects the node is window-checked and queued or discarded. -/
  | eventMessage (bytes : List Byte)
  /-- CMD_READ (R308). A CMD_READ command reads COUNT words and is answered with a REPLY. -/
  | cmdRead (bytes : List Byte)
  /-- CMD_WRITE (R458). A CMD_WRITE command writes COUNT words all or none and is answered with a REPLY. -/
  | cmdWrite (bytes : List Byte)
  /-- TIME_SNAP (R290). A TIME_SNAP command replies with trail time captured at one instant. -/
  | timeSnap (bytes : List Byte)
  /-- CORE_CMD (R308). A CORE_CMD command queues its record on source TCMD and is answered. -/
  | coreCmd (bytes : List Byte)
  /-- REPLY (R309). A REPLY ends an outstanding command or causes its repeat after E_FULL or E_BUSY. -/
  | reply (bytes : List Byte)
  /-- COMMAND_TIMEOUT (R309). No REPLY arrives within TIMEOUT and the command is repeated or ends with E_TIMEOUT. -/
  | commandTimeout (node : BitVec 11)
  /-- HELLO_TIMER (R294). The HELLO interval expires and the node sends a HELLO in both copies. -/
  | helloTimer
  /-- HELLO (R295). The trailhead checks a HELLO and answers with ADMIT or REFUSE, or refreshes an admitted node. -/
  | hello (bytes : List Byte)
  /-- ADMIT (R297). A node whose serial matches an ADMIT takes its number, lead and reference hash and enters LOCKING. -/
  | admitMsg (bytes : List Byte)
  /-- ADMIT_REPEAT (R297). The trailhead repeats an unanswered ADMIT every 10 ms and frees the number after five repeats. -/
  | admitRepeat (serial : BitVec 64)
  /-- REFUSE (R297). A REFUSE tells a node that its HELLO failed the admission checks. -/
  | refuse (bytes : List Byte)
  /-- MAPSET (R299). A MAPSET message carries node-to-position entries of a map epoch. -/
  | mapset (bytes : List Byte)
  /-- SLOTSET (R299). A SLOTSET message carries slot owner positions of a map epoch. -/
  | slotset (bytes : List Byte)
  /-- MAP_REPEAT (R299). The trailhead repeats the whole current map every 100 ms. -/
  | mapRepeat
  /-- NODE_ABSENT (R296). The trailhead has heard nothing from an admitted node for 1 s and marks it absent. -/
  | nodeAbsent (node : BitVec 11)
  /-- HEAD_CLAIM (R316). A generating node that receives HEAD_CLAIM stops generating and joins as a member. -/
  | headClaim (bytes : List Byte)
  /-- HEAD_TAKEOVER (R315). An armed standby misses frame S on both ports and starts generating frames as trailhead. -/
  | headTakeover
  /-- HEAD_LISTEN_END (R316). A head-eligible node has listened 2 ms and either generates frames or joins. -/
  | headListenEnd
  /-- SIGNAL_DETECT (R262). Signal energy appears on a DOWN port and it enters SIGNAL. -/
  | signalDetect (p : Port)
  /-- COMMA_FOUND (R262). The receiver finds a comma boundary and the port enters ALIGNING. -/
  | commaFound (p : Port)
  /-- TRAINING_SET (R262). A training set is received, counting towards alignment and UP. -/
  | trainingSet (p : Port) (set : TrainSet)
  /-- LOS (R264). Loss of signal drops the copy, counts, and returns the port to DOWN. -/
  | los (p : Port)
  /-- TRAINING_FAILURE (R263). A port not UP within 10 ms of SIGNAL counts a failure and returns to DOWN. -/
  | trainingFailure (p : Port)
  /-- PORT_REALIGN (R265). After 4 frames with misplaced commas the port re-aligns on the latest comma. -/
  | portRealign (p : Port)
  /-- RELAY_TIME (R293). TRAIL_RELAYT after BYPASSn rises expires and the ports start training. -/
  | relayTime
  /-- LOCKED (R284). 256 consecutive good frames with |e| ≤ 2 ns put the node in LOCKED. -/
  | locked
  /-- HOLDOVER (R284). 32 trail cycles with no good copy put the node in HOLDOVER. -/
  | holdover
  /-- HOLDOVER_EXIT (R285). After 16 good frames the node slews or starts a hard realignment. -/
  | holdoverExit (e : Int)
  /-- SLEW_END (R285). Slewing brings e within 2 ns and the node returns to LOCKED. -/
  | slewEnd
  /-- REALIGN_MUTE_END (R286). The 2 ms realignment mute ends at a boundary and the sinks resume. -/
  | realignMuteEnd
  /-- TRAIL_LEAD_WRITE (R306). A trailhead write to TRAIL_LEAD is sent as a LEAD event stamped two old leads later. -/
  | trailLeadWrite (src : Source) (value : Word)
  /-- SNAP (R290). Writing SNAP captures all 64 bits of trail time into TRAIL_SNAPLO and TRAIL_SNAPHI. -/
  | snap (src : Source)
  /-- TRAIL_TIMELO_READ (R290). Reading TRAIL_TIMELO captures the high word of the same instant. -/
  | trailTimeloRead (src : Source)
  /-- APORT_CTL (R338). A write to an audio port's enables starts or stops directions at the next sample boundary. -/
  | aportCtl (src : Source) (p : Fin 8) (value : Word)
  /-- SAP_FRAME_RECEIVED (R326). A slave port completes a received frame into its FIFO, measuring rate and checking read-back. -/
  | sapFrameReceived (p : Fin 6) (frame : PortFrame)
  /-- TX_FRAME_START (R326). An external frame start on a slave port takes the next frame from its transmit FIFO. -/
  | txFrameStart (p : Fin 4)
  /-- CLKSTOP (R328). No FS edge or lock within 2T mutes the port and posts CLKLOSS. -/
  | clkstop (p : Fin 9)
  /-- RATECHG (R328). 16 consecutive off-rate frames mute the port as a rate change. -/
  | ratechg (p : Fin 9)
  /-- CLKBACK (R328). 256 stable frames at the system rate unmute the port at a boundary. -/
  | clkback (p : Fin 9)
  /-- CS_BLOCK (R335). A 192-frame channel-status block completes and is checked and shown. -/
  | csBlock (p : Fin 2) (cs : List Byte) (ub : List Byte)
  /-- CSUPD (R337). Writing CSUPD stages the transmitter's channel-status and user bits for the next block. -/
  | csupd (src : Source) (p : Fin 8) (value : Word)
  /-- APORT_LOOPCTL (R339). A write to APORT_LOOPCTL enables or reconfigures the buffer-level loop. -/
  | aportLoopctl (src : Source) (value : Word)
  /-- LOOP_RELEASE (R340). The loop at its limit for 10 s, or a muted source, releases it to nominal frequency. -/
  | loopRelease
  /-- ADAC_CTL (R346). A write to ADAC_CTL changes MUTE and starts a 64-sample rise or fall. -/
  | adacCtl (src : Source) (value : Word)
  /-- DAC_FADE_END (R346). A 64-sample DAC fall ends and the mute switch closes at the next boundary. -/
  | dacFadeEnd (c : Fin 4)
  /-- COUT_CTL (R354). A write to COUT_CTL changes range or source, starting a range sequence where needed. -/
  | coutCtl (src : Source) (c : Fin 8) (value : Word)
  /-- SLEW_STEP (R353). At a step instant a control output moves toward its target by at most STEP. -/
  | slewStep (c : Fin 8)
  /-- RANGE_CLAMP_END (R354). The 2 µs clamp of a range change ends and the output ramps on the new range. -/
  | rangeClampEnd (c : Fin 8)
  /-- OUTPUT_SHORT (R358). A current limit active for 1 ms posts SHORT and counts a channel error. -/
  | outputShort (u : OutUnit)
  /-- COMPL (R358). A current output at its compliance limit for 100 µs sets COMPL and counts an error. -/
  | compl (c : Fin 8)
  /-- COMPLCLR (R359). The compliance condition absent for 100 µs clears COMPL. -/
  | complclr (c : Fin 8)
  /-- COMPL_PERSIST (R359). A compliance condition lasting 1 s retires the channel. -/
  | complPersist (c : Fin 8)
  /-- RECEIVE_CHARACTER (R367). A serial character completes and is queued with its error flags, or handled by flow, frame or rate logic. -/
  | receiveCharacter (n : Fin 2) (ch : RxChar)
  /-- TRANSMIT_CHARACTER (R365). A serial character's stop time ends and the next queued character starts. -/
  | transmitCharacter (n : Fin 2)
  /-- DE_TAIL (R374). TAIL bit times after the last stop bit with an empty queue, Sn_DE falls. -/
  | deTail (n : Fin 2)
  /-- SER_DIV (R368). A write to SER_DIVn takes effect at the next character boundary in each direction. -/
  | serDiv (src : Source) (n : Fin 2) (value : Word)
  /-- AUTORATE (R369). Writing AUTORATE arms rate measurement on the next received character. -/
  | autorate (src : Source) (n : Fin 2) (value : Word)
  /-- SER_RXDATA (R370). A read of SER_RXDATAn returns and removes the oldest receive entry. -/
  | serRxdata (src : Source) (n : Fin 2)
  /-- SER_TXDATA (R370). A write to SER_TXDATAn queues a character or a break. -/
  | serTxdata (src : Source) (n : Fin 2) (value : Word)
  /-- LINE_STUCK (R375). A line low for STUCK_TIME disarms the receiver and posts LINE_STUCK. -/
  | lineStuck (n : Fin 2)
  /-- LINE_IDLE (R375). A line high for one character time rearms the receiver. -/
  | lineIdle (n : Fin 2)
  /-- SEND_HEADER (R377). Writing an ID to SER_FCMDn in mode 2 sends a frame header. -/
  | sendHeader (src : Source) (n : Fin 2) (value : Word)
  /-- FRAME_RESPONSE_TIMEOUT (R377). A frame response not ended in time ends the frame with E_TIMEOUT. -/
  | frameResponseTimeout (n : Fin 2)
  /-- DMX_TRANSMIT_PACKET (R378). The DMX period elapses and the port sends break, mark and the slots of its buffer. -/
  | dmxTransmitPacket (n : Fin 2)
  /-- DMX_RECEIVE_PACKET (R379). A received DMX packet ends and is written to the ring, posted and mapped. -/
  | dmxReceivePacket (n : Fin 2) (pkt : DmxPacket)
  /-- DMXLOSS (R379). 1,250 ms without a valid packet sets DMXLOST and applies the fallback policy. -/
  | dmxloss (n : Fin 2)
  /-- SEND_RDM (R381). SEND written to SER_FCMDn transmits the RDM packet in the buffer. -/
  | sendRdm (src : Source) (n : Fin 2) (value : Word)
  /-- RDM_TIMEOUT (R381). An RDM response is not received or cannot be sent in time and RDM is posted with E_TIMEOUT. -/
  | rdmTimeout (n : Fin 2)
  /-- COMPARE_MATCH (R390). A timer step crosses its compare value, setting CMPF and driving the PWM output inactive. -/
  | compareMatch (n : Fin 16)
  /-- TIMER_WRAP (R387). A timer count wraps, setting OVF, activating PWM output and applying staged CMP and PER. -/
  | timerWrap (n : Fin 16)
  /-- CAPTURE (R393). A qualified input edge captures the timer count into TMR_CAPn. -/
  | capture (n : Fin 16) (rising : Bool)
  /-- TIMER_SOURCE_CHANGE (R386). At a slow-clock edge the timers change between base-clock and slow-clock steps. -/
  | timerSourceChange
  /-- TMR_CNT_WRITE (R387). A write to TMR_CNTn jumps the count at the next step. -/
  | tmrCntWrite (src : Source) (n : Fin 16) (value : Word)
  /-- TMR_CNT_READ (R389). Reading the even channel's count of a linked pair captures the high word. -/
  | tmrCntRead (src : Source) (n : Fin 16)
  /-- TMR_CTL (R391). A write changing MODE loads the count with 0 at the next step. -/
  | tmrCtl (src : Source) (n : Fin 16) (value : Word)
  /-- STAGGER_START (R395). Writing START arms a stagger group for its start time. -/
  | staggerStart (src : Source) (g : Fin 4) (value : Word)
  /-- MODE_LANTERN (R400). PWR_MODECMD with LANTERN starts the transition into LANTERN. -/
  | modeLantern (src : Source)
  /-- MODE_REST (R400). PWR_MODECMD with REST starts the transition into REST. -/
  | modeRest (src : Source)
  /-- MODE_RELAY (R400). PWR_MODECMD with RELAY starts the transition into RELAY. -/
  | modeRelay (src : Source)
  /-- MODE_SERVICE (R400). PWR_MODECMD with SERVICE starts the transition into SERVICE. -/
  | modeService (src : Source)
  /-- MODE_RUN (R400). PWR_MODECMD with RUN starts the Voice Array and SPE at the next boundary. -/
  | modeRun (src : Source)
  /-- MODE_ENTERED (R400). A transition completes once its waits end, BUSY clears and a MODE record is posted. -/
  | modeEntered
  /-- WAKE (R405). WAKEn low for two slow-clock samples wakes a node in REST or LANTERN. -/
  | wake
  /-- WAKE_BURST (R406). The wake listener accepts a wake burst and wakes the node. -/
  | wakeBurst
  /-- PWR_WAKESEND (R406). Writing PWR_WAKESEND sends a wake burst on a Trail port. -/
  | pwrWakesend (src : Source) (value : Word)
  /-- WAKE_BURST_END (R406). The 16 ms wake burst ends and the port carries frames again. -/
  | wakeBurstEnd (p : Port)
  /-- SUPPLY_INVALID (R410). A supply fails while the node runs and a supply reset or stopped ports follow. -/
  | supplyInvalid (u : Supply)
  /-- SUPPLY_VALID (R404). VDDT and VDDA become valid and a waiting transition continues. -/
  | supplyValid (u : Supply)
  /-- COLD_RESET (R414). A power-on reset on VDDAO resets the whole device. -/
  | coldReset
  /-- WARM_RESET (R414). RESETn low or an asserted commanded reset resets the core domain and timers, and boot follows. -/
  | warmReset (cause : WarmCause)
  /-- BROWNOUT (R414). VDDC below 0.74 V for 2 µs cold-resets the core domain. -/
  | brownout
  /-- POWER_OFF (R398). Removal of VDDAO takes the device to OFF. -/
  | powerOff
  /-- SYS_RESET (R415). Writing SYS_RESET with the key requests a warm reset 10 µs later. -/
  | sysReset (src : Source) (value : Word)
  /-- WATCHDOG_EXPIRY (R416). The system watchdog reaches 0 and causes a warm reset with cause WDOG. -/
  | watchdogExpiry
  /-- LXTAL (R411). The 32.768 kHz crystal qualifies and the Lantern domain changes to it. -/
  | lxtal
  /-- LXFAIL (R411). The crystal has not qualified within 1 s and LXFAIL is set. -/
  | lxfail
  /-- OSCOK (R412). The 24.576 MHz source is qualified. -/
  | oscok
  /-- PLL_LOCK (R412). The PLL locks and FCLK runs. -/
  | pllLock
  /-- BOOT (R429). Boot starts reading the flash, choosing a bank and loading its sections. -/
  | boot
  /-- BOOTED (R429). Boot ends, computes the content hash, logs BOOT and enters the target mode or NOPACK SERVICE. -/
  | booted
  /-- PACK_STATUS (R432). The STATUS operation reports PACK_USTAT and PACK_UNEXT. -/
  | packStatus (src : Source)
  /-- BEGIN (R432). BEGIN erases the target bank's commit sector and then the bank. -/
  | packBegin (src : Source)
  /-- ERASE_DONE (R432). The target erase finishes, the state becomes WRITING and ERASED is posted. -/
  | eraseDone
  /-- PACK_WRITE (R432). The WRITE operation programs pack data at NEXT. -/
  | packWrite (src : Source) (offset : Word) (data : List Byte)
  /-- VERIFY (R432). VERIFY starts reading back and checking the written pack. -/
  | verify (src : Source)
  /-- VERIFY_DONE (R432). Verification ends in VERIFIED or FAILED and the record is posted. -/
  | verifyDone
  /-- COMMIT (R432). COMMIT writes the commit record in one page program. -/
  | commit (src : Source)
  /-- COMMIT_DONE (R432). The commit record is programmed and read back, UPDATE is logged and COMMITTED posted. -/
  | commitDone
  /-- ABORT (R432). ABORT stops a session at the next page or sector boundary. -/
  | abort (src : Source)
  /-- RELOAD (R434). RELOAD logs a record and performs a commanded reset followed by boot of the named bank. -/
  | reload (src : Source) (bank : BitVec 2)
  /-- PACK_READ (R432). The READ operation reads flash from an address. -/
  | packRead (src : Source) (offset : Word) (count : Nat)
  /-- FUSE (R432). FUSE programs the 32-byte key hash into the key fuses. -/
  | fuse (src : Source)
  /-- FAULT_LOG_WRITE (R437). A queued fault-log record is programmed into flash and sealed. -/
  | faultLogWrite
  /-- TEST (R443). TEST runs the known-answer test of one unit. -/
  | test (src : Source) (u : BitVec 6)
  /-- TEST_DONE (R443). A unit test ends, setting PASS or retiring the unit, and posts TESTDONE. -/
  | testDone (pass : Bool)
  /-- RETIRE (R444). RETIRE takes a unit out of service as its chapter states and logs it. -/
  | retire (src : Source) (u : BitVec 6)
  /-- READMIT (R446). READMIT tests and returns a retired unit in a stopped state. -/
  | readmit (src : Source) (u : BitVec 6) (pass : Bool)
  /-- SPI_READ (R454). An SPI READ frame reads COUNT words and returns them with STATUS and RCRC. -/
  | spiRead (frame : List Byte)
  /-- SPI_WRITE (R458). An SPI WRITE frame writes COUNT words all or none and returns a status. -/
  | spiWrite (frame : List Byte)
  /-- SPI_TIME (R454). An SPI TIME frame returns trail time captured at the last bit of CCRC. -/
  | spiTime (frame : List Byte)
  /-- SPI_SEND (R460). An SPI SEND frame checks and queues a Trail message image. -/
  | spiSend (frame : List Byte)
  /-- SPI_ABORT (R456). HOST_CSn rises before the last bit of CCRC and the frame is counted and ignored. -/
  | spiAbort (frame : List Byte)
  /-- REGISTER_WRITE (R459). A host, Trail or core write to a register with no row of its own is checked and applied. -/
  | registerWrite (src : Source) (addr : Word) (value : Word)
  /-- RESET_RELEASE (R412). A reset is released, the power-on reset 1 ms after VDDAO is valid or RESETn rising; timers start from 0, PWREN_C rises and start-up begins. -/
  | resetRelease
  /-- WCLK_EDGE (R327). A rising edge on the WCLK ball is measured against the base clock, updating APORT_WCLK, glitch detection and the buffer-level loop's phase. -/
  | wclkEdge (period : Nat) (toBoundary : Nat)
  /-- TRAP_ILLEGAL (R189). A core decodes an opcode word with a reserved MAJOR and ends its item with TRAP_ILLEGAL. -/
  | trapIllegal (k : Fin 8)
  /-- INSTRUCTION_FETCH_FAULT (R181). A core's fetch of an opcode word from a non-executable address, or one with an uncorrectable error, ends the item with TRAP_ADDRESS or TRAP_ECC. -/
  | instructionFetchFault (k : Fin 8)
  /-- PAGE_PROGRAM_DONE (R432). A flash page program of an update or log write completes and the flash is no longer busy. -/
  | pageProgramDone
  deriving DecidableEq, Repr

end Sys2Proof
end

