-- ==== Sys2Proof/Decode.lean ====
section
/-!
DEFINITION. The word that spells a command. No row of spec/opcode_table.json has bits (every fields list is empty, R1), so no word
spells one.
-/
namespace Sys2Proof

/-- The command that a word spells by the table's bits: none, for the table gives no row any. -/
def decodeTableWord (_nbits _w : Nat) : Option Instr := none

end Sys2Proof
end

