-- ==== Sys2Proof/Machine/Bits.lean ====
section
/-!
DEFINITION. Bit fields, sign extension, byte order and sparse stores, once for the whole model: every register
field, every little-endian structure (R8) and every two's complement format (R10) is read through these.
-/
namespace Sys2Proof.Machine

/-- Field [hi:lo] of a number (the manual's NAME[msb:lsb]). -/
def bits (n hi lo : Nat) : Nat := (n >>> lo) % 2 ^ (hi + 1 - lo)

/-- Bit i of a number. -/
def bit (n i : Nat) : Bool := n.testBit i

/-- A Boolean as 0 or 1. -/
def b2n (b : Bool) : Nat := if b then 1 else 0

/-- n with field [hi:lo] replaced by the low bits of v. -/
def putBits (n hi lo v : Nat) : Nat :=
  let w := hi + 1 - lo
  (n >>> (hi + 1)) <<< (hi + 1) + (v % 2 ^ w) <<< lo + n % 2 ^ lo

/-- n with bit i set to b. -/
def putBit (n i : Nat) (b : Bool) : Nat := putBits n i i (b2n b)

/-- The numbers i below 32 whose bits are set in n (a mask register as a list). -/
def onesOf (width n : Nat) : List Nat := (List.range width).filter (bit n)

/-- A mask from a list of bit numbers. -/
def maskOf (l : List Nat) : Nat := l.foldl (fun m i => m ||| 2 ^ i) 0

/-- The two's complement value of the low w bits of n. -/
def sx (w n : Nat) : Int :=
  let m := n % 2 ^ w
  if m < 2 ^ (w - 1) then (m : Int) else (m : Int) - (2 ^ w : Nat)

/-- The w-bit two's complement code of x (wraps). -/
def ux (w : Nat) (x : Int) : Nat := (x % ((2 ^ w : Nat) : Int)).toNat

/-- x limited to lo..hi. -/
def clampI (lo hi x : Int) : Int := if x < lo then lo else if hi < x then hi else x

/-- x saturated to a signed w-bit range. -/
def satS (w : Nat) (x : Int) : Int :=
  clampI (-((2 ^ (w - 1) : Nat) : Int)) (((2 ^ (w - 1) : Nat) : Int) - 1) x

/-- Whether x lies outside a signed w-bit range. -/
def ovfS (w : Nat) (x : Int) : Bool := satS w x != x

/-- x limited to lo..hi, on naturals. -/
def clampN (lo hi x : Nat) : Nat := if x < lo then lo else if hi < x then hi else x

/-- floor(x / 2^n). -/
def sarI (x : Int) (n : Nat) : Int := x / ((2 ^ n : Nat) : Int)

/-- x / 2^n rounded to the nearest integer, ties to even. -/
def rneI (x : Int) (n : Nat) : Int :=
  if n = 0 then x else
  let q := sarI x n
  let r := x - q * ((2 ^ n : Nat) : Int)
  let h := ((2 ^ (n - 1) : Nat) : Int)
  if r > h then q + 1 else if r = h then (if q % 2 = 0 then q else q + 1) else q

/-- x / 2^n rounded half up. -/
def rhuI (x : Int) (n : Nat) : Int :=
  if n = 0 then x else sarI (x + ((2 ^ (n - 1) : Nat) : Int)) n

/-- x / 2^n by rounding mode RM (Table SP-2): 0 toward minus infinity, 1 half up, 2 ties to even, 3 to odd. -/
def roundRM (rm : Nat) (x : Int) (n : Nat) : Int :=
  if n = 0 then x else
  match rm with
  | 0 => sarI x n
  | 1 => rhuI x n
  | 2 => rneI x n
  | _ => let q := sarI x n
         if x = q * ((2 ^ n : Nat) : Int) then q else if q % 2 = 0 then q + 1 else q

/-- A rational rounded to the nearest integer, ties to even. -/
def rneQ (x : Rat) : Int :=
  let q := x.floor
  let r := x - q
  if r > 1/2 then q + 1 else if r = 1/2 then (if q % 2 = 0 then q else q + 1) else q

/-- A natural as n little-endian bytes (R8). -/
def natLE : Nat → Nat → List Byte
  | 0, _ => []
  | n + 1, v => BitVec.ofNat 8 v :: natLE n (v / 256)

/-- Little-endian bytes as a natural (R8). -/
def leNat : List Byte → Nat
  | [] => 0
  | b :: bs => b.toNat + 256 * leNat bs

/-- Byte k of a list, 0 beyond its end. -/
def byteAt (l : List Byte) (k : Nat) : Nat := (l.getD k 0).toNat

/-- The n-byte little-endian field at offset k. -/
def leAt (l : List Byte) (k n : Nat) : Nat := leNat ((l.drop k).take n)

/-- Little-endian 32-bit words of a byte list. -/
def wordsOf : List Byte → List Nat
  | a :: b :: c :: d :: t => leNat [a, b, c, d] :: wordsOf t
  | _ => []

/-- Bytes of a list of 32-bit words. -/
def bytesOfWords (l : List Nat) : List Byte := l.flatMap (natLE 4)

/-- ceil(log2 n) for n ≥ 1, as the number of doublings of 1 that reach n. -/
def log2up (n : Nat) : Nat := if n ≤ 1 then 0 else (n - 1).log2 + 1

/-! ### Sparse stores

A store is a list of (key, value) pairs, keys strictly rising, no entry equal to the default of its key. -/

/-- The value at key k, dflt k where unlisted. -/
def Sp.get {α : Type} (dflt : Nat → α) : List (Nat × α) → Nat → α
  | [], k => dflt k
  | (j, v) :: t, k => if j = k then v else Sp.get dflt t k

/-- The entry at key k, if listed. -/
def Sp.find {α : Type} : List (Nat × α) → Nat → Option α
  | [], _ => none
  | (j, v) :: t, k => if j = k then some v else Sp.find t k

/-- The list without key k. -/
def Sp.del {α : Type} : List (Nat × α) → Nat → List (Nat × α)
  | [], _ => []
  | (j, v) :: t, k => if j = k then Sp.del t k else (j, v) :: Sp.del t k

/-- The list with (k, x) put in its place. -/
def Sp.ins {α : Type} : List (Nat × α) → Nat → α → List (Nat × α)
  | [], k, x => [(k, x)]
  | (j, v) :: t, k, x =>
    if j = k then (k, x) :: t else if k < j then (k, x) :: (j, v) :: t else (j, v) :: Sp.ins t k x

/-- The store with x at key k: unlisted where x is the default of k. -/
def Sp.put {α : Type} [DecidableEq α] (dflt : Nat → α) (l : List (Nat × α)) (k : Nat) (x : α) : List (Nat × α) :=
  if x = dflt k then Sp.del l k else Sp.ins l k x

/-- Keys strictly rise above b. -/
def Sp.risingFrom {α : Type} (b : Nat) : List (Nat × α) → Bool
  | [] => true
  | (j, _) :: t => decide (b ≤ j) && Sp.risingFrom (j + 1) t

/-- The canonical form: keys strictly rising, no entry equal to its default. -/
def Sp.wf {α : Type} [DecidableEq α] (dflt : Nat → α) (l : List (Nat × α)) : Bool :=
  Sp.risingFrom 0 l && l.all (fun p => decide (p.2 ≠ dflt p.1))

/-- The entry i of a list replaced. -/
def setAt {α : Type} (l : List α) (i : Nat) (x : α) : List α := l.set i x

/-- Reflects a w-bit number. -/
def reflect (w n : Nat) : Nat := (List.range w).foldl (fun a i => 2 * a + b2n (bit n i)) 0

end Sys2Proof.Machine
end

