-- ==== Sys2Proof/Machine/Crc.lean ====
section
/-!
DEFINITION. The check codes of the spec: CRC-8 of the SPI frames (R457) and of channel status (R336), CRC-16 of frame headers
and patches (R80, Table TL-3), CRC-32 of frames and packs (Table TL-4, R422).
-/
namespace Sys2Proof.Machine

/-- One byte into a most-significant-bit-first CRC register of w bits. -/
def crcMsbStep (w poly crc : Nat) (b : Byte) : Nat :=
  (List.range 8).foldl
    (fun c _ => if bit c (w - 1) then ((c <<< 1) ^^^ poly) % 2 ^ w else (c <<< 1) % 2 ^ w)
    (crc ^^^ (b.toNat <<< (w - 8)))

/-- One byte into a reflected (least significant bit first) CRC register. -/
def crcLsbStep (poly crc : Nat) (b : Byte) : Nat :=
  (List.range 8).foldl (fun c _ => if bit c 0 then (c >>> 1) ^^^ poly else c >>> 1) (crc ^^^ b.toNat)

/-- CRC-8 of R457: x^8 + x^2 + x + 1, initial value 0xFF. -/
def crc8 (l : List Byte) : Nat := l.foldl (crcMsbStep 8 0x07) 0xFF

/-- CRC-16: 0x1021, initial value 0xFFFF, no reflection, no final XOR (R80, HCRC of Table TL-3). -/
def crc16 (l : List Byte) : Nat := l.foldl (crcMsbStep 16 0x1021) 0xFFFF

/-- CRC-32 IEEE 802.3, reflected, initial value and final XOR 0xFFFF_FFFF (Table TL-4, R422). -/
def crc32 (l : List Byte) : Nat := l.foldl (crcLsbStep 0xEDB88320) 0xFFFFFFFF ^^^ 0xFFFFFFFF

/-- CRC-8 of channel status (R336): x^8 + x^4 + x^3 + x^2 + 1, initial value 0xFF, bit 0 of each byte first. -/
def crcCs (l : List Byte) : Nat := l.foldl (crcLsbStep 0xB8) 0xFF

end Sys2Proof.Machine
end

