-- ==== Sys2Proof/Config.lean ====
section
/-!
DEFINITION. What one implementation fixes and the spec leaves open. Every constant here is opaque and has no
body: no statement can rest on a value of it. Where the spec bounds a value (within 1 of the exact
one, at most a relative error, at most a worst case), the bound is put on it where it is used, in Sys2Proof/Machine/.
-/
namespace Sys2Proof.Config

/-- FREE VALUE. A fresh unconstrained number for each draw: applied to the counter State.fresh. DESIGN CHOICE (log 98, safe). -/
opaque freeNat : Nat → Nat

/-- FREE VALUE. Deviation of the exponent table from the exact increment (R43, R58), by pitch and by rate; used clamped to -1..1. -/
opaque expTableErr : Int → Nat → Int
/-- FREE VALUE. Deviation of SPE LOG from the exactly rounded value (R151), used clamped to -1..1. -/
opaque logErr : Int → Int
/-- FREE VALUE. Deviation of SPE EXP from the exactly rounded value (R151), used clamped to -1..1. -/
opaque expErr : Int → Int
/-- FREE VALUE. Relative deviation of the tangent table of R89 and R92, by pitch and rate code. -/
opaque tanErr : Nat → Nat → Rat
/-- FREE VALUE. Relative deviation of the power table of R89, by resonance. -/
opaque resoErr : Nat → Rat
/-- FREE VALUE. Relative deviation of the square root of 2 as stage 2 of the filter holds it (R90). -/
opaque sqrtTwoErr : Rat
/-- FREE VALUE. Relative deviation of the tilt gains of R92, by tilt. -/
opaque tiltErr : Int → Rat
/-- FREE VALUE. Rounding of LOUD to Q0.16 (R118) and of the mean link delay (R280), which name no mode: true rounds up.
DESIGN CHOICE (log 39, safe). -/
opaque roundUp : Rat → Bool
/-- FREE VALUE. Relative deviation of point i of the sine table (R102). -/
opaque sineErr : Nat → Rat
/-- FREE VALUE. Relative deviation of a square root of R136. -/
opaque sqrtErr : Rat → Rat
/-- FREE VALUE. Relative deviation of a division of R136. -/
opaque divErr : Rat → Rat → Rat
/-- FREE VALUE. Relative deviation of the cosine of R136, by dx, dy and the azimuth. -/
opaque cosErr : Int → Int → Nat → Rat

/-- FREE VALUE. Whether a write of a master to a word reaches its bank in the FCLK cycle of the word's last write (R241): by clock time,
word and master code. -/
opaque sameCycle : Nat → Nat → Nat → Bool

/-- FREE VALUE. The pull of the Trail's loop (R282) for an error in millionths of 2^-8 tick and the pull before, in 1/256 ppm.
DESIGN CHOICE (log 104, safe). -/
opaque trailPull : Int → Int → Int

/-- FREE VALUE. Proportional gain of the buffer-level loop (R339), by BW: 2^-6 ppm for one tick of error. -/
opaque loopKp : Nat → Rat
/-- FREE VALUE. Integral gain of the buffer-level loop (R339), by BW: 2^-6 ppm for one tick of error over one sample. -/
opaque loopKi : Nat → Rat

/-- FREE VALUE. Messages that the transmit queue of SEND and the host holds (R209, R311 give no number); at least 1 is used. -/
opaque txDepth : Nat

/-- Serial number of the part (TRAIL_SERLO, TRAIL_SERHI: "Per part", Table TD-10). -/
opaque serial : Nat

end Sys2Proof.Config
end

