-- ==== Sys2Proof/Machine/RegMap.lean ====
section
/-!
DEFINITION. The register map: the address of every register of Table HI-8 under the manual's name, and one row per register (or array
of registers) with the bits of its fields by access kind and its reset value, from the chapters' register tables.
-/
namespace Sys2Proof.Machine

/-! ### Addresses (Table HI-8) -/
namespace Adr

/-- SYS_ID. -/
def SYS_ID : Nat := 0x02000000
/-- SYS_RESET. -/
def SYS_RESET : Nat := 0x02000010
/-- PWR_MODECMD. -/
def PWR_MODECMD : Nat := 0x02001000
/-- PWR_STAT. -/
def PWR_STAT : Nat := 0x02001004
/-- PWR_RSTCAUSE. -/
def PWR_RSTCAUSE : Nat := 0x02001008
/-- PWR_WAKECFG. -/
def PWR_WAKECFG : Nat := 0x0200100C
/-- PWR_WDOG. -/
def PWR_WDOG : Nat := 0x02001010
/-- PWR_SUPPLY. -/
def PWR_SUPPLY : Nat := 0x02001014
/-- PWR_WAKESEND. -/
def PWR_WAKESEND : Nat := 0x02001018
/-- CLK_RATE. -/
def CLK_RATE : Nat := 0x02002000
/-- CLK_PHASE. -/
def CLK_PHASE : Nat := 0x02002004
/-- CLK_STAT. -/
def CLK_STAT : Nat := 0x02002008
/-- DSP_STAT. -/
def DSP_STAT : Nat := 0x02003000
/-- DSP_CMD. -/
def DSP_CMD : Nat := 0x02003004
/-- DSP_CMDRES. -/
def DSP_CMDRES : Nat := 0x02003008
/-- DSP_IMGADR. -/
def DSP_IMGADR : Nat := 0x0200300C
/-- DSP_CQBASE. -/
def DSP_CQBASE : Nat := 0x02003010
/-- DSP_CQCTL. -/
def DSP_CQCTL : Nat := 0x02003014
/-- DSP_CQWR. -/
def DSP_CQWR : Nat := 0x02003018
/-- DSP_CQRD. -/
def DSP_CQRD : Nat := 0x0200301C
/-- DSP_DSEL. -/
def DSP_DSEL : Nat := 0x02003020
/-- DSP_PEGUF. -/
def DSP_PEGUF : Nat := 0x02003024
/-- DSP_BADSUCC. -/
def DSP_BADSUCC : Nat := 0x02003028
/-- DSP_SRCCFG. -/
def DSP_SRCCFG (p : Nat) : Nat := 0x02003100 + 4 * p
/-- DSP_SRCBASE. -/
def DSP_SRCBASE (p : Nat) : Nat := 0x02003140 + 4 * p
/-- DSP_SRCLOST. -/
def DSP_SRCLOST (p : Nat) : Nat := 0x02003180 + 4 * p
/-- DSP_DWORD. -/
def DSP_DWORD (p : Nat) : Nat := 0x02003200 + 4 * p
/-- BASIN_STAT. -/
def BASIN_STAT : Nat := 0x02004000
/-- BASIN_CECNT. -/
def BASIN_CECNT : Nat := 0x02004004
/-- BASIN_UECNT. -/
def BASIN_UECNT : Nat := 0x02004008
/-- BASIN_ERRADR. -/
def BASIN_ERRADR : Nat := 0x0200400C
/-- BASIN_REPWIN. -/
def BASIN_REPWIN : Nat := 0x02004010
/-- BASIN_REPFAIL. -/
def BASIN_REPFAIL : Nat := 0x02004014
/-- BASIN_SWCTL. -/
def BASIN_SWCTL : Nat := 0x02004040
/-- BASIN_SWSTAT. -/
def BASIN_SWSTAT : Nat := 0x02004044
/-- BASIN_SWPASS. -/
def BASIN_SWPASS : Nat := 0x02004048
/-- BASIN_COLFLAG. -/
def BASIN_COLFLAG : Nat := 0x02004050
/-- BASIN_SPARE. -/
def BASIN_SPARE (p : Nat) : Nat := 0x02004020 + 4 * p
/-- BASIN_CONF. -/
def BASIN_CONF (p : Nat) : Nat := 0x02004080 + 4 * p
/-- VOICE_WAVEBASE. -/
def VOICE_WAVEBASE : Nat := 0x02005000
/-- VOICE_WAVESIZE. -/
def VOICE_WAVESIZE : Nat := 0x02005004
/-- VOICE_PATCHBASE. -/
def VOICE_PATCHBASE : Nat := 0x02005008
/-- VOICE_SEEDGEN. -/
def VOICE_SEEDGEN : Nat := 0x0200500C
/-- VOICE_BADWAVE. -/
def VOICE_BADWAVE : Nat := 0x02005010
/-- VOICE_BADPATCH. -/
def VOICE_BADPATCH : Nat := 0x02005014
/-- VOICE_BUSCLIP. -/
def VOICE_BUSCLIP : Nat := 0x02005018
/-- VOICE_DROPPED. -/
def VOICE_DROPPED : Nat := 0x0200501C
/-- VOICE_STEALS. -/
def VOICE_STEALS : Nat := 0x02005020
/-- VOICE_NOTICELOST. -/
def VOICE_NOTICELOST : Nat := 0x02005024
/-- VOICE_MIRRORBRK. -/
def VOICE_MIRRORBRK : Nat := 0x02005028
/-- VOICE_HELDDROP. -/
def VOICE_HELDDROP : Nat := 0x0200502C
/-- VOICE_NOTICEEN. -/
def VOICE_NOTICEEN : Nat := 0x02005030
/-- VOICE_EVCMD. -/
def VOICE_EVCMD : Nat := 0x02005034
/-- VOICE_EVADR. -/
def VOICE_EVADR : Nat := 0x02005038
/-- VOICE_HASHLO. -/
def VOICE_HASHLO : Nat := 0x02005040
/-- VOICE_HASHHI. -/
def VOICE_HASHHI : Nat := 0x02005044
/-- VOICE_REFHASHLO. -/
def VOICE_REFHASHLO : Nat := 0x02005048
/-- VOICE_REFHASHHI. -/
def VOICE_REFHASHHI : Nat := 0x0200504C
/-- VOICE_HASHCTL. -/
def VOICE_HASHCTL : Nat := 0x02005050
/-- VOICE_NODEPOSXY. -/
def VOICE_NODEPOSXY : Nat := 0x02005060
/-- VOICE_NODEPOSZ. -/
def VOICE_NODEPOSZ : Nat := 0x02005064
/-- VOICE_LIGHTCFG. -/
def VOICE_LIGHTCFG : Nat := 0x02005068
/-- VOICE_SLICESTAT0. -/
def VOICE_SLICESTAT0 : Nat := 0x0200506C
/-- VOICE_SLICESTAT1. -/
def VOICE_SLICESTAT1 : Nat := 0x02005070
/-- VOICE_GRPCFG. -/
def VOICE_GRPCFG (p : Nat) : Nat := 0x02005080 + 4 * p
/-- VOICE_PIN. -/
def VOICE_PIN (p : Nat) : Nat := 0x02005100 + 4 * p
/-- VOICE_GRPSLICE. -/
def VOICE_GRPSLICE (p : Nat) : Nat := 0x02005180 + 4 * p
/-- SPE_STAT. -/
def SPE_STAT : Nat := 0x02006000
/-- SPE_PCMD. -/
def SPE_PCMD : Nat := 0x02006004
/-- SPE_PSTAT. -/
def SPE_PSTAT : Nat := 0x02006008
/-- SPE_PERR. -/
def SPE_PERR : Nat := 0x0200600C
/-- SPE_PTIMELO. -/
def SPE_PTIMELO : Nat := 0x02006010
/-- SPE_PTIMEHI. -/
def SPE_PTIMEHI : Nat := 0x02006014
/-- SPE_CCMD. -/
def SPE_CCMD : Nat := 0x02006018
/-- SPE_CSTAT. -/
def SPE_CSTAT : Nat := 0x0200601C
/-- SPE_CTIMELO. -/
def SPE_CTIMELO : Nat := 0x02006020
/-- SPE_CTIMEHI. -/
def SPE_CTIMEHI : Nat := 0x02006024
/-- SPE_BLOCK. -/
def SPE_BLOCK : Nat := 0x02006028
/-- SPE_DREGBASE. -/
def SPE_DREGBASE : Nat := 0x0200602C
/-- SPE_DREGSIZE. -/
def SPE_DREGSIZE : Nat := 0x02006030
/-- SPE_RLEN. -/
def SPE_RLEN (p : Nat) : Nat := 0x02006040 + 4 * p
/-- SPE_DLADR. -/
def SPE_DLADR (p : Nat) : Nat := 0x02006100 + 4 * p
/-- SPE_DLCTL. -/
def SPE_DLCTL (p : Nat) : Nat := 0x02006200 + 4 * p
/-- SPE_DLWP. -/
def SPE_DLWP (p : Nat) : Nat := 0x02006300 + 4 * p
/-- SPE_INMAP. -/
def SPE_INMAP (p : Nat) : Nat := 0x02006400 + 4 * p
/-- SPE_OUTMAP. -/
def SPE_OUTMAP (p : Nat) : Nat := 0x02006500 + 4 * p
/-- SPE_TAPADR. -/
def SPE_TAPADR (p : Nat) : Nat := 0x02006600 + 4 * p
/-- SPE_TAPCTL. -/
def SPE_TAPCTL (p : Nat) : Nat := 0x02006680 + 4 * p
/-- SPE_TAPWP. -/
def SPE_TAPWP (p : Nat) : Nat := 0x02006700 + 4 * p
/-- SPE_RCLASS. -/
def SPE_RCLASS (p : Nat) : Nat := 0x02006800 + 4 * p
/-- TRAIL_STAT. -/
def TRAIL_STAT : Nat := 0x02007000
/-- TRAIL_TIMELO. -/
def TRAIL_TIMELO : Nat := 0x02007004
/-- TRAIL_TIMEHI. -/
def TRAIL_TIMEHI : Nat := 0x02007008
/-- TRAIL_SNAPCTL. -/
def TRAIL_SNAPCTL : Nat := 0x0200700C
/-- TRAIL_SNAPLO. -/
def TRAIL_SNAPLO : Nat := 0x02007010
/-- TRAIL_SNAPHI. -/
def TRAIL_SNAPHI : Nat := 0x02007014
/-- TRAIL_LEAD. -/
def TRAIL_LEAD : Nat := 0x02007018
/-- TRAIL_OFFSET. -/
def TRAIL_OFFSET : Nat := 0x0200701C
/-- TRAIL_POS. -/
def TRAIL_POS : Nat := 0x02007020
/-- TRAIL_PSTAT. -/
def TRAIL_PSTAT (p : Nat) : Nat := 0x02007040 + 4 * p
/-- TRAIL_PATH. -/
def TRAIL_PATH (p : Nat) : Nat := 0x02007048 + 4 * p
/-- TRAIL_LINK. -/
def TRAIL_LINK (p : Nat) : Nat := 0x02007050 + 4 * p
/-- TRAIL_ASYM. -/
def TRAIL_ASYM (p : Nat) : Nat := 0x02007058 + 4 * p
/-- TRAIL_CRCERRA. -/
def TRAIL_CRCERRA : Nat := 0x02007060
/-- TRAIL_CRCERRB. -/
def TRAIL_CRCERRB : Nat := 0x02007064
/-- TRAIL_POISONA. -/
def TRAIL_POISONA : Nat := 0x02007068
/-- TRAIL_POISONB. -/
def TRAIL_POISONB : Nat := 0x0200706C
/-- TRAIL_CODEERRA. -/
def TRAIL_CODEERRA : Nat := 0x02007070
/-- TRAIL_CODEERRB. -/
def TRAIL_CODEERRB : Nat := 0x02007074
/-- TRAIL_LOSA. -/
def TRAIL_LOSA : Nat := 0x02007078
/-- TRAIL_LOSB. -/
def TRAIL_LOSB : Nat := 0x0200707C
/-- TRAIL_LATEEV. -/
def TRAIL_LATEEV : Nat := 0x02007080
/-- TRAIL_FOREIGN. -/
def TRAIL_FOREIGN : Nat := 0x02007084
/-- TRAIL_DUPDROP. -/
def TRAIL_DUPDROP : Nat := 0x02007088
/-- TRAIL_STALEMSG. -/
def TRAIL_STALEMSG : Nat := 0x0200708C
/-- TRAIL_RELAYLATE. -/
def TRAIL_RELAYLATE : Nat := 0x02007090
/-- TRAIL_RTDISC. -/
def TRAIL_RTDISC : Nat := 0x02007094
/-- TRAIL_TAPMISS. -/
def TRAIL_TAPMISS : Nat := 0x02007098
/-- TRAIL_ROLE. -/
def TRAIL_ROLE : Nat := 0x02007100
/-- TRAIL_SYSID. -/
def TRAIL_SYSID : Nat := 0x02007104
/-- TRAIL_NODE. -/
def TRAIL_NODE : Nat := 0x02007108
/-- TRAIL_ZONEMEM0. -/
def TRAIL_ZONEMEM0 : Nat := 0x0200710C
/-- TRAIL_ZONEMEM1. -/
def TRAIL_ZONEMEM1 : Nat := 0x02007110
/-- TRAIL_SERLO. -/
def TRAIL_SERLO : Nat := 0x02007114
/-- TRAIL_SERHI. -/
def TRAIL_SERHI : Nat := 0x02007118
/-- TRAIL_AUTHCTL. -/
def TRAIL_AUTHCTL : Nat := 0x0200711C
/-- TRAIL_RELAYT. -/
def TRAIL_RELAYT : Nat := 0x02007120
/-- TRAIL_CMDCFG. -/
def TRAIL_CMDCFG : Nat := 0x02007124
/-- TRAIL_EPOCH. -/
def TRAIL_EPOCH : Nat := 0x02007128
/-- TRAIL_UNKMSG. -/
def TRAIL_UNKMSG : Nat := 0x02007130
/-- TRAIL_BADMSG. -/
def TRAIL_BADMSG : Nat := 0x02007134
/-- TRAIL_AUTHFAIL. -/
def TRAIL_AUTHFAIL : Nat := 0x02007138
/-- TRAIL_EVFULL. -/
def TRAIL_EVFULL : Nat := 0x0200713C
/-- TRAIL_RECOVLOST. -/
def TRAIL_RECOVLOST : Nat := 0x02007140
/-- TRAIL_SLOTOWN. -/
def TRAIL_SLOTOWN (p : Nat) : Nat := 0x02007400 + 4 * p
/-- APORT_CTL. -/
def APORT_CTL (p : Nat) : Nat := 0x02008000 + 256 * p
/-- APORT_FMT. -/
def APORT_FMT (p : Nat) : Nat := 0x02008004 + 256 * p
/-- APORT_STAT. -/
def APORT_STAT (p : Nat) : Nat := 0x02008008 + 256 * p
/-- APORT_RATE. -/
def APORT_RATE (p : Nat) : Nat := 0x0200800C + 256 * p
/-- APORT_RXBASE. -/
def APORT_RXBASE (p : Nat) : Nat := 0x02008010 + 256 * p
/-- APORT_RXRCTL. -/
def APORT_RXRCTL (p : Nat) : Nat := 0x02008014 + 256 * p
/-- APORT_RXWR. -/
def APORT_RXWR (p : Nat) : Nat := 0x02008018 + 256 * p
/-- APORT_RXRD. -/
def APORT_RXRD (p : Nat) : Nat := 0x0200801C + 256 * p
/-- APORT_TXBASE. -/
def APORT_TXBASE (p : Nat) : Nat := 0x02008020 + 256 * p
/-- APORT_TXRCTL. -/
def APORT_TXRCTL (p : Nat) : Nat := 0x02008024 + 256 * p
/-- APORT_TXWR. -/
def APORT_TXWR (p : Nat) : Nat := 0x02008028 + 256 * p
/-- APORT_TXRD. -/
def APORT_TXRD (p : Nat) : Nat := 0x0200802C + 256 * p
/-- APORT_TLEVEL. -/
def APORT_TLEVEL (p : Nat) : Nat := 0x02008030 + 256 * p
/-- APORT_UNDER. -/
def APORT_UNDER (p : Nat) : Nat := 0x02008040 + 256 * p
/-- APORT_OVER. -/
def APORT_OVER (p : Nat) : Nat := 0x02008044 + 256 * p
/-- APORT_GLITCH. -/
def APORT_GLITCH (p : Nat) : Nat := 0x02008048 + 256 * p
/-- APORT_RATECHG. -/
def APORT_RATECHG (p : Nat) : Nat := 0x0200804C + 256 * p
/-- APORT_PARERR. -/
def APORT_PARERR (p : Nat) : Nat := 0x02008050 + 256 * p
/-- APORT_CSCRC. -/
def APORT_CSCRC (p : Nat) : Nat := 0x02008054 + 256 * p
/-- APORT_VALIDCNT. -/
def APORT_VALIDCNT (p : Nat) : Nat := 0x02008058 + 256 * p
/-- APORT_DMAERR. -/
def APORT_DMAERR (p : Nat) : Nat := 0x0200805C + 256 * p
/-- APORT_CSCTL. -/
def APORT_CSCTL (p : Nat) : Nat := 0x020080F0 + 256 * p
/-- APORT_CS. -/
def APORT_CS (p q : Nat) : Nat := 0x02008080 + 256 * p + 4 * q
/-- APORT_UB. -/
def APORT_UB (p q : Nat) : Nat := 0x020080C0 + 256 * p + 4 * q
/-- APORT_LOOPCTL. -/
def APORT_LOOPCTL : Nat := 0x02008800
/-- APORT_LOOPSTAT. -/
def APORT_LOOPSTAT : Nat := 0x02008804
/-- APORT_WCLK. -/
def APORT_WCLK : Nat := 0x02008808
/-- ADAC_CTL. -/
def ADAC_CTL : Nat := 0x02009000
/-- ADAC_STAT. -/
def ADAC_STAT : Nat := 0x02009004
/-- COUT_CTL. -/
def COUT_CTL (p : Nat) : Nat := 0x0200A000 + 32 * p
/-- COUT_CODE. -/
def COUT_CODE (p : Nat) : Nat := 0x0200A004 + 32 * p
/-- COUT_SLEW. -/
def COUT_SLEW (p : Nat) : Nat := 0x0200A008 + 32 * p
/-- COUT_PON. -/
def COUT_PON (p : Nat) : Nat := 0x0200A00C + 32 * p
/-- COUT_STAT. -/
def COUT_STAT (p : Nat) : Nat := 0x0200A010 + 32 * p
/-- COUT_CAP. -/
def COUT_CAP : Nat := 0x0200A100
/-- SER_CTL. -/
def SER_CTL (p : Nat) : Nat := 0x0200B000 + 256 * p
/-- SER_FMT. -/
def SER_FMT (p : Nat) : Nat := 0x0200B004 + 256 * p
/-- SER_DIV. -/
def SER_DIV (p : Nat) : Nat := 0x0200B008 + 256 * p
/-- SER_STAT. -/
def SER_STAT (p : Nat) : Nat := 0x0200B00C + 256 * p
/-- SER_RXDATA. -/
def SER_RXDATA (p : Nat) : Nat := 0x0200B010 + 256 * p
/-- SER_TXDATA. -/
def SER_TXDATA (p : Nat) : Nat := 0x0200B014 + 256 * p
/-- SER_DE. -/
def SER_DE (p : Nat) : Nat := 0x0200B018 + 256 * p
/-- SER_STUCK. -/
def SER_STUCK (p : Nat) : Nat := 0x0200B01C + 256 * p
/-- SER_THR. -/
def SER_THR (p : Nat) : Nat := 0x0200B020 + 256 * p
/-- SER_DMXCTL. -/
def SER_DMXCTL (p : Nat) : Nat := 0x0200B024 + 256 * p
/-- SER_DMXTIM. -/
def SER_DMXTIM (p : Nat) : Nat := 0x0200B028 + 256 * p
/-- SER_BUFBASE. -/
def SER_BUFBASE (p : Nat) : Nat := 0x0200B02C + 256 * p
/-- SER_MAPBASE. -/
def SER_MAPBASE (p : Nat) : Nat := 0x0200B030 + 256 * p
/-- SER_FCMD. -/
def SER_FCMD (p : Nat) : Nat := 0x0200B034 + 256 * p
/-- SER_OVR. -/
def SER_OVR (p : Nat) : Nat := 0x0200B040 + 256 * p
/-- SER_FERR. -/
def SER_FERR (p : Nat) : Nat := 0x0200B044 + 256 * p
/-- SER_PERR. -/
def SER_PERR (p : Nat) : Nat := 0x0200B048 + 256 * p
/-- SER_NOISE. -/
def SER_NOISE (p : Nat) : Nat := 0x0200B04C + 256 * p
/-- SER_DMXUNSENT. -/
def SER_DMXUNSENT (p : Nat) : Nat := 0x0200B050 + 256 * p
/-- TMR_CTL. -/
def TMR_CTL (p : Nat) : Nat := 0x0200C000 + 32 * p
/-- TMR_CNT. -/
def TMR_CNT (p : Nat) : Nat := 0x0200C004 + 32 * p
/-- TMR_CMP. -/
def TMR_CMP (p : Nat) : Nat := 0x0200C008 + 32 * p
/-- TMR_PER. -/
def TMR_PER (p : Nat) : Nat := 0x0200C00C + 32 * p
/-- TMR_CAP. -/
def TMR_CAP (p : Nat) : Nat := 0x0200C010 + 32 * p
/-- TMR_STAT. -/
def TMR_STAT (p : Nat) : Nat := 0x0200C014 + 32 * p
/-- TMR_OFS. -/
def TMR_OFS (p : Nat) : Nat := 0x0200C018 + 32 * p
/-- TMR_GCTL. -/
def TMR_GCTL (p : Nat) : Nat := 0x0200C200 + 16 * p
/-- TMR_GTIMELO. -/
def TMR_GTIMELO (p : Nat) : Nat := 0x0200C204 + 16 * p
/-- TMR_GTIMEHI. -/
def TMR_GTIMEHI (p : Nat) : Nat := 0x0200C208 + 16 * p
/-- PACK_STAT. -/
def PACK_STAT : Nat := 0x0200D000
/-- PACK_SEQ0. -/
def PACK_SEQ0 : Nat := 0x0200D004
/-- PACK_SEQ1. -/
def PACK_SEQ1 : Nat := 0x0200D008
/-- PACK_FLASH. -/
def PACK_FLASH : Nat := 0x0200D00C
/-- PACK_UCMD. -/
def PACK_UCMD : Nat := 0x0200D010
/-- PACK_UOFS. -/
def PACK_UOFS : Nat := 0x0200D014
/-- PACK_UADR. -/
def PACK_UADR : Nat := 0x0200D018
/-- PACK_ULEN. -/
def PACK_ULEN : Nat := 0x0200D01C
/-- PACK_USTAT. -/
def PACK_USTAT : Nat := 0x0200D020
/-- PACK_UNEXT. -/
def PACK_UNEXT : Nat := 0x0200D024
/-- PACK_LOGLOST. -/
def PACK_LOGLOST : Nat := 0x0200D028
/-- PACK_LOGSEQ. -/
def PACK_LOGSEQ : Nat := 0x0200D02C
/-- PACK_KEYHASH. -/
def PACK_KEYHASH (p : Nat) : Nat := 0x0200D040 + 4 * p
/-- FAULT_CFG. -/
def FAULT_CFG : Nat := 0x0200E000
/-- FAULT_CMD. -/
def FAULT_CMD : Nat := 0x0200E004
/-- FAULT_CMDRES. -/
def FAULT_CMDRES : Nat := 0x0200E008
/-- FAULT_RETIRED0. -/
def FAULT_RETIRED0 : Nat := 0x0200E010
/-- FAULT_RETIRED1. -/
def FAULT_RETIRED1 : Nat := 0x0200E014
/-- FAULT_ERR. -/
def FAULT_ERR (p : Nat) : Nat := 0x0200E100 + 4 * p
/-- HOST_STAT. -/
def HOST_STAT : Nat := 0x0200F000
/-- HOST_IRQ. -/
def HOST_IRQ : Nat := 0x0200F004
/-- HOST_IRQEN. -/
def HOST_IRQEN : Nat := 0x0200F008
/-- HOST_ERR. -/
def HOST_ERR : Nat := 0x0200F00C
/-- HOST_ERRADR. -/
def HOST_ERRADR : Nat := 0x0200F010
/-- HOST_RPLBASE. -/
def HOST_RPLBASE : Nat := 0x0200F014
/-- HOST_RPLCTL. -/
def HOST_RPLCTL : Nat := 0x0200F018
/-- HOST_RPLWR. -/
def HOST_RPLWR : Nat := 0x0200F01C
/-- HOST_RPLRD. -/
def HOST_RPLRD : Nat := 0x0200F020
/-- HOST_CRCERR. -/
def HOST_CRCERR : Nat := 0x0200F030
/-- HOST_ABORT. -/
def HOST_ABORT : Nat := 0x0200F034
/-- HOST_RPLLOST. -/
def HOST_RPLLOST : Nat := 0x0200F038

end Adr

/-- One register or array of registers: base address, the strides and counts of its (at most two) indices, the masks of its
RW, W1C, W1S, WO and RO bits (the rest is reserved, R9) and its reset value. -/
structure RegRow where
  base : Nat
  stride : Nat
  count : Nat
  stride2 : Nat
  count2 : Nat
  rw : Nat
  w1c : Nat
  w1s : Nat
  wo : Nat
  ro : Nat
  reset : Nat
  deriving DecidableEq, Repr

/-- Rows 0 to 23 of the register map. -/
def regRows0 : List RegRow :=
  [⟨0x02000000, 0x4, 1, 0, 1, 0, 0, 0, 0, 0xffffff, 0x10512⟩,
   ⟨0x02000010, 0x4, 1, 0, 1, 0, 0, 0, 0xffff, 0, 0⟩,
   ⟨0x02001000, 0x4, 1, 0, 1, 0, 0, 0, 0x7, 0, 0⟩,
   ⟨0x02001004, 0x4, 1, 0, 1, 0, 0, 0, 0, 0x1ff, 0xe⟩,
   ⟨0x02001008, 0x4, 1, 0, 1, 0, 0xff, 0, 0, 0, 0x1⟩,
   ⟨0x0200100C, 0x4, 1, 0, 1, 0xf, 0, 0, 0, 0, 0xb⟩,
   ⟨0x02001010, 0x4, 1, 0, 1, 0xffff, 0, 0x10000, 0, 0, 0x3e8⟩,
   ⟨0x02001014, 0x4, 1, 0, 1, 0, 0, 0, 0, 0x1f, 0⟩,
   ⟨0x02001018, 0x4, 1, 0, 1, 0, 0, 0x3, 0, 0, 0⟩,
   ⟨0x02002000, 0x4, 1, 0, 1, 0x3, 0, 0, 0, 0, 0⟩,
   ⟨0x02002004, 0x4, 1, 0, 1, 0, 0, 0, 0, 0x1fff, 0⟩,
   ⟨0x02002008, 0x4, 1, 0, 1, 0, 0, 0, 0, 0x7, 0⟩,
   ⟨0x02003000, 0x4, 1, 0, 1, 0, 0, 0, 0, 0xfff07ff, 0x400⟩,
   ⟨0x02003004, 0x4, 1, 0, 1, 0, 0, 0, 0x3ff0003, 0, 0⟩,
   ⟨0x02003008, 0x4, 1, 0, 1, 0, 0, 0, 0, 0xff03ff, 0⟩,
   ⟨0x0200300C, 0x4, 1, 0, 1, 0xffffff, 0, 0, 0, 0, 0⟩,
   ⟨0x02003010, 0x4, 1, 0, 1, 0xfffff0, 0, 0, 0, 0, 0⟩,
   ⟨0x02003014, 0x4, 1, 0, 1, 0xf, 0, 0, 0, 0, 0xa⟩,
   ⟨0x02003018, 0x4, 1, 0, 1, 0, 0, 0, 0, 0xffff, 0⟩,
   ⟨0x0200301C, 0x4, 1, 0, 1, 0xffff, 0, 0, 0, 0, 0⟩,
   ⟨0x02003020, 0x4, 1, 0, 1, 0x3ff, 0, 0, 0, 0, 0⟩,
   ⟨0x02003024, 0x4, 1, 0, 1, 0, 0x80000000, 0, 0, 0x7fffffff, 0⟩,
   ⟨0x02003028, 0x4, 1, 0, 1, 0, 0x80000000, 0, 0, 0x7fffffff, 0⟩,
   ⟨0x02003100, 0x4, 6, 0, 1, 0xf83ff, 0, 0, 0, 0, 0x10000⟩]

/-- Rows 24 to 47 of the register map. -/
def regRows1 : List RegRow :=
  [⟨0x02003118, 0x4, 1, 0, 1, 0xf83ff, 0, 0, 0, 0, 0x40000⟩,
   ⟨0x0200311C, 0x4, 5, 0, 1, 0xf83ff, 0, 0, 0, 0, 0x10000⟩,
   ⟨0x02003140, 0x4, 12, 0, 1, 0xffffe0, 0, 0, 0, 0, 0⟩,
   ⟨0x02003180, 0x4, 12, 0, 1, 0, 0x80000000, 0, 0, 0x7fffffff, 0⟩,
   ⟨0x02003200, 0x4, 8, 0, 1, 0, 0, 0, 0, 0xffffffff, 0⟩,
   ⟨0x02004000, 0x4, 1, 0, 1, 0, 0, 0, 0, 0x7, 0⟩,
   ⟨0x02004004, 0x4, 1, 0, 1, 0, 0x80000000, 0, 0, 0x7fffffff, 0⟩,
   ⟨0x02004008, 0x4, 1, 0, 1, 0, 0x80000000, 0, 0, 0x7fffffff, 0⟩,
   ⟨0x0200400C, 0x4, 1, 0, 1, 0, 0, 0, 0, 0xfffffff, 0⟩,
   ⟨0x02004010, 0x4, 1, 0, 1, 0xffff, 0, 0, 0, 0, 0x3e8⟩,
   ⟨0x02004014, 0x4, 1, 0, 1, 0, 0, 0, 0, 0xffffffff, 0⟩,
   ⟨0x02004040, 0x4, 1, 0, 1, 0xffff0001, 0, 0, 0, 0, 0x3e80001⟩,
   ⟨0x02004044, 0x4, 1, 0, 1, 0, 0, 0, 0, 0x1ffff, 0⟩,
   ⟨0x02004048, 0x4, 1, 0, 1, 0, 0x80000000, 0, 0, 0x7fffffff, 0⟩,
   ⟨0x02004050, 0x4, 1, 0, 1, 0, 0x7fff, 0, 0, 0, 0⟩,
   ⟨0x02004020, 0x4, 4, 0, 1, 0, 0, 0, 0, 0xffffffff, 0⟩,
   ⟨0x02004080, 0x4, 15, 0, 1, 0, 0x80000000, 0, 0, 0x7fffffff, 0⟩,
   ⟨0x02005000, 0x4, 1, 0, 1, 0xfff000, 0, 0, 0, 0, 0⟩,
   ⟨0x02005004, 0x4, 1, 0, 1, 0xfff000, 0, 0, 0, 0, 0⟩,
   ⟨0x02005008, 0x4, 1, 0, 1, 0xff0000, 0, 0, 0, 0, 0⟩,
   ⟨0x0200500C, 0x4, 1, 0, 1, 0xffffffff, 0, 0, 0, 0, 0⟩,
   ⟨0x02005010, 0x4, 1, 0, 1, 0, 0x80000000, 0, 0, 0x7fffffff, 0⟩,
   ⟨0x02005014, 0x4, 1, 0, 1, 0, 0x80000000, 0, 0, 0x7fffffff, 0⟩,
   ⟨0x02005018, 0x4, 1, 0, 1, 0, 0xffffffff, 0, 0, 0, 0⟩]

/-- Rows 48 to 71 of the register map. -/
def regRows2 : List RegRow :=
  [⟨0x0200501C, 0x4, 1, 0, 1, 0, 0x80000000, 0, 0, 0x7fffffff, 0⟩,
   ⟨0x02005020, 0x4, 1, 0, 1, 0, 0x80000000, 0, 0, 0x7fffffff, 0⟩,
   ⟨0x02005024, 0x4, 1, 0, 1, 0, 0x80000000, 0, 0, 0x7fffffff, 0⟩,
   ⟨0x02005028, 0x4, 1, 0, 1, 0, 0x80000000, 0, 0, 0x7fffffff, 0⟩,
   ⟨0x0200502C, 0x4, 1, 0, 1, 0, 0x80000000, 0, 0, 0x7fffffff, 0⟩,
   ⟨0x02005030, 0x4, 1, 0, 1, 0x1fe, 0, 0, 0, 0, 0x1f2⟩,
   ⟨0x02005034, 0x4, 1, 0, 1, 0, 0, 0x1, 0, 0xff00, 0⟩,
   ⟨0x02005038, 0x4, 1, 0, 1, 0xffffff, 0, 0, 0, 0, 0⟩,
   ⟨0x02005040, 0x4, 1, 0, 1, 0, 0, 0, 0, 0xffffffff, 0⟩,
   ⟨0x02005044, 0x4, 1, 0, 1, 0, 0, 0, 0, 0xffffffff, 0⟩,
   ⟨0x02005048, 0x4, 1, 0, 1, 0xffffffff, 0, 0, 0, 0, 0⟩,
   ⟨0x0200504C, 0x4, 1, 0, 1, 0xffffffff, 0, 0, 0, 0, 0⟩,
   ⟨0x02005050, 0x4, 1, 0, 1, 0, 0, 0x1, 0, 0xe, 0⟩,
   ⟨0x02005060, 0x4, 1, 0, 1, 0xffffffff, 0, 0, 0, 0, 0⟩,
   ⟨0x02005064, 0x4, 1, 0, 1, 0x1ffff, 0, 0, 0, 0, 0⟩,
   ⟨0x02005068, 0x4, 1, 0, 1, 0xff, 0, 0, 0, 0, 0xff⟩,
   ⟨0x0200506C, 0x4, 1, 0, 1, 0, 0, 0, 0, 0xffffffff, 0⟩,
   ⟨0x02005070, 0x4, 1, 0, 1, 0, 0, 0, 0, 0x3, 0⟩,
   ⟨0x02005080, 0x4, 32, 0, 1, 0xfff73, 0, 0, 0, 0, 0⟩,
   ⟨0x02005100, 0x4, 32, 0, 1, 0xffff, 0, 0, 0, 0, 0⟩,
   ⟨0x02005180, 0x4, 32, 0, 1, 0, 0, 0, 0, 0x3f, 0⟩,
   ⟨0x02006000, 0x4, 1, 0, 1, 0, 0x7, 0, 0, 0x1fff0000, 0⟩,
   ⟨0x02006004, 0x4, 1, 0, 1, 0, 0, 0, 0x1ffff, 0, 0⟩,
   ⟨0x02006008, 0x4, 1, 0, 1, 0, 0x3000000, 0, 0, 0xffffff, 0⟩]

/-- Rows 72 to 95 of the register map. -/
def regRows3 : List RegRow :=
  [⟨0x0200600C, 0x4, 1, 0, 1, 0, 0, 0, 0, 0x71fff, 0⟩,
   ⟨0x02006010, 0x4, 1, 0, 1, 0xffffffff, 0, 0, 0, 0, 0⟩,
   ⟨0x02006014, 0x4, 1, 0, 1, 0xffffffff, 0, 0, 0, 0, 0⟩,
   ⟨0x02006018, 0x4, 1, 0, 1, 0, 0, 0, 0x7, 0, 0⟩,
   ⟨0x0200601C, 0x4, 1, 0, 1, 0, 0x10000, 0, 0, 0xff00ffff, 0⟩,
   ⟨0x02006020, 0x4, 1, 0, 1, 0xffffffff, 0, 0, 0, 0, 0⟩,
   ⟨0x02006024, 0x4, 1, 0, 1, 0xffffffff, 0, 0, 0, 0, 0⟩,
   ⟨0x02006028, 0x4, 1, 0, 1, 0xf, 0, 0, 0, 0, 0x5⟩,
   ⟨0x0200602C, 0x4, 1, 0, 1, 0xfff000, 0, 0, 0, 0, 0⟩,
   ⟨0x02006030, 0x4, 1, 0, 1, 0x7ff000, 0, 0, 0, 0, 0⟩,
   ⟨0x02006044, 0x4, 15, 0, 1, 0xffff, 0, 0, 0, 0, 0⟩,
   ⟨0x02006100, 0x4, 64, 0, 1, 0x3fffff, 0, 0, 0, 0, 0⟩,
   ⟨0x02006200, 0x4, 64, 0, 1, 0xfffff3, 0, 0x4, 0, 0x8, 0⟩,
   ⟨0x02006300, 0x4, 64, 0, 1, 0, 0, 0, 0, 0xfffff, 0⟩,
   ⟨0x02006480, 0x4, 16, 0, 1, 0x7f, 0, 0, 0, 0, 0⟩,
   ⟨0x020064C0, 0x4, 16, 0, 1, 0x1ff, 0, 0, 0, 0, 0⟩,
   ⟨0x02006530, 0x4, 16, 0, 1, 0x7f, 0, 0, 0, 0, 0⟩,
   ⟨0x02006570, 0x4, 16, 0, 1, 0x1ff, 0, 0, 0, 0, 0⟩,
   ⟨0x02006600, 0x4, 20, 0, 1, 0xffffff, 0, 0, 0, 0, 0⟩,
   ⟨0x02006680, 0x4, 20, 0, 1, 0x3ffff, 0, 0, 0, 0, 0⟩,
   ⟨0x02006700, 0x4, 20, 0, 1, 0, 0, 0, 0, 0x1ffff, 0⟩,
   ⟨0x02006800, 0x4, 512, 0, 1, 0xffffffff, 0, 0, 0, 0, 0⟩,
   ⟨0x02007000, 0x4, 1, 0, 1, 0, 0, 0, 0, 0xff, 0⟩,
   ⟨0x02007004, 0x4, 1, 0, 1, 0, 0, 0, 0, 0xffffffff, 0⟩]

/-- Rows 96 to 119 of the register map. -/
def regRows4 : List RegRow :=
  [⟨0x02007008, 0x4, 1, 0, 1, 0, 0, 0, 0, 0xffffffff, 0⟩,
   ⟨0x0200700C, 0x4, 1, 0, 1, 0, 0, 0x1, 0, 0, 0⟩,
   ⟨0x02007010, 0x4, 1, 0, 1, 0, 0, 0, 0, 0xffffffff, 0⟩,
   ⟨0x02007014, 0x4, 1, 0, 1, 0, 0, 0, 0, 0xffffffff, 0⟩,
   ⟨0x02007018, 0x4, 1, 0, 1, 0x1ff, 0, 0, 0, 0, 0x48⟩,
   ⟨0x0200701C, 0x4, 1, 0, 1, 0, 0, 0, 0, 0xffffffff, 0⟩,
   ⟨0x02007020, 0x4, 1, 0, 1, 0, 0, 0, 0, 0x7ff, 0⟩,
   ⟨0x02007040, 0x4, 2, 0, 1, 0, 0, 0, 0, 0xfffff, 0⟩,
   ⟨0x02007048, 0x4, 2, 0, 1, 0, 0, 0, 0, 0xffffffff, 0⟩,
   ⟨0x02007050, 0x4, 2, 0, 1, 0, 0, 0, 0, 0xffffffff, 0⟩,
   ⟨0x02007058, 0x4, 2, 0, 1, 0xffff, 0, 0, 0, 0, 0⟩,
   ⟨0x02007060, 0x4, 1, 0, 1, 0, 0x80000000, 0, 0, 0x7fffffff, 0⟩,
   ⟨0x02007064, 0x4, 1, 0, 1, 0, 0x80000000, 0, 0, 0x7fffffff, 0⟩,
   ⟨0x02007068, 0x4, 1, 0, 1, 0, 0x80000000, 0, 0, 0x7fffffff, 0⟩,
   ⟨0x0200706C, 0x4, 1, 0, 1, 0, 0x80000000, 0, 0, 0x7fffffff, 0⟩,
   ⟨0x02007070, 0x4, 1, 0, 1, 0, 0x80000000, 0, 0, 0x7fffffff, 0⟩,
   ⟨0x02007074, 0x4, 1, 0, 1, 0, 0x80000000, 0, 0, 0x7fffffff, 0⟩,
   ⟨0x02007078, 0x4, 1, 0, 1, 0, 0x80000000, 0, 0, 0x7fffffff, 0⟩,
   ⟨0x0200707C, 0x4, 1, 0, 1, 0, 0x80000000, 0, 0, 0x7fffffff, 0⟩,
   ⟨0x02007080, 0x4, 1, 0, 1, 0, 0x80000000, 0, 0, 0x7fffffff, 0⟩,
   ⟨0x02007084, 0x4, 1, 0, 1, 0, 0x80000000, 0, 0, 0x7fffffff, 0⟩,
   ⟨0x02007088, 0x4, 1, 0, 1, 0, 0x80000000, 0, 0, 0x7fffffff, 0⟩,
   ⟨0x0200708C, 0x4, 1, 0, 1, 0, 0x80000000, 0, 0, 0x7fffffff, 0⟩,
   ⟨0x02007090, 0x4, 1, 0, 1, 0, 0x80000000, 0, 0, 0x7fffffff, 0⟩]

/-- Rows 120 to 147 of the register map. -/
def regRows5 : List RegRow :=
  [⟨0x02007094, 0x4, 1, 0, 1, 0, 0x80000000, 0, 0, 0x7fffffff, 0⟩,
   ⟨0x02007098, 0x4, 1, 0, 1, 0, 0x80000000, 0, 0, 0x7fffffff, 0⟩,
   ⟨0x02007100, 0x4, 1, 0, 1, 0x3, 0, 0, 0, 0x3c, 0⟩,
   ⟨0x02007104, 0x4, 1, 0, 1, 0xffff, 0, 0, 0, 0, 0⟩,
   ⟨0x02007108, 0x4, 1, 0, 1, 0, 0, 0, 0, 0x1fff, 0⟩,
   ⟨0x0200710C, 0x4, 1, 0, 1, 0xffffffff, 0, 0, 0, 0, 0⟩,
   ⟨0x02007110, 0x4, 1, 0, 1, 0x7fffffff, 0, 0, 0, 0x80000000, 0x80000000⟩,
   ⟨0x02007114, 0x4, 1, 0, 1, 0, 0, 0, 0, 0xffffffff, 0⟩,
   ⟨0x02007118, 0x4, 1, 0, 1, 0, 0, 0, 0, 0xffffffff, 0⟩,
   ⟨0x0200711C, 0x4, 1, 0, 1, 0x3, 0, 0, 0, 0x4, 0⟩,
   ⟨0x02007120, 0x4, 1, 0, 1, 0x1f, 0, 0, 0, 0, 0x5⟩,
   ⟨0x02007124, 0x4, 1, 0, 1, 0xfff, 0, 0, 0, 0, 0x304⟩,
   ⟨0x02007128, 0x4, 1, 0, 1, 0, 0, 0, 0, 0xffff, 0⟩,
   ⟨0x02007130, 0x4, 1, 0, 1, 0, 0x80000000, 0, 0, 0x7fffffff, 0⟩,
   ⟨0x02007134, 0x4, 1, 0, 1, 0, 0x80000000, 0, 0, 0x7fffffff, 0⟩,
   ⟨0x02007138, 0x4, 1, 0, 1, 0, 0x80000000, 0, 0, 0x7fffffff, 0⟩,
   ⟨0x0200713C, 0x4, 1, 0, 1, 0, 0x80000000, 0, 0, 0x7fffffff, 0⟩,
   ⟨0x02007140, 0x4, 1, 0, 1, 0, 0x80000000, 0, 0, 0x7fffffff, 0⟩,
   ⟨0x02007400, 0x4, 128, 0, 1, 0, 0, 0, 0, 0x87ff87ff, 0⟩,
   ⟨0x02008000, 0x100, 4, 0, 1, 0xff, 0, 0, 0, 0, 0⟩,
   ⟨0x02008400, 0x100, 2, 0, 1, 0x155, 0, 0, 0, 0, 0⟩,
   ⟨0x02008600, 0x100, 2, 0, 1, 0xa9, 0, 0, 0, 0x2, 0x2⟩,
   ⟨0x02008004, 0x100, 4, 0, 1, 0x7fff, 0, 0, 0, 0, 0x424⟩,
   ⟨0x02008404, 0x100, 4, 0, 1, 0, 0, 0, 0, 0, 0⟩,
   ⟨0x02008008, 0x100, 4, 0, 1, 0, 0x40, 0, 0, 0x3f003f, 0⟩,
   ⟨0x02008408, 0x100, 2, 0, 1, 0, 0x140, 0, 0, 0xff3f00bf, 0⟩,
   ⟨0x02008608, 0x100, 2, 0, 1, 0, 0, 0, 0, 0x21, 0⟩,
   ⟨0x0200800C, 0x100, 8, 0, 1, 0, 0, 0, 0, 0x3ffff, 0⟩]

/-- Rows 148 to 179 of the register map. -/
def regRows6 : List RegRow :=
  [⟨0x02008010, 0x100, 6, 0, 1, 0xffffff, 0, 0, 0, 0, 0⟩,
   ⟨0x02008014, 0x100, 6, 0, 1, 0xffff, 0, 0, 0, 0, 0x2⟩,
   ⟨0x02008018, 0x100, 6, 0, 1, 0, 0, 0, 0, 0xffff, 0⟩,
   ⟨0x0200801C, 0x100, 6, 0, 1, 0xffff, 0, 0, 0, 0, 0⟩,
   ⟨0x02008610, 0x100, 2, 4, 4, 0, 0, 0, 0, 0, 0⟩,
   ⟨0x02008020, 0x100, 4, 0, 1, 0xffffff, 0, 0, 0, 0, 0⟩,
   ⟨0x02008024, 0x100, 4, 0, 1, 0xffff, 0, 0, 0, 0, 0x2⟩,
   ⟨0x02008028, 0x100, 4, 0, 1, 0xffff, 0, 0, 0, 0, 0⟩,
   ⟨0x0200802C, 0x100, 4, 0, 1, 0, 0, 0, 0, 0xffff, 0⟩,
   ⟨0x02008420, 0x100, 2, 4, 4, 0, 0, 0, 0, 0, 0⟩,
   ⟨0x02008620, 0x100, 2, 0, 1, 0xffffff, 0, 0, 0, 0, 0⟩,
   ⟨0x02008624, 0x100, 2, 0, 1, 0xffff, 0, 0, 0, 0, 0x2⟩,
   ⟨0x02008628, 0x100, 2, 0, 1, 0xffff, 0, 0, 0, 0, 0⟩,
   ⟨0x0200862C, 0x100, 2, 0, 1, 0, 0, 0, 0, 0xffff, 0⟩,
   ⟨0x02008030, 0x100, 6, 0, 1, 0x1f, 0, 0, 0, 0, 0x4⟩,
   ⟨0x02008630, 0x100, 2, 0, 1, 0, 0, 0, 0, 0, 0⟩,
   ⟨0x02008040, 0x100, 8, 0, 1, 0, 0x80000000, 0, 0, 0x7fffffff, 0⟩,
   ⟨0x02008044, 0x100, 6, 4, 3, 0, 0x80000000, 0, 0, 0x7fffffff, 0⟩,
   ⟨0x02008050, 0x100, 4, 4, 3, 0, 0, 0, 0, 0, 0⟩,
   ⟨0x02008450, 0x100, 2, 4, 3, 0, 0x80000000, 0, 0, 0x7fffffff, 0⟩,
   ⟨0x02008644, 0x100, 2, 4, 6, 0, 0, 0, 0, 0, 0⟩,
   ⟨0x0200805C, 0x100, 4, 0, 1, 0, 0x80000000, 0, 0, 0x7fffffff, 0⟩,
   ⟨0x0200845C, 0x100, 2, 0, 1, 0, 0, 0, 0, 0, 0⟩,
   ⟨0x0200865C, 0x100, 2, 0, 1, 0, 0x80000000, 0, 0, 0x7fffffff, 0⟩,
   ⟨0x020080F0, 0x100, 6, 0, 1, 0, 0, 0, 0, 0, 0⟩,
   ⟨0x020086F0, 0x100, 2, 0, 1, 0xe, 0, 0x1, 0, 0, 0⟩,
   ⟨0x02008080, 0x100, 4, 4, 12, 0, 0, 0, 0, 0, 0⟩,
   ⟨0x02008480, 0x100, 2, 4, 12, 0, 0, 0, 0, 0xffffffff, 0⟩,
   ⟨0x02008680, 0x100, 2, 4, 12, 0xffffffff, 0, 0, 0, 0, 0⟩,
   ⟨0x020080C0, 0x100, 4, 4, 12, 0, 0, 0, 0, 0, 0⟩,
   ⟨0x020084C0, 0x100, 2, 4, 12, 0, 0, 0, 0, 0xffffffff, 0⟩,
   ⟨0x020086C0, 0x100, 2, 4, 12, 0xffffffff, 0, 0, 0, 0, 0⟩]

/-- Rows 180 to 203 of the register map. -/
def regRows7 : List RegRow :=
  [⟨0x02008800, 0x4, 1, 0, 1, 0xffff, 0, 0, 0, 0, 0x20⟩,
   ⟨0x02008804, 0x4, 1, 0, 1, 0, 0, 0, 0, 0x3ffff, 0⟩,
   ⟨0x02008808, 0x4, 1, 0, 1, 0, 0x200000, 0, 0, 0x1fffff, 0⟩,
   ⟨0x02009000, 0x4, 1, 0, 1, 0xf, 0, 0, 0, 0, 0xf⟩,
   ⟨0x02009004, 0x4, 1, 0, 1, 0, 0, 0, 0, 0xfff, 0⟩,
   ⟨0x0200A000, 0x20, 8, 0, 1, 0x1ff, 0, 0, 0, 0, 0x100⟩,
   ⟨0x0200A004, 0x20, 8, 0, 1, 0xffff, 0, 0, 0, 0, 0⟩,
   ⟨0x0200A008, 0x20, 8, 0, 1, 0xfffffff, 0, 0, 0, 0, 0x100⟩,
   ⟨0x0200A00C, 0x20, 8, 0, 1, 0xffffffff, 0, 0, 0, 0, 0⟩,
   ⟨0x0200A010, 0x20, 8, 0, 1, 0, 0, 0, 0, 0x1fffff, 0x60000⟩,
   ⟨0x0200A100, 0x4, 1, 0, 1, 0, 0, 0, 0, 0x7f, 0⟩,
   ⟨0x0200B000, 0x100, 2, 0, 1, 0x1fdf, 0, 0x20, 0, 0, 0xd00⟩,
   ⟨0x0200B004, 0x100, 2, 0, 1, 0x3ff, 0, 0, 0, 0, 0x8⟩,
   ⟨0x0200B008, 0x100, 2, 0, 1, 0xfffff, 0, 0, 0, 0, 0xd5⟩,
   ⟨0x0200B00C, 0x100, 2, 0, 1, 0, 0x600000, 0, 0, 0x9f3f3f, 0x100000⟩,
   ⟨0x0200B010, 0x100, 2, 0, 1, 0, 0, 0, 0, 0xbfff, 0⟩,
   ⟨0x0200B014, 0x100, 2, 0, 1, 0, 0, 0, 0x3ff, 0, 0⟩,
   ⟨0x0200B018, 0x100, 2, 0, 1, 0xffff, 0, 0, 0, 0, 0x101⟩,
   ⟨0x0200B01C, 0x100, 2, 0, 1, 0x1fff, 0, 0, 0, 0, 0x64⟩,
   ⟨0x0200B020, 0x100, 2, 0, 1, 0x3f3f, 0, 0, 0, 0, 0⟩,
   ⟨0x0200B024, 0x100, 2, 0, 1, 0xffff07ff, 0, 0, 0, 0, 0x3e80000⟩,
   ⟨0x0200B028, 0x100, 2, 0, 1, 0x1ffffff, 0, 0, 0, 0, 0x2e18b0⟩,
   ⟨0x0200B02C, 0x100, 2, 0, 1, 0xffffff, 0, 0, 0, 0, 0⟩,
   ⟨0x0200B030, 0x100, 2, 0, 1, 0xffffff, 0, 0, 0, 0, 0⟩]

/-- Rows 204 to 227 of the register map. -/
def regRows8 : List RegRow :=
  [⟨0x0200B034, 0x100, 2, 0, 1, 0, 0, 0, 0x3ffff, 0, 0⟩,
   ⟨0x0200B040, 0x100, 2, 0, 1, 0, 0x80000000, 0, 0, 0x7fffffff, 0⟩,
   ⟨0x0200B044, 0x100, 2, 0, 1, 0, 0x80000000, 0, 0, 0x7fffffff, 0⟩,
   ⟨0x0200B048, 0x100, 2, 0, 1, 0, 0x80000000, 0, 0, 0x7fffffff, 0⟩,
   ⟨0x0200B04C, 0x100, 2, 0, 1, 0, 0x80000000, 0, 0, 0x7fffffff, 0⟩,
   ⟨0x0200B050, 0x100, 2, 0, 1, 0, 0x80000000, 0, 0, 0x7fffffff, 0⟩,
   ⟨0x0200C000, 0x20, 16, 0, 1, 0x3fffff, 0, 0, 0, 0, 0⟩,
   ⟨0x0200C004, 0x20, 16, 0, 1, 0xffffffff, 0, 0, 0, 0, 0⟩,
   ⟨0x0200C008, 0x20, 16, 0, 1, 0xffffffff, 0, 0, 0, 0, 0⟩,
   ⟨0x0200C00C, 0x20, 16, 0, 1, 0xffffffff, 0, 0, 0, 0, 0⟩,
   ⟨0x0200C010, 0x20, 16, 0, 1, 0, 0, 0, 0, 0xffffffff, 0⟩,
   ⟨0x0200C014, 0x20, 16, 0, 1, 0, 0x3f, 0, 0, 0x1c0, 0x100⟩,
   ⟨0x0200C018, 0x20, 16, 0, 1, 0xffffffff, 0, 0, 0, 0, 0⟩,
   ⟨0x0200C200, 0x10, 4, 0, 1, 0x1ffff, 0x80000, 0x20000, 0, 0x40000, 0⟩,
   ⟨0x0200C204, 0x10, 4, 0, 1, 0xffffffff, 0, 0, 0, 0, 0⟩,
   ⟨0x0200C208, 0x10, 4, 0, 1, 0xffffffff, 0, 0, 0, 0, 0⟩,
   ⟨0x0200D000, 0x4, 1, 0, 1, 0, 0, 0, 0, 0xfff3f, 0⟩,
   ⟨0x0200D004, 0x4, 1, 0, 1, 0, 0, 0, 0, 0xffffffff, 0⟩,
   ⟨0x0200D008, 0x4, 1, 0, 1, 0, 0, 0, 0, 0xffffffff, 0⟩,
   ⟨0x0200D00C, 0x4, 1, 0, 1, 0, 0, 0, 0, 0x3fffff, 0x100000⟩,
   ⟨0x0200D010, 0x4, 1, 0, 1, 0, 0, 0, 0x3f, 0, 0⟩,
   ⟨0x0200D014, 0x4, 1, 0, 1, 0xffffffff, 0, 0, 0, 0, 0⟩,
   ⟨0x0200D018, 0x4, 1, 0, 1, 0xffffff, 0, 0, 0, 0, 0⟩,
   ⟨0x0200D01C, 0x4, 1, 0, 1, 0x1fff, 0, 0, 0, 0, 0x4⟩]

/-- Rows 228 to 250 of the register map. -/
def regRows9 : List RegRow :=
  [⟨0x0200D020, 0x4, 1, 0, 1, 0, 0, 0, 0, 0xff7fff, 0⟩,
   ⟨0x0200D024, 0x4, 1, 0, 1, 0, 0, 0, 0, 0xffffffff, 0⟩,
   ⟨0x0200D028, 0x4, 1, 0, 1, 0, 0x80000000, 0, 0, 0x7fffffff, 0⟩,
   ⟨0x0200D02C, 0x4, 1, 0, 1, 0, 0, 0, 0, 0xffffffff, 0⟩,
   ⟨0x0200D040, 0x4, 8, 0, 1, 0, 0, 0, 0, 0xffffffff, 0⟩,
   ⟨0x0200E000, 0x4, 1, 0, 1, 0xffff000f, 0, 0, 0, 0, 0x3e80003⟩,
   ⟨0x0200E004, 0x4, 1, 0, 1, 0, 0, 0, 0x3f03, 0, 0⟩,
   ⟨0x0200E008, 0x4, 1, 0, 1, 0, 0, 0, 0, 0x3ff, 0⟩,
   ⟨0x0200E010, 0x4, 1, 0, 1, 0, 0, 0, 0, 0xffffffff, 0⟩,
   ⟨0x0200E014, 0x4, 1, 0, 1, 0, 0, 0, 0, 0xffffffff, 0⟩,
   ⟨0x0200E100, 0x4, 64, 0, 1, 0, 0x80000000, 0, 0, 0x7fffffff, 0⟩,
   ⟨0x0200F000, 0x4, 1, 0, 1, 0, 0, 0, 0, 0x7, 0x3⟩,
   ⟨0x0200F004, 0x4, 1, 0, 1, 0, 0x7ff, 0, 0, 0, 0⟩,
   ⟨0x0200F008, 0x4, 1, 0, 1, 0x7ff, 0, 0, 0, 0, 0x1⟩,
   ⟨0x0200F00C, 0x4, 1, 0, 1, 0, 0, 0, 0, 0xffff, 0⟩,
   ⟨0x0200F010, 0x4, 1, 0, 1, 0, 0, 0, 0, 0xffffffff, 0⟩,
   ⟨0x0200F014, 0x4, 1, 0, 1, 0xffff00, 0, 0, 0, 0, 0⟩,
   ⟨0x0200F018, 0x4, 1, 0, 1, 0xf, 0, 0, 0, 0, 0⟩,
   ⟨0x0200F01C, 0x4, 1, 0, 1, 0, 0, 0, 0, 0xffff, 0⟩,
   ⟨0x0200F020, 0x4, 1, 0, 1, 0xffff, 0, 0, 0, 0, 0⟩,
   ⟨0x0200F030, 0x4, 1, 0, 1, 0, 0x80000000, 0, 0, 0x7fffffff, 0⟩,
   ⟨0x0200F034, 0x4, 1, 0, 1, 0, 0x80000000, 0, 0, 0x7fffffff, 0⟩,
   ⟨0x0200F038, 0x4, 1, 0, 1, 0, 0x80000000, 0, 0, 0x7fffffff, 0⟩]

/-- Every register of the device (R467). -/
def regTable : List RegRow := regRows0 ++ regRows1 ++ regRows2 ++ regRows3 ++ regRows4 ++ regRows5 ++ regRows6 ++ regRows7 ++ regRows8 ++ regRows9

/-- The index of address a in the row, if the row holds it. -/
def RegRow.idx (r : RegRow) (a : Nat) : Option Nat :=
  if a < r.base then none else
  let o := a - r.base
  let i := o / r.stride
  let q := o % r.stride
  if r.count ≤ i then none
  else if r.count2 = 1 then (if q = 0 then some i else none)
  else if q % r.stride2 = 0 ∧ q / r.stride2 < r.count2 then some i else none

/-- The row of address a in a list of rows. -/
def findRow (a : Nat) : List RegRow → Option RegRow
  | [] => none
  | r :: t => if (r.idx a).isSome then some r else findRow a t

/-- The row of the register at address a, none where no register is (R467). -/
def regRow (a : Nat) : Option RegRow := findRow a regTable

/-- The reset value of the register at address a: Table HI-8, and g for VOICE_GRPSLICEg (Table VA-1). -/
def regReset (a : Nat) : Word :=
  if Adr.VOICE_GRPSLICE 0 ≤ a ∧ a < Adr.VOICE_GRPSLICE 32 then BitVec.ofNat 32 ((a - Adr.VOICE_GRPSLICE 0) / 4)
  else match regRow a with
    | some r => BitVec.ofNat 32 r.reset
    | none => 0

/-- Whether every field of the register is RO (R459: a write is rejected with E_READONLY). -/
def RegRow.readOnly (r : RegRow) : Bool := r.rw = 0 && r.w1c = 0 && r.w1s = 0 && r.wo = 0 && r.ro ≠ 0

/-- The bits of the register that some field defines. -/
def RegRow.defined (r : RegRow) : Nat := r.rw ||| r.w1c ||| r.w1s ||| r.wo ||| r.ro

/-- Whether the register is a statistics counter (Table TL-12): SAT in bit 31, COUNT below it. -/
def RegRow.isCounter (r : RegRow) : Bool := r.w1c = 0x80000000 && r.ro = 0x7FFFFFFF

end Sys2Proof.Machine
end

