-- ==== Sys2Proof/Machine/State.lean ====
section
/-!
DEFINITION. The state of one Z512 node as plain data, its stops, and the state after a cold reset. Every register of Table HI-8 lives
in State.regs (a sparse store keyed by address); every memory is a sparse store; what the spec describes without a register
(queues, rings, running envelopes, link machines) is held in the structures below, one per chapter.
-/
namespace Sys2Proof.Machine

/-! ### Basin (chapter 08) -/

/-- One write of a same-word group (R241): the master's code, the audio port or 0, the bytes that it writes in the word's four lanes, and
whether it was dropped. -/
structure LaneWrite where
  master : Nat
  port : Nat
  lanes : List (Option Byte)
  lost : Bool
  deriving DecidableEq, Repr

/-- The writes to one word that reached its bank in one FCLK cycle (R241): the word, the clock time, the bytes it held before them, and
the writes, highest rank first. -/
structure WordGroup where
  word : Nat
  clk : Nat
  base : List Byte
  writes : List LaneWrite
  deriving DecidableEq, Repr

/-- The Basin beyond its registers: contents, error marks, repair and sweep state. -/
structure Basin where
  /-- Bytes as a master reads them, R233; an unlisted byte reads 0 (R254). A word of a borrowed region is the shadow's (R250). -/
  bytes : List Host.Cell
  /-- Words whose stored bits hold an error (R244): word index, and whether it is uncorrectable. -/
  ecc : List (Nat × Bool)
  /-- Words corrected and not yet written back (R245). -/
  writeback : List Nat
  /-- Rows that most recently reported a corrected error, newest first (R246): bank, row, time. -/
  recent : List (Nat × Nat × Nat)
  /-- Rows remapped to spares (R247): bank, row, spare. -/
  remaps : List (Nat × Nat × Nat)
  /-- Remap copies in progress (R247). -/
  copying : List (Nat × Nat)
  /-- The last write group of each word written in the present tick (R241). -/
  groups : List WordGroup
  /-- Clock time at which the sweep may start its next region (R249). -/
  sweepAt : Nat
  deriving DecidableEq, Repr

/-! ### Dispatcher (chapter 07) -/

/-- One descriptor (Table DP-1). STATE: 0 FREE, 1 TEMPLATE, 2 WAITING, 3 READY, 4 RUNNING (Table DP-2). -/
structure Desc where
  entry : Nat
  arg : Nat
  budget : Nat
  ctl : Nat
  pegs : Nat
  affinity : Nat
  st : Nat
  succ0 : Nat
  succ1 : Nat
  slist : Nat
  slcount : Nat
  tag : Nat
  origin : Nat
  qentry : Nat
  deriving DecidableEq, Repr

/-- A FREE descriptor. -/
def Desc.free : Desc := ⟨0, 0, 0, 0, 0, 0, 0, 0, 0, 0, 0, 0, 0, 0⟩

/-- The ring of one event source (R225): next entry to write, next entry to take, entries written and not yet taken, entries
still occupied, events discarded since the last written entry, entries written. -/
structure SrcRing where
  wr : Nat
  next : Nat
  waiting : List Nat
  occupied : List Nat
  lost : Nat
  seq : Nat
  deriving DecidableEq, Repr

/-- An empty source ring. -/
def SrcRing.empty : SrcRing := ⟨0, 0, [], [], 0, 0⟩

/-- A completion record being formed (Table DP-6), kept in end order until its successor list has been read (R217, R229). -/
structure EndRec where
  id : Nat
  closed : Bool
  needed : Bool
  endCode : Nat
  status : Nat
  index : Nat
  core : Nat
  held : Bool
  badsucc : Bool
  pc : Nat
  tag : Nat
  src : Nat
  cause : Nat
  cycles : Nat
  deriving DecidableEq, Repr

/-- A successor list being read (R217): the record it belongs to, whether it cascades (R218) or releases (R216), the
address of the next entry and how many remain. -/
structure ListJob where
  id : Nat
  cascade : Bool
  addr : Nat
  left : Nat
  deriving DecidableEq, Repr

/-- The Dispatcher beyond its registers. -/
structure Disp where
  /-- Descriptors that are not FREE, by index (R212). -/
  desc : List (Nat × Desc)
  /-- READY descriptors, oldest first (R221). -/
  ready : List Nat
  /-- Rings of event sources 0 to 11 (R225). -/
  rings : List SrcRing
  /-- Records waiting to be written, in end order (R229). -/
  recs : List EndRec
  /-- Successor lists being read, in end order (R217). -/
  jobs : List ListJob
  /-- Number of the next record. -/
  nextId : Nat
  /-- Clock time of the last PEG_UNDERFLOW fault-log record (R215). -/
  lastPegLog : Option Nat
  /-- Whether dispatch is stopped by a mode transition (R403). -/
  stopped : Bool
  deriving DecidableEq, Repr

/-! ### Control cores (chapter 06) -/

/-- One control core (Table CC-1), the descriptor it runs and the cycles the item has used (R203). -/
structure Core where
  pc : Nat
  sw : Nat
  wp : Nat
  a0 : Nat
  a1 : Nat
  a2 : Nat
  a3 : Nat
  item : Option Nat
  cycles : Nat
  /-- A test waits for the running item or runs (R443): the Dispatcher gives the core no item. -/
  testing : Bool
  /-- A RETIRE waits for the running item to end (R444): its cause. -/
  retireAtEnd : Option Nat
  /-- Single-bit errors of this core's local RAM that were corrected (R181). -/
  ramErrs : Nat
  deriving DecidableEq, Repr

/-- A core at reset: no item. DESIGN CHOICE (log 41, not safe). -/
def Core.idle : Core := ⟨0, 0, 0, 0, 0, 0, 0, none, 0, false, none, 0⟩

/-! ### Power, reset and clocks (chapter 15) -/

/-- A mode transition in progress (R400). -/
structure Trans where
  /-- Mode it started from. -/
  old : Nat
  /-- Mode being entered, Table PW-1. -/
  target : Nat
  /-- Sample boundaries up to the one at which the Voice Array and SPE of a transition from RUN stop: 64 of the DAC fall and the
  one after it (R346, Table PW-2); 0 where none is running. -/
  fall : Nat
  /-- Trail cycles left in which the node inserts nothing before BYPASSn falls (step 3). -/
  quiet : Nat
  deriving DecidableEq, Repr

/-- The Lantern domain and the reset machine beyond their registers. DEDUCED (log 88, safe). -/
structure Power where
  /-- VDDAO is present (mode OFF otherwise, R398). -/
  vddao : Bool
  /-- A reset holds the device until RESET_RELEASE (R412). -/
  held : Bool
  /-- The hold is the power-on reset (R409), so the Lantern domain restarts too. -/
  coldHold : Bool
  /-- Start-up steps of Table PW-4 done so far: 0 none, 1 oscillator qualified, 2 PLL locked, 3 Basin clear ended. -/
  startup : Nat
  /-- A requested warm reset that has not asserted yet (R415): clock time at which it asserts. -/
  resetAt : Option Nat
  /-- A RELOAD on its way (R293, R434): 0 none, 1 waits for a trail cycle, 2 in the cycle without inserts before BYPASSn falls, 3 from then
until its reset. -/
  reloadQuiet : Nat
  /-- A RELOAD's bank choice for the next boot (R434): 0 by R428, 1 or 2 a bank. -/
  reloadBank : Nat
  /-- The transition in progress. -/
  trans : Option Trans
  /-- Watchdog count in base-clock ticks (R416). -/
  wdog : Nat
  /-- The 32.768 kHz crystal runs the Lantern domain (R411). -/
  xtal : Bool
  /-- Clock time at which the crystal was started. -/
  xtalStart : Nat
  /-- Ball levels. -/
  pwrenC : Bool
  bypassN : Bool
  headenPin : Bool
  /-- Clock time at which the relay opens after BYPASSn rose (R293). -/
  relayAt : Option Nat
  /-- Clock times at which the wake bursts on ports A and B end (R406). -/
  burstA : Option Nat
  burstB : Option Nat
  /-- Sample boundaries since the Voice Array and SPE started, 3 at most (R20, R400). -/
  runAge : Nat
  /-- Another supply was valid while VDDAO was absent (R409). -/
  order : Bool
  /-- The Basin must be cleared before boot (R254). -/
  needClear : Bool
  deriving DecidableEq, Repr

/-! ### Pack, flash and fault log (chapter 16) -/

/-- What the flash device is doing (R432, R438). -/
inductive FlashWork where
  | idle
  | erase
  | page
  | verify
  | commit
  | log
  deriving DecidableEq, Repr

/-- The pack block beyond its registers. -/
structure Pack where
  /-- log2 of the flash size (R420). -/
  log2size : Nat
  /-- Flash contents; an unlisted byte is erased, 0xFF. -/
  flash : List Host.Cell
  /-- Bytes of the key fuses (R432); all zero when blank. -/
  fuses : List Byte
  /-- Owner of the update session (R432). -/
  owner : Option Source
  work : FlashWork
  /-- Records waiting to be written to the fault log, oldest first, at most 16 (R438). -/
  logq : List (List Byte)
  /-- Position of the next record in the log, 0 to 32,767 (R437). -/
  logPos : Nat
  /-- The system key (R312). -/
  key : Option (List Byte)
  /-- Slot owners by node number given by a SLOTMAP record: slot, node and VALID (Table PK-4). -/
  slotmap : List (Nat × Nat × Bool)
  /-- Boot: the bank being loaded, whether it was the first choice, and the target mode read. -/
  bootBank : Option Nat
  bootDone : Bool
  bootTarget : Nat
  deriving DecidableEq, Repr

/-! ### Fault rule (chapter 17) -/

/-- Error windows and the running test. -/
structure FaultRt where
  /-- Times of the recent errors of each unit, newest first (R441). -/
  times : List (Nat × List Nat)
  /-- The unit whose test runs (R443). -/
  testUnit : Option Nat
  /-- Unit errors that the command being executed has met, oldest first (R440). -/
  errs : List Nat
  deriving DecidableEq, Repr

/-! ### Host interface (chapter 18) -/

/-- The SPI target beyond its registers. DEDUCED (log 88, safe). -/
structure HostIf where
  /-- Bytes driven on HOST_MISO by the last frame, from STATUS on (R455). -/
  miso : List Byte
  deriving DecidableEq, Repr

/-! ### Voice Array (chapters 02 to 04) -/

/-- A glide in progress (R85): the 48-bit state v, the target word value, whether one-pole, the start state, the linear step, the
one-pole factor, the length in samples and the samples done. -/
structure Glide where
  v : Int
  target : Int
  onePole : Bool
  v0 : Int
  d : Int
  a : Nat
  n : Nat
  i : Nat
  deriving DecidableEq, Repr

/-- An X crossfade of one field (R82): the old and the new field value, and the samples done. A further change stands in the
written word until this crossfade ends. -/
structure XFade where
  old : Nat
  new : Nat
  i : Nat
  deriving DecidableEq, Repr

/-- A switch fade (R48): gain in 1/32, and whether it is falling. -/
structure SFade where
  gain : Nat
  falling : Bool
  deriving DecidableEq, Repr

/-- A wave directory entry as latched (Tables VS-6 and VS-7): KIND 1 wavetable, 2 W16 sample, 3 S24 sample. -/
structure WaveEntry where
  kind : Nat
  loop : Nat
  root : Nat
  data : Nat
  length : Nat
  nx : Nat
  ny : Nat
  loopStart : Nat
  loopEnd : Nat
  srate : Nat
  deriving DecidableEq, Repr

/-- Running state of one oscillator. -/
structure Osc where
  /-- Phase (32 bits) or sample position (32.32) of the last sample rendered, or the start state not yet rendered (loaded). -/
  pos : Int
  /-- Increment in force: the one formed in the last sample rendered (R51). -/
  inc : Nat
  entry : Option WaveEntry
  entryNo : Nat
  badwave : Bool
  ended : Bool
  inloop : Bool
  rev : Bool
  /-- The loop is active: not yet left at release (R61, R62). -/
  looping : Bool
  /-- A start state was loaded and no sample has been rendered from it: the position does not advance first (R49). -/
  loaded : Bool
  /-- Output of the last sample, before LEVEL, S24 (R56). -/
  out : Int
  noise : Nat
  held : Int
  /-- Morph values and phase-modulation depth of the last sample (R51). -/
  morphA : Nat
  morphB : Nat
  pmDep : Int
  fade : Option SFade
  deriving DecidableEq, Repr

/-- Running state of one envelope (R96): segment (8: after segment 7), start level, level, count, length, the segment's words
as read on entry, whether it holds, whether it is in its release phase and has entered its RELEASE segment. -/
structure Env where
  seg : Nat
  l0 : Nat
  level : Nat
  i : Nat
  n : Nat
  segt : Nat
  segl : Nat
  hold : Bool
  rel : Bool
  entered : Bool
  deriving DecidableEq, Repr

/-- Running state of one LFO (R102, R103): phase of the next sample, generator, v0, v1, fade count, length of the fade-in, output
of the last sample. -/
structure Lfo where
  phase : Nat
  gen : Nat
  v0 : Int
  v1 : Int
  k : Nat
  fadeN : Nat
  out : Int
  deriving DecidableEq, Repr

/-- A start that waits for the end of a ramp (R121, R127). -/
structure DStart where
  patch : Nat
  seed : Nat
  key : Nat
  vel : Nat
  prio : Nat
  directed : Bool
  zone : Nat
  zoneDirected : Bool
  late : Bool
  /-- The voice ramped for it was MIRRORED with the message's zone (R130). -/
  mirrorOk : Bool
  deriving DecidableEq, Repr

/-- Who made a write or event that reaches a voice, for R131. -/
inductive VSrc where
  | localWrite
  | trailWrite (node : Nat)
  | event (zone : Nat) (zoneDirected late : Bool)
  deriving DecidableEq, Repr

/-- A write held for an intake (R25) or for a deferred start (R124): words from word on, and a PARAM_SET's own glide time and shape. -/
structure HeldWrite where
  src : VSrc
  voice : Nat
  word : Nat
  values : List Half
  glide : Option (Nat × Nat)
  deriving DecidableEq, Repr

/-- The voice events (Table VA-3), with the fields of Table TD-8. -/
inductive VEvent where
  | noteOn (group key vel prio : Nat) (patch seed : Option Nat)
  | noteOff (group keyno relvel : Nat)
  | directed (group voice key vel prio : Nat) (legato : Bool) (patch seed : Nat)
  | voiceOff (group voice relvel : Nat)
  | voiceStop (group voice : Nat)
  | groupStop (group : Nat)
  | paramSet (group voice word value : Nat) (glide : Option (Nat × Nat))
  deriving DecidableEq, Repr

/-- Running state of one voice (R113, Table VA-2). STATE: 0 IDLE, 1 ACTIVE, 2 RELEASE, 3 RAMP. -/
structure VRun where
  st : Nat
  directed : Bool
  mirrored : Bool
  prio : Nat
  mzone : Nat
  patchno : Nat
  notekey : Nat
  /-- LOUD of the last sample rendered, which a read shows, and of the one before it, which an intake reads (R118, R122). -/
  loud : Nat
  loudWas : Nat
  reltime : Nat
  start : Nat
  /-- The seed of the last start (R68, R70). -/
  seed : Nat
  /-- No sample has been rendered since the start (R51, R108). -/
  first : Bool
  /-- A refused patch: oscillators silent, amplitude 0 (R81). -/
  badpatch : Bool
  /-- The voice finished in the last sample rendered (R100, R119). -/
  fin : Bool
  /-- Rendered samples of the steal ramp (R123). -/
  rampK : Nat
  /-- The release phase has begun, and no retrigger has ended it; it lasts on into a ramp (R62, R97). -/
  released : Bool
  /-- Retirement fade (R115): held output, held light value. -/
  retire : Option (Int × Nat)
  /-- Previous output y (R114) and light value before channel choice. -/
  y : Int
  light : Nat
  defer : Option DStart
  deferWrites : List HeldWrite
  osc1 : Osc
  osc2 : Osc
  mixFade : Option SFade
  filtFade : Option SFade
  /-- Written F words whose change waits for the zero point: word and value in force (R48). -/
  fHold : List (Nat × Nat)
  /-- Filter states Q4.28: stage 1, stage 2, tilt (R91, R92). -/
  ic : List Int
  env : List Env
  lfo : List Lfo
  glides : List (Nat × Glide)
  /-- Crossfades, keyed by 4 × word + field. -/
  xfades : List (Nat × XFade)
  /-- Matrix sums by destination (R108). -/
  sums : List Int
  deriving DecidableEq, Repr

/-- An oscillator that has never started. -/
def Osc.idle : Osc := ⟨0, 0, none, 0, false, false, false, false, false, false, 0, 0, 0, 0, 0, 0, none⟩
/-- An envelope that has never started. -/
def Env.idle : Env := ⟨0, 0, 0, 0, 0, 0, 0, false, false, false⟩
/-- An LFO that has never started. -/
def Lfo.idle : Lfo := ⟨0, 0, 0, 0, 0, 0, 0⟩
/-- An idle voice that has never started. -/
def VRun.idle : VRun :=
  { st := 0, directed := false, mirrored := false, prio := 0, mzone := 0, patchno := 0, notekey := 0, loud := 0, loudWas := 0,
    reltime := 0, start := 0, seed := 0, first := false, badpatch := false, fin := false, rampK := 0, released := false, retire := none, y := 0, light := 0,
    defer := none, deferWrites := [], osc1 := Osc.idle, osc2 := Osc.idle, mixFade := none, filtFade := none, fHold := [],
    ic := [0, 0, 0, 0, 0], env := [], lfo := [], glides := [], xfades := [], sums := [] }

/-- The Voice Array beyond its registers. -/
structure VoiceArr where
  /-- Parameter words as last written, key 1024 × voice index + word; an unlisted word is 0. -/
  words : List (Nat × Half)
  /-- Voices that are not in the state of a voice never started, by index 16 × group + voice. -/
  runs : List (Nat × VRun)
  /-- Writes held for the next intake, in order of acceptance (R25). -/
  held : List HeldWrite
  /-- Pins and group configurations in force (R126), by group. -/
  pins : List (Nat × Nat)
  cfgs : List (Nat × Nat)
  /-- Mix buses of the last sample rendered, S24 (R111). -/
  bus : List Int
  /-- Light codes of the last sample rendered, and of the one before, being processed (R138). -/
  light : List Nat
  lightPrev : List Nat
  /-- Glides of the node position: x, y, z in use (R135), keyed 0 to 2. -/
  nodeGlide : List (Nat × Glide)
  /-- Content was written while a recalculation ran (R132). -/
  dirtied : Bool
  deriving DecidableEq, Repr

/-- The Voice Array after a reset. -/
def VoiceArr.reset : VoiceArr := ⟨[], [], [], [], [], List.replicate 32 0, List.replicate 8 0, List.replicate 8 0, [], false⟩

/-! ### Stream Program Engine (chapter 05) -/

/-- The setting of a delay line (R154): EN, FMT W16, ADR, LEN. -/
structure DSet where
  en : Bool
  w16 : Bool
  adr : Nat
  len : Nat
  deriving DecidableEq, Repr

/-- One delay line: the setting in force and the one latched for the next run (R159), whether a setting latched since the last run left it
disabled, the write position (R155), the bytes cleared so far by a clear in progress, the line as the clear found it, the positions
written since it began (R160), and the position and sample written by the last run (R156). -/
structure DLine where
  cur : DSet
  nxt : DSet
  off : Bool
  wp : Nat
  clr : Option Nat
  clrSet : DSet
  wrote : List Nat
  last : Option (Nat × Int)
  deriving DecidableEq, Repr

/-- A line that has never been set. -/
def DLine.never : DLine := ⟨⟨false, false, 0, 1⟩, ⟨false, false, 0, 1⟩, false, 0, none, ⟨false, false, 0, 1⟩, [], none⟩

/-- A coefficient ramp (R165): start, target, length, runs done. -/
structure Ramp where
  v0 : Int
  v1 : Int
  n : Nat
  k : Nat
  deriving DecidableEq, Repr

/-- A LOAD that is validating or waits to swap (R169, R170). -/
structure Load where
  len : Nat
  clrt : Bool
  time : Nat
  deriving DecidableEq, Repr

/-- The SPE beyond its registers (Table SP-1). -/
structure Spe where
  /-- Running and staging programs, by step. -/
  prog : List (Nat × BitVec 48)
  stage : List (Nat × BitVec 48)
  /-- Coefficients in force and shadow. -/
  coef : List (Nat × S24)
  shadow : List (Nat × S24)
  dirty : List Nat
  ramps : List (Nat × Ramp)
  /-- The pending commit: its time and NORAMP (R164). -/
  commit : Option (Nat × Bool)
  load : Option Load
  /-- Temporaries now, and as they stood at the start of the last run (R156). -/
  temps : List (Nat × S24)
  tempsAt : List (Nat × S24)
  /-- Temporary writes held for the next run (R142). -/
  heldT : List (Nat × S24)
  acc : List Int
  ins : List Int
  out : List Int
  lines : List (Nat × DLine)
  /-- The maps of output slots 12 to 43 that the last run uses (R174). -/
  outMap : List Nat
  /-- Clock time at which the copy-back began (R166). -/
  copyAt : Nat
  /-- Core taps whose RUN was cleared since the last boundary (R176). -/
  tapStop : List Nat
  deriving DecidableEq, Repr

/-- The SPE after a reset. -/
def Spe.reset : Spe :=
  ⟨[], [], [], [], [], [], none, none, [], [], [], [0, 0, 0, 0], List.replicate 64 0, List.replicate 64 0, [], List.replicate 32 0, 0, []⟩

/-! ### Trail (chapters 09 and 10) -/

/-- The copy being received on a port, its header checked (R268): local time of its comma and header bytes as received, whether it is bad
already, where it goes (0 nowhere, 1 the other port, 2 wrapped), and the local time at which its transmission began, none where it is not sent on. -/
structure RxCopy where
  rx : Nat
  head : List Byte
  bad : Bool
  dest : Nat
  tx : Option Nat
  deriving DecidableEq, Repr

/-- One Trail port beyond its registers. -/
structure TPort where
  /-- Consecutive error-free training sets, the peer's last STATE (2 while it sends frames), clock time of entering SIGNAL (R262, R263). -/
  sets : Nat
  peer : Nat
  signalAt : Nat
  /-- Comma of the frame cadence, the latest commas, newest first, in local time of 2^-8 tick, and misplaced commas in a row (R265, R279). -/
  cadence : Option Nat
  commas : List Nat
  misplaced : Nat
  hdr : Option RxCopy
  /-- A whole copy has been received since the port came UP. -/
  copied : Bool
  /-- HOPS and TSTAMP of the last copy if it was good, for the timing copy, and its error e in 2^-8 tick (R282, R283). -/
  good : Option (Nat × Nat)
  err : Int
  /-- Clock time of the last good copy with WRAP = 0 (RINGCLOSED). -/
  goodAt : Option Nat
  /-- Link delays of the last good frames, newest first, at most 256 (R280). -/
  links : List Int
  /-- Transmission times of the last frames sent, newest first, in 2^-8 tick, and whether each was sent bad (R279, R280). -/
  sentAt : List (Nat × Bool)
  /-- A good copy that waits for its delivery (R287). -/
  copy : Option (List Byte)
  /-- The last frame transmitted; its header alone until the copy that it forwards has been received whole. -/
  txFrame : List Byte
  /-- COPY of the frames sent out of this port (R315). -/
  outCopy : Bool
  /-- The relay distance of the present break on copies sent out of this port, with the WRAPPOS of the copies relayed (R277). -/
  relayR : Option (Nat × Nat)
  /-- Messages of the last two copies forwarded out of this port, newest first (R317). -/
  sent : List (List (List Byte))
  /-- Recovered messages still to place, and wrapped copies left for them. -/
  recov : List (List Byte)
  recovLeft : Nat
  deriving DecidableEq, Repr

/-- A port after a reset. -/
def TPort.reset : TPort :=
  { sets := 0, peer := 0, signalAt := 0, cadence := none, commas := [], misplaced := 0, hdr := none, copied := false, good := none, err := 0,
    goodAt := none, links := [], sentAt := [], copy := none, txFrame := [], outCopy := false, relayR := none, sent := [], recov := [], recovLeft := 0 }

/-- A queued message: its bytes, the copies it has gone into (COPY 0 and 1), and whether it
occupies the queue that SEND and the host fill (R310). -/
structure TxMsg where
  bytes : List Byte
  gone0 : Bool
  gone1 : Bool
  own : Bool
  deriving DecidableEq, Repr

/-- An outstanding command (R309): destination, ORIGSEQ, image, whether the local host sent it, repeats left, clock time of the last
attempt, and the last E_FULL or E_BUSY received. -/
structure CmdOut where
  dest : Nat
  orig : Nat
  image : List Byte
  host : Bool
  left : Nat
  since : Nat
  last : Nat
  deriving DecidableEq, Repr

/-- The last command executed for a source, and its REPLY image (R310). -/
structure Kept where
  src : Nat
  orig : Nat
  reply : List Byte
  deriving DecidableEq, Repr

/-- A row of the trailhead's table (R296). -/
structure NodeEnt where
  serial : Nat
  node : Nat
  heard : Nat
  present : Bool
  neighA : Nat
  neighB : Nat
  stby : Bool
  /-- An ADMIT without its REPLY: SEQ, repeats made, clock time of the last (R297). -/
  admitRun : Option (Nat × Nat × Nat)
  deriving DecidableEq, Repr

/-- What an event does at its intake or time (Table TD-8). -/
inductive EvAct where
  | voice (e : VEvent)
  | tmsg (record : List Byte)
  | speCommit (noramp : Bool)
  | speSwap (len : Nat) (clrt : Bool)
  | lead (periods : Nat)
  | mapCommit (epoch : Nat)
  | refused
  deriving DecidableEq, Repr

/-- A queued event (R24, R305, R462): TIME, source, sequence number, zone, whether zone-directed, and whether it came from GO. -/
structure QEvent where
  time : Nat
  src : Nat
  seq : Nat
  zone : Nat
  zd : Bool
  go : Bool
  act : EvAct
  deriving DecidableEq, Repr

/-- A map epoch being received (R299): positions by node, owners by slot as 16-bit entries. -/
structure MapNew where
  epoch : Nat
  pos : List (Nat × Nat)
  slots : List (Nat × Nat)
  deriving DecidableEq, Repr

/-- Content of a wrapped copy that the trailhead relays (R277): the port it goes out of, its stamp, WRAPPOS, slots, messages, and trail time at
which it was received whole. -/
structure RelayJob where
  out : Port
  stamp : Nat
  wrappos : Nat
  slots : List (Nat × Nat)
  msgs : List (List Byte)
  at_ : Nat
  deriving DecidableEq, Repr

/-- The Trail beyond its registers. -/
structure Trail where
  a : TPort
  b : TPort
  /-- Message counters: the node's own, and the one of node 0 after a takeover (R303, R315). -/
  seq : Nat
  seq0 : Nat
  txq : List TxMsg
  kept : List Kept
  /-- Duplicate windows by source: H and the mask of the 32 numbers below it (R278). -/
  win : List (Nat × (Nat × Nat))
  events : List QEvent
  cmds : List CmdOut
  nodes : List NodeEnt
  /-- The epochs received and not yet in force, and the epoch a MAP_COMMIT found incomplete. -/
  maps : List MapNew
  wanted : Option Nat
  /-- The map before the one in force, for frames stamped before mapTime: position and SLOTOWN words. -/
  mapTime : Nat
  oldPos : Nat
  oldOwn : List (Nat × Nat)
  /-- Trailhead: clock time of the last map sent. -/
  mapSent : Nat
  /-- Trail cycles without a good copy, good frames with a small e in a row, the e of the latest 16 good frames in HOLDOVER in 2^-8 tick,
  newest first, a good copy in this cycle (R284, R285). -/
  missed : Nat
  steady : Nat
  errs : List Int
  gotGood : Bool
  /-- Trail time is to be set by the next good frame (Table TL-6). -/
  needTime : Bool
  /-- The port of the last timing copy (R283). -/
  timingPort : Option Port
  /-- Error e of the last good copy of the timing copy in 2^-8 tick, the pull of the loop in 1/256 ppm (R282), the error of port A's copies less
  that of port B's, and what is left of the differences added at switches of the timing copy, in millionths of 2^-8 tick (R283). -/
  err : Int
  pull : Int
  diff : Int
  offs : Int
  /-- Samples received for taps: stamp, slot, code (R287). -/
  buf : List (Nat × Nat × Int)
  /-- Last value of each of the 16 taps, and the last presentation instant shown. -/
  tapVal : List Int
  tapAt : Option Nat
  /-- Samples to insert: stamp, slot, code. -/
  ins : List (Nat × Nat × Int)
  relays : List RelayJob
  /-- Relayed samples counted as late: stamp and slot (R277). -/
  late : List (Nat × Nat)
  /-- LEAD and MAP_COMMIT events taken at their intakes, which act at their times (R299, R306). -/
  timed : List QEvent
  /-- Trailhead: the epoch whose MAP_COMMIT is sent once its map messages have gone (R299); it stops at its next frame boundary (R316). -/
  commitFor : Option Nat
  stopping : Bool
  /-- Stamps of the frames whose earliest good copy has been judged, latest first, at most 512 (R489). -/
  judged : List Nat
  /-- Stamp of the last frame started as trailhead. -/
  started : Option Nat
  /-- D of R315 in 2^-8 tick, 0 on a trailhead that did not take over. -/
  delay : Nat
  /-- Node number named in the pack (Table TD-1). -/
  wantNode : Option Nat
  /-- A node without a pack has learned its system ID and rate (R431). -/
  learned : Bool
  /-- Positions by node number of the map in force (R299). -/
  posOf : List (Nat × Nat)
  helloAt : Nat
  helloNow : Bool
  /-- Clock time at which listening began (R316). -/
  listenAt : Option Nat
  /-- Comma heard while listening. -/
  heard : Bool
  /-- High word captured by TRAIL_TIMELO (R290). -/
  hiHold : Nat
  /-- Hard realignment: 0 none, 1 waits to mute, 2 waits to set time, 3 muted until realignEnd (R286). -/
  realign : Nat
  realignEnd : Nat
  deriving DecidableEq, Repr

/-- The Trail after a reset. -/
def Trail.reset : Trail :=
  { a := TPort.reset, b := TPort.reset, seq := 0, seq0 := 0, txq := [], kept := [], win := [], events := [], cmds := [], nodes := [],
    maps := [], wanted := none, mapTime := 0, oldPos := 0, oldOwn := [], mapSent := 0, missed := 0, steady := 0,
    errs := [], gotGood := false, needTime := false, timingPort := none, err := 0, pull := 0, diff := 0, offs := 0, buf := [], tapVal := List.replicate 16 0, tapAt := none, ins := [],
    relays := [], late := [], timed := [], commitFor := none, stopping := false, judged := [], started := none, delay := 0
    wantNode := none, learned := false, posOf := [], helloAt := 0, helloNow := false, listenAt := none, heard := false,
    hiHold := 0, realign := 0, realignEnd := 0 }

/-! ### Audio ports (chapter 11) -/

/-- Measurement of one external clock (R327, R328): the last frame periods in 1/256 base-clock tick, newest first, at most 256;
consecutive periods more than 0.5% off; consecutive frames within 0.5% of their own mean; clock time of the last frame or edge; whether the
clock is back and the port unmutes at the next boundary. -/
structure PClk where
  periods : List Nat
  off : Nat
  stable : Nat
  since : Nat
  back : Bool
  deriving DecidableEq, Repr

/-- The preamble of a biphase subframe (R334). -/
inductive Preamble where
  | x | y | z
  deriving DecidableEq, Repr

/-- A subframe as a BPT sends it (R334, R337): bit i of the word in time slot i, slots 0 to 3 being the preamble's. -/
structure Subframe where
  pre : Preamble
  word : Word
  deriving DecidableEq, Repr

/-- One audio port beyond its registers. -/
structure APort where
  /-- Directions running since a boundary (R338). -/
  rxRun : Bool
  txRun : Bool
  clk : PClk
  /-- Receive FIFO of a slave, oldest first, and whether the latch waits for TLEVEL frames (R326). -/
  fifo : List (List Int)
  refill : Bool
  /-- The last frame received, the frame a master has completed and not yet latched, the port sample latched last. -/
  prev : List Int
  fresh : List Int
  cur : List Int
  /-- Transmit FIFO of a slave; the frame being sent; the port sample a master holds for its next frame; the port sample fetched from the
  ring for the next presentation (R331). -/
  txFifo : List (List Int)
  txNow : List Int
  txHold : List Int
  fetched : List Int
  /-- Channel-status and user words that the transmitter sends, and whether CSUPD waits for the next block (R337). -/
  csNow : List Nat
  csPend : Bool
  /-- The two subframes of the frame that a BPT is sending, none while it does not run. -/
  frame : List Subframe
  deriving DecidableEq, Repr

/-- A port after a reset. -/
def APort.reset : APort :=
  ⟨false, false, ⟨[], 0, 0, 0, false⟩, [], false, [], [], [], [], [], [], [], List.replicate 24 0, false, []⟩

/-- The audio ports beyond their registers. -/
structure APorts where
  ports : List APort
  /-- The clock on the WCLK ball, and the time from its last edge to the next boundary (R339). -/
  wclk : PClk
  wphase : Nat
  /-- Clock time since which the loop stands at its limit (R340). -/
  limitAt : Option Nat
  /-- PULL at a release and its clock time (R340). -/
  release : Option (Int × Nat)
  /-- Whether the source has been dead since the release (R340); the sum of the loop's errors since it pulled in (R339). -/
  relDead : Bool
  integ : Int
  deriving DecidableEq, Repr

/-- The audio ports after a reset. -/
def APorts.reset : APorts := ⟨List.replicate 8 APort.reset, ⟨[], 0, 0, 0, false⟩, 0, none, none, false, 0⟩

/-! ### Audio DACs and control outputs (chapter 12) -/

/-- A DAC channel (R346): mute switch, gain in 1/64, the S24 value presented, and whether a hard realignment holds the gain at 0. -/
structure Dac where
  opened : Bool
  gain : Nat
  x : Int
  held : Bool
  deriving DecidableEq, Repr

/-- A DAC channel whose mute switch is closed. -/
def Dac.closed : Dac := ⟨false, 0, 0, false⟩

/-- Where a range sequence stands (R354): none, ramping to the old zero code, clamped since a trail time, ramping on the new range. -/
inductive CSeq where
  | none
  | toZero
  | clamp (since : Nat)
  | toTarget
  deriving DecidableEq, Repr

/-- A control output (R349 to R354): the range in force, output and target code, sequence, whether the source has set the target since
the channel was enabled and whether COUT_CODE was written since then (R352), the first trail time at which a step is still to be made, and
the clock time at which COMPL was set. -/
structure Cout where
  range : Nat
  out : Nat
  target : Nat
  seq : CSeq
  sourced : Bool
  coded : Bool
  nextStep : Nat
  complAt : Nat
  deriving DecidableEq, Repr

/-- A control output that is off. -/
def Cout.off : Cout := ⟨0, 0, 0, .none, false, false, 0, 0⟩

/-- The analogue outputs beyond their registers. -/
structure Ana where
  dacs : List Dac
  couts : List Cout
  /-- VDDA is at least 2.8 V (R349). -/
  vdda28 : Bool
  deriving DecidableEq, Repr

/-- The analogue outputs after a reset. -/
def Ana.reset : Ana := ⟨List.replicate 4 Dac.closed, List.replicate 8 Cout.off, false⟩

/-! ### Serial ports (chapter 13) -/

/-- What the frame engine of modes 2 and 3 is doing (R376, R377): waiting, a break seen, a sync byte measured, sending a header, sending a
response, ending a transmission in which a bit read back wrong, or receiving a response. -/
inductive SFrame where
  | idle
  | gotBreak
  | gotSync
  | header (id : Nat)
  | respond (id : Nat) (data : List Byte)
  | broken (id : Nat) (data : List Byte)
  | listen (id len : Nat) (enh : Bool) (got : List Byte)
  deriving DecidableEq, Repr

/-- One serial port beyond its registers. -/
structure SerPort where
  /-- Receive entries, oldest first: DATA [8:0], FE, PE, BRK, NOISE, LOST in [13:9] (Table SE-2). -/
  rx : List Nat
  /-- Transmit entries, oldest first: DATA [8:0], BRK [9]; the one in the shifter; XON or XOFF to be sent next. -/
  tx : List Nat
  shift : Option Nat
  flow : Option Nat
  /-- Bits of the character in the shifter in the order in which the line carries them, as far as its first stop bit, and the clock time at
  which its stop time ends or ended (R365). -/
  wire : List Bool
  done : Nat
  /-- Sn_DE. -/
  de : Bool
  /-- A written DIV has not taken effect in the transmitter, the receiver; OS × DIV in force in each, and the clock time of the write (R366, R368). -/
  pendTx : Bool
  pendRx : Bool
  tbit : Nat
  rbit : Nat
  divAt : Nat
  /-- Clock time since which the line is low, after a break with no later character (R375). -/
  lowAt : Option Nat
  frame : SFrame
  /-- Bytes that the frame engine has still to send (256: a break), and the clock time of the identifier's end. -/
  out : List Nat
  since : Nat
  /-- Mode 4: clock times at which the last packet started and ends; the bytes last driven on the line. -/
  started : Option Nat
  ends : Nat
  line : List Byte
  /-- RDM: a SEND waits for its response or its start until this clock time. -/
  rdm : Option Nat
  /-- Mode 5: next ring entry, clock time of the last valid packet and of the end of the last packet. -/
  ring : Nat
  validAt : Nat
  packetAt : Nat
  /-- Value last delivered by each map entry (R380). -/
  last : List (Nat × Nat)
  deriving DecidableEq, Repr

/-- A serial port after a reset. -/
def SerPort.reset : SerPort :=
  { rx := [], tx := [], shift := none, flow := none, wire := [], done := 0, de := false, pendTx := false, pendRx := false,
    tbit := 3408, rbit := 3408, divAt := 0, lowAt := none, frame := .idle, out := [], since := 0,
    started := none, ends := 0, line := [], rdm := none, ring := 0, validAt := 0, packetAt := 0, last := [] }

/-! ### Timers (chapter 14) -/

/-- One timer channel beyond its registers: the count, a jump waiting for the next step (R387), the CMP and PER in force and those staged
(R392), the output, edges counted by the prescaler, the high word captured by a read of the even channel and the one held by a
write to the odd channel (R389), and the events of the last step that had any: which, its clock time, whether their record stands in the ring
(R394). -/
structure Tmr where
  cnt : Nat
  jump : Option Nat
  cmp : Nat
  per : Nat
  staged : Option (Nat × Nat)
  out : Bool
  presc : Nat
  hold : Nat
  held : Option Nat
  evs : Nat
  evClk : Nat
  sent : Bool
  deriving DecidableEq, Repr

/-- A channel after a reset. -/
def Tmr.reset : Tmr := ⟨0, none, 0, 0, none, false, 0, 0, none, 0, 0, false⟩

/-- The timers beyond their registers: the channels, whether the slow clock drives them, its fraction of a tick in 1/16 (Table TM-1), the
ticks since its last edge, whether the base clock takes over at its next one (R386), and
the groups armed after their time (R395). -/
structure Tmrs where
  chans : List Tmr
  slow : Bool
  frac : Nat
  acc : Nat
  change : Bool
  late : List Nat
  deriving DecidableEq, Repr

/-- The timers after a reset. -/
def Tmrs.reset : Tmrs := ⟨List.replicate 16 Tmr.reset, true, 0, 0, false, []⟩

/-! ### The node -/

/-- The state of one node. -/
structure State where
  /-- Commands waiting, first in, first out, in the order in which they take effect (log 90). -/
  pending : List Instr
  /-- The model's own counter of free values drawn. -/
  fresh : Nat
  /-- Trail time in base-clock ticks (R12), and its fraction of a tick in 2^-8 (R282). -/
  time : Nat
  sub : Nat
  /-- Base-clock ticks since reset, never set by the Trail: what windows and time-outs are measured on. -/
  clk : Nat
  /-- Phase counter at the start of the present tick, in FCLK cycles (R17). -/
  phase : Nat
  /-- Registers, keyed by address (Table HI-8). -/
  regs : List (Nat × Word)
  basin : Basin
  disp : Disp
  cores : List Core
  /-- Local RAM of the cores, byte key 0x1_0000 × core + offset (Table NS-5). -/
  lram : List Host.Cell
  /-- Local RAM words whose stored bits hold an error: word key, and whether it is uncorrectable (R181). -/
  lramEcc : List (Nat × Bool)
  voice : VoiceArr
  spe : Spe
  trail : Trail
  aports : APorts
  ana : Ana
  ser : List SerPort
  tmr : Tmrs
  power : Power
  pack : Pack
  flt : FaultRt
  host : HostIf
  deriving DecidableEq, Repr

/-! ### Stops -/

/-- Why a step stops with a fault. -/
inductive Fault where
  /-- The command's operands are not ones that the outside can give (a byte list of the wrong length, an index the
  configuration lacks): raised where WellFormed refuses the command. Safe. -/
  | illFormed
  deriving DecidableEq, Repr

/-- Why a step is refused. -/
inductive Refusal where
  /-- The command has no meaning in the model yet. Safe. -/
  | notModelled (mnemonic : String)
  deriving DecidableEq, Repr

/-! ### Reset -/

/-- The Basin after a cold reset (Table BM-4). -/
def Basin.reset : Basin := ⟨[], [], [], [], [], [], [], 0⟩

/-- The Dispatcher after a reset: every descriptor FREE (R223). -/
def Disp.reset : Disp := ⟨[], [], List.replicate 12 SrcRing.empty, [], [], 0, none, false⟩

/-- The Lantern domain after a cold reset. -/
def Power.reset : Power :=
  ⟨true, true, true, 0, none, 0, 0, none, 0, false, 0, false, false, false, none, none, none, 0, false, true⟩

/-- The pack block at reset. DESIGN CHOICE: a 16 MiB flash, erased, and blank key fuses. DESIGN CHOICE (log 42, not safe). -/
def Pack.reset : Pack := ⟨24, [], List.replicate 32 0, none, .idle, [], 0, none, [], none, false, 0⟩

/-- The machine right after a cold reset. -/
def State.reset : State where
  pending := []
  fresh := 0
  time := 0
  sub := 0
  clk := 0
  phase := 0
  regs := []
  basin := Basin.reset
  disp := Disp.reset
  cores := List.replicate 8 Core.idle
  lram := []
  lramEcc := []
  voice := VoiceArr.reset
  spe := Spe.reset
  trail := Trail.reset
  aports := APorts.reset
  ana := Ana.reset
  ser := List.replicate 2 SerPort.reset
  tmr := Tmrs.reset
  power := Power.reset
  pack := Pack.reset
  flt := ⟨[], none, []⟩
  host := ⟨[]⟩

end Sys2Proof.Machine
end

