-- ==== Sys2Proof/Machine/Ops.lean ====
section
/-!
DEFINITION. The named operations on the state that every chapter uses: registers and their fields, statistics counters,
interrupt causes, free values, time, plain Basin bytes, source rings (R225) and the fault-log queue (R438).
-/
namespace Sys2Proof.Machine

/-- The outcome of a command. -/
abbrev Out := Host.Outcome State Fault Refusal

/-- The node with another queue of waiting commands. -/
def State.queued (s : State) (q : List Instr) : State := { s with pending := q }

/-- A command that completes with effect f; the queue is left to step. DESIGN CHOICE (log 3, safe). -/
def State.run (s : State) (f : State → State) : Out := .next ((f s).queued s.pending)

/-! ### Status codes (Table SC-7) -/
namespace St
def ok : Nat := 0x00
def reserved : Nat := 0x01
def range : Nat := 0x02
def mode : Nat := 0x03
def busy : Nat := 0x04
def align : Nat := 0x05
def noaddr : Nat := 0x06
def readonly : Nat := 0x07
def locked : Nat := 0x08
def retired : Nat := 0x09
def full : Nat := 0x0A
def crc : Nat := 0x0B
def role : Nat := 0x0C
def seq : Nat := 0x0D
def pack : Nat := 0x0E
def timeout : Nat := 0x0F
def unknown : Nat := 0x10
def rate : Nat := 0x11
def auth : Nat := 0x12
end St

/-- The first failing check of a list of (condition, status), 0 where none fails. -/
def firstFail : List (Bool × Nat) → Nat
  | [] => 0
  | (c, e) :: t => if c then e else firstFail t

/-! ### Registers -/

/-- The stored value of the register at address a. -/
def State.reg (s : State) (a : Nat) : Nat := (Sp.get regReset s.regs a).toNat

/-- The register at address a set to v. -/
def State.setReg (s : State) (a v : Nat) : State :=
  { s with regs := Sp.put regReset s.regs a (BitVec.ofNat 32 v) }

/-- Field [hi:lo] of a register. -/
def State.fld (s : State) (a hi lo : Nat) : Nat := bits (s.reg a) hi lo

/-- Bit i of a register. -/
def State.flag (s : State) (a i : Nat) : Bool := bit (s.reg a) i

/-- Field [hi:lo] of a register set to v. -/
def State.setFld (s : State) (a hi lo v : Nat) : State := s.setReg a (putBits (s.reg a) hi lo v)

/-- Bit i of a register set to b. -/
def State.setFlag (s : State) (a i : Nat) (b : Bool) : State := s.setReg a (putBit (s.reg a) i b)

/-- A statistics counter plus n: COUNT sticks at all ones, and the event that would pass them sets SAT (Table TL-12).
DESIGN CHOICE (log 117, not safe). -/
def State.countBy (s : State) (a n : Nat) : State :=
  let r := s.reg a
  let c := r % 2 ^ 31 + n
  if c < 2 ^ 31 then s.setReg a (r / 2 ^ 31 * 2 ^ 31 + c) else s.setReg a 0xFFFFFFFF

/-- A statistics counter plus 1. -/
def State.count (s : State) (a : Nat) : State := s.countBy a 1

/-- Applies f when c holds. DESIGN CHOICE (log 3, safe). -/
def State.when (s : State) (c : Bool) (f : State → State) : State := if c then f s else s

/-! ### Interrupt causes (Table HI-5) -/
namespace Cause
def boot : Nat := 0
def mode : Nat := 1
def rpl : Nat := 2
def cq : Nat := 3
def spe : Nat := 4
def trail : Nat := 5
def fault : Nat := 6
def pack : Nat := 7
def aport : Nat := 8
def ana : Nat := 9
def dmx : Nat := 10
end Cause

/-- Cause i of HOST_IRQ is set (R463). DESIGN CHOICE (log 95, safe). -/
def State.raise (s : State) (i : Nat) : State := s.setFlag Adr.HOST_IRQ i true

/-! ### Free values -/

/-- A fresh free value (Config.freeNat): the model's counter advances. DESIGN CHOICE (log 98, safe). -/
def State.draw (s : State) : Nat × State := (Config.freeNat s.fresh, { s with fresh := s.fresh + 1 })

/-- A status code of Table SC-7 that the spec leaves open in a record. DESIGN CHOICE (log 63, safe). -/
def State.drawStatus (s : State) : Nat × State := let (v, s') := s.draw; (v % 0x13, s')

/-! ### Modes, rates and time -/

/-- PWR_STAT.MODE (Table PW-1). -/
def State.mode (s : State) : Nat := s.fld Adr.PWR_STAT 2 0

/-- The Voice Array and the SPE run: RUN, until a transition that leaves it has stopped them (R400). -/
def State.inRun (s : State) : Bool :=
  s.mode = 5 && !s.power.held && (match s.power.trans with | some t => t.fall ≠ 0 || t.old ≠ 5 | none => true)
/-- Samples are presented: the engines have run for two boundaries (R20, R143, Table PW-2). -/
def State.presents (s : State) : Bool := s.inRun && 2 ≤ s.power.runAge
/-- SERVICE or RUN: cores and Dispatcher work (R177, R223). -/
def State.coresOn (s : State) : Bool := (s.mode = 4 || s.mode = 5) && !s.power.held
/-- RELAY, SERVICE or RUN: the phase counter and the Trail work (R18). -/
def State.inserted (s : State) : Bool := (s.mode = 3 || s.mode = 4 || s.mode = 5) && !s.power.held
/-- Boot is in progress (HOST_STAT.BOOTING). -/
def State.booting (s : State) : Bool := s.flag Adr.HOST_STAT 0

/-- The double rates (CLK_RATE.DBL). -/
def State.dbl (s : State) : Bool := s.flag Adr.CLK_RATE 1
/-- The 44.1 kHz family (CLK_RATE.FAMILY). -/
def State.fam44 (s : State) : Bool := s.flag Adr.CLK_RATE 0
/-- Base-clock ticks per sample (R11). -/
def State.spt (s : State) : Nat := if s.dbl then 256 else 512
/-- Rate code: 0 44.1, 1 48, 2 88.2, 3 96 kHz. -/
def State.rateHz (s : State) : Nat :=
  match s.fam44, s.dbl with
  | true, false => 44100
  | false, false => 48000
  | true, true => 88200
  | false, true => 96000
/-- The rate code that the tables of Machine/Elem.lean take: 0 44.1, 1 48, 2 88.2, 3 96 kHz. -/
def State.rateCode (s : State) : Nat := (if s.dbl then 2 else 0) + (if s.fam44 then 0 else 1)
/-- Base-clock frequency in Hz (R14). -/
def State.baseHz (s : State) : Nat := if s.fam44 then 22579200 else 24576000
/-- Base-clock ticks of n microseconds, rounded up. -/
def State.usTicks (s : State) (n : Nat) : Nat := (n * s.baseHz + 999999) / 1000000
/-- Base-clock ticks of n milliseconds, rounded up. -/
def State.msTicks (s : State) (n : Nat) : Nat := (n * s.baseHz + 999) / 1000
/-- Whether clock time t, n ms long, has passed. -/
def State.elapsed (s : State) (t n : Nat) : Bool := t + n ≤ s.clk

/-- The node is admitted (TRAIL_NODE.ADMITTED). -/
def State.admitted (s : State) : Bool := s.flag Adr.TRAIL_NODE 11
/-- The node's number (TRAIL_NODE.NODE). DEDUCED (log 85, not safe). -/
def State.nodeNo (s : State) : Nat := s.fld Adr.TRAIL_NODE 10 0
/-- TRAIL_STAT.STATE: 0 UNLOCKED, 1 LOCKING, 2 LOCKED, 3 HOLDOVER. -/
def State.lock (s : State) : Nat := s.fld Adr.TRAIL_STAT 1 0

/-! ### Plain Basin bytes -/

/-- Size of the Basin in bytes (R233). -/
def basinSize : Nat := 0xC00000

/-- The byte of the Basin at address a, without error detection. DEDUCED (log 43, not safe). -/
def State.memByte (s : State) (a : Nat) : Byte := Sp.get (fun _ => (0 : Byte)) s.basin.bytes a

/-- n bytes of the Basin from address a, without error detection. -/
def State.memBytes (s : State) (a n : Nat) : List Byte := (List.range n).map (fun i => s.memByte (a + i))

/-- Bytes stored from address a on. -/
def putBytes (l : List Host.Cell) : Nat → List Byte → List Host.Cell
  | _, [] => l
  | a, b :: bs => putBytes (Sp.put (fun _ => (0 : Byte)) l a b) (a + 1) bs

/-- Words that n bytes from address a cover in full. -/
def fullWords (a n : Nat) : List Nat :=
  (List.range ((n + 3) / 4 + 1)).filterMap (fun i =>
    let w := a / 4 + i
    if a ≤ 4 * w ∧ 4 * w + 4 ≤ a + n then some w else none)

/-- Words that n bytes from address a touch. -/
def touchedWords (a n : Nat) : List Nat :=
  if n = 0 then [] else (List.range ((a + n - 1) / 4 - a / 4 + 1)).map (· + a / 4)

/-- Whether n bytes at a touch the wave region or the patch region (R132). -/
def State.touchesContent (s : State) (a n : Nat) : Bool :=
  let wb := s.fld Adr.VOICE_WAVEBASE 23 12 * 4096
  let ws := s.fld Adr.VOICE_WAVESIZE 23 12 * 4096
  let pb := s.fld Adr.VOICE_PATCHBASE 23 16 * 65536
  n ≠ 0 && ((a < wb + ws && wb < a + n) || (a < pb + 0x100000 && pb < a + n))

/-- Content was changed: VOICE_HASHCTL.STALE, kept through a recalculation that runs (R132). DEDUCED (log 23, not safe). -/
def State.setStale (s : State) : State :=
  let s := s.setFlag Adr.VOICE_HASHCTL 2 true
  if s.flag Adr.VOICE_HASHCTL 1 then { s with voice := { s.voice with dirtied := true } } else s

/-- Stores bytes in the Basin: a word written in full has valid check bits again (R247), a pending write-back of a
written word is dropped (R245), and a write to content makes the hash stale (R132). Bytes outside the Basin are not stored. -/
def State.memPut (s : State) (a : Nat) (l : List Byte) : State :=
  if a + l.length ≤ basinSize then
    let fw := fullWords a l.length
    let tw := touchedWords a l.length
    let s := if s.touchesContent a l.length then s.setStale else s
    { s with basin := { s.basin with
        bytes := putBytes s.basin.bytes a l
        ecc := s.basin.ecc.filter (fun p => !fw.contains p.1)
        writeback := s.basin.writeback.filter (fun w => !tw.contains w) } }
  else s

/-- Whether n bytes at a lie in the Basin. -/
def inBasin (a n : Nat) : Bool := a + n ≤ basinSize

/-! ### Basin masters (Table BM-1): a lower code has the higher rank -/
namespace Master
def spe : Nat := 0
def voice : Nat := 1
def trail : Nat := 2
def aport : Nat := 3
def disp : Nat := 4
def core (k : Nat) : Nat := 5 + k
def host : Nat := 13
def sweep : Nat := 14
end Master

/-! ### Same-word writes (R241, R242) -/

/-- The parts of bytes l at a that lie in one word each, in ascending order (R239). -/
def memParts (a : Nat) (l : List Byte) : List (Nat × List Byte) :=
  (touchedWords a l.length).map (fun w =>
    let lo := Nat.max a (4 * w)
    (lo, (l.drop (lo - a)).take (4 * w + 4 - lo)))

/-- The lanes of its word that bytes at a write. -/
def lanesOf (a : Nat) (l : List Byte) : List (Option Byte) :=
  (List.range 4).map (fun i => if a % 4 ≤ i then l[i - a % 4]? else none)

/-- Two writes differ in a byte that they share. -/
def lanesClash (x y : List (Option Byte)) : Bool :=
  (List.range 4).any (fun i => match x.getD i none, y.getD i none with
    | some b, some c => b != c
    | _, _ => false)

/-- A word with the lanes of a write stored. -/
def lanesMerge (b : List Byte) (x : List (Option Byte)) : List Byte :=
  (List.range 4).map (fun i => (x.getD i none).getD (b.getD i 0))

/-- The writes of a group, highest rank first: a write that differs from a stored one in a byte that they share is dropped whole. -/
def resolveGroup (stored : List LaneWrite) : List LaneWrite → List LaneWrite
  | [] => []
  | x :: xs =>
    let lost := stored.any (fun y => lanesClash x.lanes y.lanes)
    { x with lost := lost } :: resolveGroup (if lost then stored else x :: stored) xs

/-- A write put into its place by rank. -/
def rankIn (x : LaneWrite) (l : List LaneWrite) : List LaneWrite :=
  l.filter (fun y => y.master < x.master) ++ x :: l.filter (fun y => x.master < y.master)

/-- A write of a master can be one of group g: the writes of cores and the host, which are told at once, stand in the group by rank.
DESIGN CHOICE (log 14, safe). -/
def WordGroup.open (g : WordGroup) (clk w master : Nat) : Bool :=
  g.word = w && g.clk = clk && g.writes.all (fun x => x.master < master || (master < x.master && x.master < Master.core 0))

/-- The master of a dropped write is told by BASIN_COLFLAG, and an audio port by its COL (Table BM-1). -/
def State.tellLost (s : State) (x : LaneWrite) : State :=
  let s := s.setFlag Adr.BASIN_COLFLAG x.master true
  if x.master = Master.aport then s.setFlag (Adr.APORT_STAT x.port) 6 true else s

/-- The last write group of word w. -/
def State.setGroup (s : State) (g : WordGroup) : State :=
  { s with basin := { s.basin with groups := g :: s.basin.groups.filter (fun h => h.clk = s.clk && h.word ≠ g.word) } }

/-- Bytes l, which lie in one word, written at a by a master: whether the write was dropped, and the state (R241). DESIGN CHOICE (log 14, safe). -/
def State.putPart (s : State) (master port a : Nat) (l : List Byte) : Bool × State :=
  let w := a / 4
  let me : LaneWrite := ⟨master, port, lanesOf a l, false⟩
  match s.basin.groups.find? (fun g => g.open s.clk w master && Config.sameCycle s.clk w master) with
  | none => (false, (s.setGroup ⟨w, s.clk, s.memBytes (4 * w) 4, [me]⟩).memPut a l)
  | some g =>
    let ws := resolveGroup [] (rankIn me g.writes)
    let s := (s.setGroup { g with writes := ws }).memPut (4 * w)
      (ws.foldl (fun b x => if x.lost then b else lanesMerge b x.lanes) g.base)
    let new := ws.filter (fun x => x.lost && !g.writes.contains x)
    (new.any (fun x => x.master = master), new.foldl (fun s x => s.tellLost x) s)

/-- Bytes written at a by a master whose words are written in full, each word on its own: whether one was dropped. -/
def State.basinPut (s : State) (master port a : Nat) (l : List Byte) : Bool × State :=
  (memParts a l).foldl (fun (p : Bool × State) q =>
    let r := p.2.putPart master port q.1 q.2
    (p.1 || r.1, r.2)) (false, s)

/-! ### Source rings (R224 to R227) -/

/-- What a source says of an event offered to it. -/
inductive Posted where
  | written
  | full
  | disabled
  deriving DecidableEq, Repr

/-- The ring of source q. -/
def State.ring (s : State) (q : Nat) : SrcRing := s.disp.rings.getD q SrcRing.empty

/-- The ring of source q set to r. -/
def State.setRing (s : State) (q : Nat) (r : SrcRing) : State :=
  { s with disp := { s.disp with rings := s.disp.rings.set q r } }

/-- Basin address of entry k of source q. -/
def State.ringAddr (s : State) (q k : Nat) : Nat := s.fld (Adr.DSP_SRCBASE q) 23 5 * 32 + 32 * k

/-- Writes entry k of source q (Table DP-5). -/
def State.writeEntry (s : State) (q k : Nat) (record : List Byte) : State :=
  let r := s.ring q
  let bytes := record ++ natLE 8 s.time ++ natLE 2 (Nat.min r.lost 65535) ++ natLE 1 q ++ [0] ++ natLE 4 r.seq
  (s.basinPut Master.disp 0 (s.ringAddr q k) bytes).2.setRing q
    { r with waiting := r.waiting ++ [k], occupied := r.occupied ++ [k], lost := 0, seq := r.seq + 1 }

/-- An event of source q is discarded: LOST is carried forward and DSP_SRCLOSTq counts (Table DP-4). A command of
source 1 is answered instead, so it only counts. -/
def State.loseEvent (s : State) (q : Nat) : State :=
  let r := s.ring q
  (s.setRing q { r with lost := if q = 1 then r.lost else r.lost + 1 }).count (Adr.DSP_SRCLOST q)

/-- Offers a 16-byte record to source q, not the timers (R225, R227). -/
def State.offer (s : State) (q : Nat) (record : List Byte) : Posted × State :=
  if !s.flag (Adr.DSP_SRCCFG q) 15 then (.disabled, s.loseEvent q)
  else
    let len := 2 ^ s.fld (Adr.DSP_SRCCFG q) 19 16
    let k := (s.ring q).wr % len
    if (s.ring q).occupied.contains k then (.full, s.loseEvent q)
    else
      let s := s.writeEntry q k record
      (.written, s.setRing q { s.ring q with wr := k + 1 })

/-- Offers a record to source q and drops the answer. -/
def State.post (s : State) (q : Nat) (record : List Byte) : State := (s.offer q record).2

/-- A 16-byte record: four single bytes, VALUE, then the trail time (R447, R418, R342). -/
def record16 (code b1 b2 b3 value time : Nat) : List Byte :=
  natLE 1 code ++ natLE 1 b1 ++ natLE 1 b2 ++ natLE 1 b3 ++ natLE 4 value ++ natLE 8 time

/-! ### Fault log queue and FAULT source (R437, R438, R447) -/

/-- Queues a fault-log record (Table PK-7) without its LSEQ, or counts it in PACK_LOGLOST when 16 wait (R438). -/
def State.logFault (s : State) (type engine status arg0 arg1 arg2 : Nat) : State :=
  let tv := s.lock = 2
  let r := natLE 1 type ++ natLE 1 engine ++ natLE 1 status ++ natLE 1 (b2n tv) ++ natLE 4 0
    ++ natLE 8 (if tv then s.time else 0) ++ natLE 4 arg0 ++ natLE 4 arg1 ++ natLE 4 arg2
    ++ natLE 2 (s.nodeNo + (if s.admitted then 0x8000 else 0)) ++ [0]
  if s.pack.logq.length < 16 then { s with pack := { s.pack with logq := s.pack.logq ++ [r] } }
  else s.count Adr.PACK_LOGLOST

/-- Forms a record on the FAULT source: the cause is set whether or not the source is enabled (Table HI-5). DESIGN CHOICE (log 63, safe). -/
def State.postFault (s : State) (code engine status cause arg : Nat) : State :=
  (s.raise Cause.fault).post 9 (record16 code engine status cause arg s.time)

/-- Unit u meets an error (R440); State.settle of Machine/Fault.lean charges it. -/
def State.noteErr (s : State) (u : Nat) : State := { s with flt := { s.flt with errs := s.flt.errs ++ [u] } }

/-- Unit u is retired (FAULT_RETIRED0 and 1). -/
def State.retired (s : State) (u : Nat) : Bool :=
  if u < 32 then s.flag Adr.FAULT_RETIRED0 u else s.flag Adr.FAULT_RETIRED1 (u - 32)

end Sys2Proof.Machine
end

