-- ==== Sys2Proof/Machine/Basin.lean ====
section
/-!
DEFINITION. The Basin (chapter 08): banks and rows, reads and partial writes under error detection, row repair, write-back, the
sweep, conflict counters, the power-up clear. Writes that meet in one cycle (R241) are in Machine/Ops.lean.
-/
namespace Sys2Proof.Machine

/-- Bank of word w (R234). -/
def bankOf (w : Nat) : Nat :=
  bits w 4 0 ^^^ bits w 9 5 ^^^ bits w 14 10 ^^^ bits w 19 15 ^^^ bits w 21 20

/-- Bank-local index of word w (R234). -/
def indexOf (w : Nat) : Nat := w >>> 5

/-- Physical row of word w (R234). -/
def rowOf (w : Nat) : Nat := w >>> 11

/-- Records the last error in BASIN_ERRADR (R244). -/
def State.basinErr (s : State) (type w master : Nat) : State :=
  s.setReg Adr.BASIN_ERRADR (type + (w % 2 ^ 22) * 4 + master * 2 ^ 24)

/-- ARG of a Basin record on the FAULT source (R447). -/
def basinArg (w : Nat) : Nat := bankOf w * 2 ^ 27 + 4 * w

/-- Spare rows in use in bank b (BASIN_SPAREi). -/
def State.sparesUsed (s : State) (b : Nat) : Nat := s.fld (Adr.BASIN_SPARE (b / 8)) (4 * (b % 8) + 3) (4 * (b % 8))

/-- The row of word w is remapped to a spare row, or its bank's BASIN_REPFAIL bit is set (R246 to R248). -/
def State.remapRow (s : State) (w : Nat) : State :=
  let b := bankOf w
  let p := rowOf w
  let used := s.sparesUsed b
  let (st, s) := s.drawStatus
  if used < 8 then
    let s := s.setFld (Adr.BASIN_SPARE (b / 8)) (4 * (b % 8) + 3) (4 * (b % 8)) (used + 1)
    let s := s.setFlag Adr.BASIN_STAT 2 true
    let s := { s with basin := { s.basin with
      remaps := (b, p, used) :: s.basin.remaps.filter (fun r => !(r.1 = b && r.2.1 = p))
      copying := s.basin.copying ++ [(b, p)]
      recent := s.basin.recent.filter (fun r => !(r.1 = b && r.2.1 = p)) } }
    (s.logFault 0x08 5 st b p used).postFault 0x03 5 st 0 (basinArg w)
  else
    let s := s.setFlag Adr.BASIN_REPFAIL b true
    (s.logFault 0x09 5 st b p 0).postFault 0x04 5 st 0 (basinArg w)

/-- A corrected error is charged to its row: the second within BASIN_REPWIN remaps it (R246). -/
def State.chargeRow (s : State) (w : Nat) : State :=
  let b := bankOf w
  let p := rowOf w
  let win := s.msTicks (s.fld Adr.BASIN_REPWIN 15 0)
  let again := s.basin.recent.any (fun r => r.1 = b && r.2.1 = p && s.clk ≤ r.2.2 + win)
  if again then s.remapRow w
  else
    let rest := s.basin.recent.filter (fun r => !(r.1 = b && r.2.1 = p))
    { s with basin := { s.basin with recent := ((b, p, s.clk) :: rest).take 16 } }

/-- The error mark of word w: none, or whether it is uncorrectable. DESIGN CHOICE (log 94, not safe). -/
def State.eccOf (s : State) (w : Nat) : Option Bool := (s.basin.ecc.find? (fun p => p.1 = w)).map (·.2)

/-- A correction met by a master (R244, R245). DESIGN CHOICE (log 94, not safe). -/
def State.correctWord (s : State) (master w : Nat) : State :=
  let s := (s.count Adr.BASIN_CECNT).basinErr 1 w master
  let (st, s) := s.drawStatus
  let s := s.postFault 0x01 5 st 0 (basinArg w)
  let s := { s with basin := { s.basin with
    writeback := if s.basin.writeback.contains w then s.basin.writeback else s.basin.writeback ++ [w] } }
  s.chargeRow w

/-- An uncorrectable error met by a master (R244). -/
def State.badWord (s : State) (master w : Nat) : State :=
  let s := (s.count Adr.BASIN_UECNT).basinErr 2 w master
  let (st, s) := s.drawStatus
  (s.postFault 0x02 5 st 0 (basinArg w)).remapRow w

/-- Detection over a list of words: whether all of them can be read, and the state with every error counted. -/
def State.checkWords (s : State) (master : Nat) : List Nat → Bool × State
  | [] => (true, s)
  | w :: ws =>
    match s.eccOf w with
    | none => s.checkWords master ws
    | some false => (s.correctWord master w).checkWords master ws
    | some true => let r := (s.badWord master w).checkWords master ws; (false, r.2)

/-- A read of n bytes at a by a master (R239, R244): none where a word cannot be corrected. DESIGN CHOICE (log 93, not safe). -/
def State.basinRead (s : State) (master a n : Nat) : Option (List Byte) × State :=
  let r := s.checkWords master (touchedWords a n)
  (if r.1 then some (r.2.memBytes a n) else none, r.2)

/-- What a write met: a word in part written could not be corrected, or a word was dropped in a collision. -/
structure Written where
  bad : Bool
  lost : Bool
  deriving DecidableEq, Repr

/-- Bytes in one word, written by a master (R240): a partial write first reads the word, corrects it and merges; where it cannot be
corrected nothing is stored. The word has new check bits. -/
def State.writePart (s : State) (master port a : Nat) (l : List Byte) : Written × State :=
  let r := if l.length = 4 then (true, s) else s.checkWords master [a / 4]
  if r.1 then
    let q := r.2.putPart master port a l
    (⟨false, q.1⟩, { q.2 with basin := { q.2.basin with
      ecc := q.2.basin.ecc.filter (fun e => e.1 ≠ a / 4)
      writeback := q.2.basin.writeback.filter (· ≠ a / 4) } })
  else (⟨true, false⟩, r.2)

/-- A write by a master, one access for each word that it touches, each of which meets its own error or collision (R239).
DESIGN CHOICE (log 93, not safe). -/
def State.basinWrite (s : State) (master port a : Nat) (l : List Byte) : Written × State :=
  (memParts a l).foldl (fun (p : Written × State) q =>
    let r := p.2.writePart master port q.1 q.2
    (⟨p.1.bad || r.1.bad, p.1.lost || r.1.lost⟩, r.2)) (⟨false, false⟩, s)

/-- The corrected word is written back when its bank's write port is free (R245). -/
def State.writeBack (s : State) (w : Nat) : State :=
  if s.basin.writeback.contains w then
    { s with basin := { s.basin with
        writeback := s.basin.writeback.filter (· ≠ w)
        ecc := s.basin.ecc.filter (fun p => !(p.1 = w && !p.2)) } }
  else s

/-- The oldest remap copy ends (R247): single-bit errors of the row are copied corrected; a word that cannot be corrected
is 0 with an uncorrectable mark. -/
def State.endCopy (s : State) : State :=
  match s.basin.copying with
  | [] => s
  | (b, p) :: rest =>
    let inRow (w : Nat) : Bool := bankOf w = b && rowOf w = p
    let dead := (s.basin.ecc.filter (fun e => inRow e.1 && e.2)).map (·.1)
    let bytes := dead.foldl (fun l w => putBytes l (4 * w) [0, 0, 0, 0]) s.basin.bytes
    let s := { s with basin := { s.basin with
      bytes := bytes
      ecc := s.basin.ecc.filter (fun e => !(inRow e.1 && !e.2))
      writeback := s.basin.writeback.filter (fun w => !inRow w)
      copying := rest } }
    s.setFlag Adr.BASIN_STAT 2 (!rest.isEmpty)

/-! ### The sweep (R249 to R252) -/

/-- The region that the sweep tests, or the next one. -/
def State.sweepRegion (s : State) : Nat := s.fld Adr.BASIN_SWSTAT 15 0

/-- The words of region k. -/
def regionWords (k : Nat) : List Nat := (List.range 64).map (· + 64 * k)

/-- A region is borrowed. -/
def State.borrowed (s : State) : Bool := s.flag Adr.BASIN_STAT 1

/-- Both BORROW bits. -/
def State.setBorrow (s : State) (b : Bool) : State := (s.setFlag Adr.BASIN_STAT 1 b).setFlag Adr.BASIN_SWSTAT 16 b

/-- A region is to start: the sweep runs in RELAY, SERVICE and RUN while EN = 1, and its interval has passed. -/
def State.sweepDue (s : State) : Bool :=
  s.inserted && s.flag Adr.BASIN_SWCTL 0 && !s.borrowed && s.basin.sweepAt ≤ s.clk

/-- Save: the region is borrowed, its words copied into the shadow, errors met corrected there or counted, and the next start is PACE later. -/
def State.sweepSave (s : State) : State :=
  let ws := regionWords s.sweepRegion
  let s := (s.setBorrow true).checkWords Master.sweep ws
  let s := s.2
  { s with basin := { s.basin with
    ecc := s.basin.ecc.filter (fun e => !(ws.contains e.1 && !e.2))
    writeback := s.basin.writeback.filter (fun w => !ws.contains w)
    sweepAt := s.clk + s.usTicks (s.fld Adr.BASIN_SWCTL 31 16) } }

/-- The first word of each physical row among failing words. -/
def firstOfRows : List Nat → List Nat
  | [] => []
  | w :: ws => w :: (firstOfRows ws).filter (fun v => !(bankOf v = bankOf w && rowOf v = rowOf w))

/-- Test and restore: the rows of the words that fail the march test are remapped, each once, the words return from the shadow, and the
position advances. -/
def State.sweepRestore (s : State) (bad : List Nat) : State :=
  let k := s.sweepRegion
  let ws := (bad.map (· + 64 * k))
  let s := ws.foldl (fun s w => s.basinErr 3 w Master.sweep) s
  let s := (firstOfRows ws).foldl (fun s w => s.remapRow w) s
  let s := s.setBorrow false
  let s := s.setFld Adr.BASIN_SWSTAT 15 0 (if k + 1 = 49152 then 0 else k + 1)
  if k + 1 = 49152 then s.count Adr.BASIN_SWPASS else s

/-- A region that is due starts. -/
def State.sweepStart (s : State) : State := if s.sweepDue then s.sweepSave else s

/-- SWEEP_REGION (R249, R250): the region that is borrowed, or due, is tested and restored. bad: its words with a cell that fails the march
test. -/
def execSweepRegion (bad : List (Fin 64)) (s : State) : Out := s.run fun s =>
  let s := s.sweepStart
  if s.borrowed then s.sweepRestore (bad.map (·.val)) else s

/-- A region in the shadow is restored at once, and every remap copy ends (R252): what REST and a warm reset wait for. -/
def State.returnRegion (s : State) : State := if s.borrowed then s.sweepRestore [] else s

/-! ### Conflict counters (R243) -/

/-- Whether master m makes requests now. DESIGN CHOICE (log 99, safe). -/
def State.masterOn (s : State) (m : Nat) : Bool :=
  if m < 2 then s.inRun else if m = Master.disp || (5 ≤ m && m < 13) then s.coresOn else s.inserted

/-- The cycles of a sample in which requests of master m waited while their banks granted others: a free number, at most one for each bank and
FCLK cycle. DESIGN CHOICE (log 99, safe). -/
def State.conflicts (s : State) : State :=
  (List.range 15).foldl (fun s m =>
    if s.masterOn m then
      let d := s.draw
      d.2.countBy (Adr.BASIN_CONF m) (d.1 % (32 * 16 * s.spt))
    else s) s

/-- ECC_WRITEBACK (R245). -/
def execEccWriteback (w : Nat) (s : State) : Out := s.run fun s => (s.writeBack w)

/-- REMAP_COMPLETE (R247). -/
def execRemapComplete (s : State) : Out := s.run fun s => s.endCopy

/-! ### Timer events on their source (R226) -/

/-- Offers an event of timer channel k to source 6 (R226); also whether the channel's overrun flag is to be set. An entry whose LOST cannot
be read keeps it. DEDUCED (log 65, not safe). -/
def State.offerTmr (s : State) (k : Nat) (record : List Byte) : Bool × State :=
  if !s.flag (Adr.DSP_SRCCFG 6) 15 then (false, s.loseEvent 6)
  else if (s.ring 6).occupied.contains k then
    let a := s.ringAddr 6 k + 0x18
    let rd := s.basinRead Master.disp a 2
    let s := match rd.1 with
      | some b => (rd.2.basinWrite Master.disp 0 a (natLE 2 (Nat.min (leNat b + 1) 65535))).2
      | none => rd.2
    (true, s.count (Adr.DSP_SRCLOST 6))
  else (false, s.writeEntry 6 k record)

/-- Every word of the Basin written to 0 with valid check bits (R254). -/
def State.clearBasin (s : State) : State :=
  { s with basin := { s.basin with bytes := [], ecc := [], writeback := [] } }

/-- BASIN_CLEAR_END (R254): the power-up clear ends and CLEARING clears. -/
def execBasinClearEnd (s : State) : Out := s.run fun s =>
  if s.flag Adr.BASIN_STAT 0 then
    let s := s.clearBasin.setFlag Adr.BASIN_STAT 0 false
    { s with power := { s.power with startup := Nat.max s.power.startup 3, needClear := false } }
  else s

end Sys2Proof.Machine
end

