-- ==== Sys2Proof/Machine/Elem.lean ====
section
/-!
DEFINITION. The elementary functions that the voice chapters and the SPE name (powers, sine, tangent, square root, the Kaiser kernel), as
fixed-point series of 96 fraction bits, and the tables of the spec formed from them: increments (R43, R58, R102), time codes (R93),
one-pole factors (R85), filter coefficients (R89, R92), kernel taps (R59). Where the spec gives a table a tolerance, or no
format, a bounded free deviation of Config is applied.
-/
namespace Sys2Proof.Machine

/-! ### Series -/

/-- One in fixed point. -/
def fxOne : Int := 2 ^ 96

/-- A rational in fixed point, rounded down. -/
def fxOf (x : Rat) : Int := (x * fxOne).floor

/-- A fixed-point number as a rational. -/
def fxRat (x : Int) : Rat := mkRat x (2 ^ 96)

/-- The product of two fixed-point numbers. -/
def fxMul (a b : Int) : Int := sarI (a * b) 96

/-- Sum of the exponential series from term k on: t is term k. -/
def expSum : Nat → Int → Int → Nat → Int
  | 0, _, _, _ => 0
  | n + 1, x, t, k => t + expSum n x (fxMul t x / ((k + 1 : Nat) : Int)) (k + 1)

/-- e^x for a fixed-point x of small size. -/
def fxExp (x : Int) : Int := expSum 96 x fxOne 0

/-- ln 2 in fixed point: the sum of 1/(k 2^k). -/
def fxLn2 : Int := (List.range 104).foldl (fun s k => s + 2 ^ 96 / (((k + 1) * 2 ^ (k + 1) : Nat) : Int)) 0

/-- ln of 1 + 1/n in fixed point, by the series of the inverse hyperbolic tangent at 1/(2n + 1). -/
def fxLnStep (n : Nat) : Int :=
  (List.range 64).foldl (fun s k => s + 2 * (2 ^ 96 / (((2 * k + 1) * (2 * n + 1) ^ (2 * k + 1) : Nat) : Int))) 0

/-- ln 10 = 3 ln 2 + ln (1 + 1/4). -/
def fxLn10 : Int := 3 * fxLn2 + fxLnStep 4

/-- ln 200 = 2 ln 10 + ln 2. -/
def fxLn200 : Int := 2 * fxLn10 + fxLn2

/-- log2 of a positive whole number, exact at powers of 2: the series of the inverse hyperbolic tangent. -/
def log2Q (m : Nat) : Rat :=
  let k := m.log2
  let z := fxOf (mkRat ((m : Int) - 2 ^ k) (m + 2 ^ k))
  let z2 := fxMul z z
  let r := (List.range 70).foldl (fun (p : Int × Int) j => (p.1 + p.2 / ((2 * j + 1 : Nat) : Int), fxMul p.2 z2)) (0, 2 * z)
  (k : Rat) + mkRat r.1 fxLn2.toNat

/-- 2^x; exact where x is whole. -/
def pow2 (x : Rat) : Rat :=
  let k := x.floor
  let f := x - k
  let m : Rat := if f = 0 then 1 else fxRat (fxExp (fxMul (fxOf f) fxLn2))
  if 0 ≤ k then m * ((2 ^ k.toNat : Nat) : Rat) else m / ((2 ^ (-k).toNat : Nat) : Rat)

/-- Sum of a series t - t x^2/((k+1)(k+2)) + …, for sine and cosine. -/
def trigSum : Nat → Int → Int → Nat → Int
  | 0, _, _, _ => 0
  | n + 1, x2, t, k => t + trigSum n x2 (-(fxMul t x2) / (((k + 1) * (k + 2) : Nat) : Int)) (k + 2)

/-- atan(1/n) in fixed point. -/
def fxAtanInv (n : Nat) : Int :=
  (List.range 80).foldl (fun s k =>
    let t : Int := 2 ^ 96 / (((2 * k + 1) * n ^ (2 * k + 1) : Nat) : Int)
    if k % 2 = 0 then s + t else s - t) 0

/-- π in fixed point (Machin). -/
def fxPi : Int := 4 * (4 * fxAtanInv 5 - fxAtanInv 239)

/-- A turn count reduced to -1/2..1/2, as an angle in fixed point. -/
def fxAngle (t : Rat) : Int := fxMul (fxOf (t - (t + 1/2).floor)) (2 * fxPi)

/-- sin of t turns. -/
def sinT (t : Rat) : Rat := let x := fxAngle t; fxRat (trigSum 40 (fxMul x x) x 1)

/-- cos of t turns. -/
def cosT (t : Rat) : Rat := let x := fxAngle t; fxRat (trigSum 40 (fxMul x x) fxOne 0)

/-- Bisection for the root of n on the bits below 2^k. -/
def rootBits : Nat → Nat → Nat → Nat
  | 0, _, r => r
  | k + 1, n, r => let r' := r + 2 ^ k; rootBits k n (if r' * r' ≤ n then r' else r)

/-- The whole square root. -/
def isqrt (n : Nat) : Nat := rootBits (n.log2 / 2 + 1) n 0

/-- The square root of a rational, rounded down to 64 fraction bits or more. -/
def sqrtQ (x : Rat) : Rat := mkRat (isqrt ((x * ((2 ^ 160 : Nat) : Rat)).floor.toNat) : Int) (2 ^ 80)

/-! ### Bounded deviations -/

/-- x limited to lo..hi, on rationals. -/
def clampQ (lo hi x : Rat) : Rat := if x < lo then lo else if hi < x then hi else x

/-- x with a relative deviation of at most 2^-20 (R136). -/
def relErr (x e : Rat) : Rat := x * (1 + clampQ (-1 / 1048576) (1 / 1048576) e)

/-- A deviation of at most 1 (R43, R151). -/
def oneErr (e : Int) : Int := clampI (-1) 1 e

/-- Round half up of a rational. -/
def rhuQ (x : Rat) : Int := (x + 1/2).floor

/-! ### Tables of the voice chapters -/

/-- Sample rate of a rate code (State.rateCode): 0 44.1, 1 48, 2 88.2, 3 96 kHz. -/
def rateOf (rc : Nat) : Nat :=
  if rc = 0 then 44100 else if rc = 1 then 48000 else if rc = 2 then 88200 else 96000

/-- The frequency of pitch p in Hz (R40): 440 Hz is pitch 17,664. -/
def pitchHz (p : Int) : Rat := 440 * pow2 (mkRat (p - 17664) 3072)

/-- inc of R43: the deviation of at most 1 is taken from the rounded value. DESIGN CHOICE (log 71, safe). DESIGN CHOICE (log 112, safe). -/
def incPitch (rc : Nat) (p : Int) : Nat :=
  let x := rneQ (((2 ^ 32 : Nat) : Rat) * pitchHz p / ((rateOf rc : Nat) : Rat))
  (clampI 0 (2 ^ 31 - 1) (x + oneErr (Config.expTableErr p rc))).toNat

/-- inc of R58, with a deviation of its own of at most 1. DESIGN CHOICE (log 113, not safe). -/
def incSample (rc : Nat) (p : Int) (root srate : Nat) : Nat :=
  let x := rneQ (((2 ^ 32 : Nat) : Rat) * (mkRat srate (rateOf rc)) * pow2 (mkRat (p - root) 3072))
  (clampI 0 (2 ^ 36 - 1) (x + oneErr (Config.expTableErr (p - root) (4 * srate + rc)))).toNat

/-- inc of an LFO at rate R (R102). -/
def incLfo (rc : Nat) (r : Int) : Nat :=
  (rneQ (((2 ^ 32 : Nat) : Rat) * pow2 (mkRat (r - 40960) 4096) / ((rateOf rc : Nat) : Rat))).toNat

/-- N(c) of R93. -/
def timeCode (rc c : Nat) : Nat :=
  if c = 0 then 0
  else Nat.max 1 (rhuQ ((pow2 (mkRat c 1024) - 1) * ((rateOf rc : Nat) : Rat) / 1000)).toNat

/-- Samples of T ms, rounded half up, without the floor of 32 (R84). -/
def msSamples (rc t : Nat) : Nat := (2 * t * rateOf rc + 1000) / 2000

/-- a = round(2^32 (1 - e^(-4.6/N))) of R85. -/
def onePoleFactor (n : Nat) : Nat :=
  (rneQ (((2 ^ 32 : Nat) : Rat) * (1 - fxRat (fxExp (fxOf (mkRat (-46) (10 * n))))))).toNat

/-- tan(π f/fs) with f = min(pitch frequency, 0.45 fs), for g and gt (R89, R92). -/
def tanPitch (rc c : Nat) : Rat :=
  let f := pitchHz c / ((rateOf rc : Nat) : Rat)
  let f := if f < 9/20 then f else 9/20
  clampQ (1 / 1048576) (3157/500) (relErr (sinT (f / 2) / cosT (f / 2)) (Config.tanErr c rc))

/-- k = 2 × 200^(-r), r in units of 1/65,536 (R89). -/
def resoK (r : Nat) : Rat :=
  clampQ (1/100) 2 (relErr (2 * fxRat (fxExp (-(fxMul (fxOf (mkRat r 65536)) fxLn200)))) (Config.resoErr r))

/-- √2 of stage 2 (R90). -/
def rootTwo : Rat := relErr (sqrtQ 2) Config.sqrtTwoErr

/-- 10^(G/40) of R92 for a tilt t; exactly 1 at 0. -/
def tiltGain (t : Int) : Rat :=
  if t = 0 then 1
  else relErr (fxRat (fxExp (fxMul (fxOf (mkRat (3 * t) 327680)) fxLn10))) (Config.tiltErr t)

/-- Point i of the 4,096-point sine table (R102). -/
def sinePoint (i : Nat) : Rat := relErr (sinT (mkRat (i % 4096) 4096)) (Config.sineErr (i % 4096))

/-- The modified Bessel function I0 as a function of z²/4, in fixed point. -/
def besselSum : Nat → Int → Int → Nat → Int
  | 0, _, _, _ => 0
  | n + 1, q, t, k => t + besselSum n q (fxMul t q / (((k + 1) * (k + 1) : Nat) : Int)) (k + 1)

/-- Kaiser window (β = 6.5) at x source samples from the centre, up to a constant factor. -/
def kaiser (x : Rat) : Rat :=
  let u := 1 - x * x / 16
  if u < 0 then 0 else fxRat (besselSum 60 (fxOf (169/16 * u)) fxOne 0)

/-- Windowed sinc, cut-off 0.45 of the source rate, up to a constant factor. -/
def sincTap (x : Rat) : Rat :=
  (if x = 0 then 9/10 else sinT (9/20 * x) / (fxRat fxPi * x)) * kaiser x

/-- The raw tap j of phase f: the sample i - 3 + j lies f/256 + 3 - j samples away. -/
def rawTap (f j : Nat) : Rat := sincTap (mkRat f 256 + 3 - (j : Rat))

/-- Tap j of phase f, normalised (R59): the eight taps of a phase sum to 1. DESIGN CHOICE (log 71, safe). -/
def kernelTap (f j : Nat) : Rat :=
  let sum := (List.range 8).foldl (fun s i => s + rawTap f i) 0
  rawTap f j / sum

end Sys2Proof.Machine
end

