-- ==== Sys2Proof/Machine/Spe.lean ====
section
/-!
DEFINITION. The Stream Program Engine (chapter 05): instruction words and load validation, one run of a program, delay lines, commits and
ramps, swaps, slot maps and core taps.
-/
namespace Sys2Proof.Machine

/-! ### Instruction words (R146, R147) -/

/-- Opcode of a step. -/
def speOp (w : Nat) : Nat := bits w 47 42

/-- The bits that Table SP-5 lists for an opcode, opcode included. -/
def speFields (op : Nat) : Nat :=
  let m (hi lo : Nat) : Nat := 2 ^ (hi + 1) - 2 ^ lo
  let low : Nat :=
    if op = 0x00 then 0
    else if 0x01 ≤ op && op ≤ 0x04 then m 41 40 + m 39 28 + m 27 20
    else if op = 0x05 || op = 0x06 then m 41 40 + m 39 32 + m 31 24
    else if 0x07 ≤ op && op ≤ 0x09 || op = 0x10 || op = 0x11 then m 41 40 + m 39 32
    else if op = 0x0A then m 41 40 + m 39 28
    else if op = 0x0B then m 41 40 + m 39 16
    else if op = 0x0C || op = 0x0D || op = 0x0E || op = 0x1E then m 41 40 + m 39 38
    else if op = 0x0F then m 41 40 + m 39 38 + m 37 32
    else if op = 0x12 then m 41 40 + m 39 32 + m 31 30 + m 29 29
    else if op = 0x13 then m 41 40 + m 37 32 + m 31 30 + m 29 29
    else if op = 0x14 || op = 0x18 || op = 0x19 then m 39 32 + m 31 24
    else if op = 0x15 then m 39 32 + m 29 24
    else if op = 0x16 then m 37 32 + m 31 24
    else if op = 0x17 then m 41 40 + m 39 32 + m 31 24 + m 23 16 + m 15 13
    else if op = 0x1A then m 41 36 + m 35 28 + m 19 0
    else if op = 0x1B then m 41 40 + m 39 34 + m 33 26 + m 25 24 + m 19 0
    else if op = 0x1C then m 41 40 + m 39 34 + m 33 22 + m 19 0
    else if op = 0x1D then m 41 36 + m 35 35 + m 34 33 + m 31 24 + m 23 22
    else 0
  m 47 42 + low

/-- Delay accesses of a step (R162). -/
def speAccesses (w : Nat) : Nat :=
  let op := speOp w
  if op = 0x1A || op = 0x1C || op = 0x1D then 1 else if op = 0x1B then 2 else 0

/-- The rule of Table SP-10 that a step breaks first, 0 if none: lines are those written by earlier DWR steps, acc the delay accesses
before it, lim the limit of R162. -/
def speStepRule (w : Nat) (lines : List Nat) (acc lim : Nat) : Nat :=
  let op := speOp w
  if 0x1F ≤ op then 1
  else if w &&& speFields op ≠ w || (op = 0x1D && !bit w 35 && bits w 34 33 ≠ 0) then 2
  else if op = 0x17 && 6 ≤ bits w 15 13 then 3
  else if op = 0x04 && bits w 27 20 = 255 then 4
  else if op = 0x1D && lines.contains (bits w 41 36) then 5
  else if lim < acc + speAccesses w then 6
  else 0

/-- Validation of steps k on (R169): the step and the rule of the first failure. -/
def speValidate (lim : Nat) : List Nat → Nat → List Nat → Nat → Option (Nat × Nat)
  | [], _, _, _ => none
  | w :: ws, k, lines, acc =>
    let r := speStepRule w lines acc lim
    if r ≠ 0 then some (k, r)
    else speValidate lim ws (k + 1) (if speOp w = 0x1D then bits w 41 36 :: lines else lines) (acc + speAccesses w)

/-- The status code of a rule of Table SP-10. -/
def speRuleCode (r : Nat) : Nat := if r ≤ 3 then St.reserved else St.range

/-- Longest program (R139). -/
def State.speMaxLen (s : State) : Nat := if s.dbl then 4096 else 8192

/-- Delay accesses allowed in a run (R162). -/
def State.speLimit (s : State) : Nat := if s.dbl then 512 else 1024

/-- Step k of the staging program. -/
def State.stageStep (s : State) (k : Nat) : Nat := (Sp.get (fun _ => (0 : BitVec 48)) s.spe.stage k).toNat

/-- Step k of the running program. -/
def State.progStep (s : State) (k : Nat) : Nat := (Sp.get (fun _ => (0 : BitVec 48)) s.spe.prog k).toNat

/-! ### Stores -/

/-- The value of an S24 store. -/
def getS24 (l : List (Nat × S24)) (i : Nat) : Int := (Sp.get (fun _ => (0 : S24)) l i).toInt

/-- An S24 store with a value. -/
def putS24 (l : List (Nat × S24)) (i : Nat) (x : Int) : List (Nat × S24) :=
  Sp.put (fun _ => (0 : S24)) l i (BitVec.ofInt 24 x)

/-- The 32-bit container of an S24 value (R35). -/
def s24Word (x : Int) : Nat := ux 32 x

/-- Whether the bits [31:24] of a word extend the sign of bit 23 (R142). -/
def s24Extended (x : Nat) : Bool := ux 32 (sx 24 x) = x % 2 ^ 32

/-- State with the SPE replaced. -/
def State.setSpe (s : State) (f : Spe → Spe) : State := { s with spe := f s.spe }

/-! ### Delay lines (R153 to R161) -/

/-- Base of the delay region. -/
def State.dregBase (s : State) : Nat := s.fld Adr.SPE_DREGBASE 23 12 * 4096
/-- Size of the delay region. -/
def State.dregSize (s : State) : Nat := s.fld Adr.SPE_DREGSIZE 22 12 * 4096

/-- Line j. -/
def State.dline (s : State) (j : Nat) : DLine := Sp.get (fun _ => DLine.never) s.spe.lines j

/-- Line j replaced. -/
def State.setDline (s : State) (j : Nat) (d : DLine) : State :=
  s.setSpe (fun e => { e with lines := Sp.put (fun _ => DLine.never) e.lines j d })

/-- The setting that the registers of line j state. -/
def State.dset (s : State) (j : Nat) : DSet :=
  let c := s.reg (Adr.SPE_DLCTL j)
  ⟨bit c 0, bit c 1, s.fld (Adr.SPE_DLADR j) 21 0, bits c 23 4 + 1⟩

/-- Bytes of a sample. -/
def DSet.width (d : DSet) : Nat := if d.w16 then 2 else 3

/-- Bytes of a line (R154). -/
def DSet.bytes (d : DSet) : Nat := d.len * d.width

/-- A sample position of line j as S24 from the Basin: an uncorrectable word gives 0 and sets DERR (R161). -/
def State.lineFetch (s : State) (j pos : Nat) : Int × State :=
  let d := s.dline j
  let w := d.cur.width
  match s.basinRead Master.spe (s.dregBase + d.cur.adr + pos * w) w with
  | (some b, s) => (if d.cur.w16 then sx 16 (leNat b) * 256 else sx 24 (leNat b), s)
  | (none, s) => (0, s.setFlag Adr.SPE_STAT 2 true)

/-- A sample position of line j as S24: a position that a clear has not wholly reached reads 0 (R160), and the sample written by the previous
run comes from its register (R156). -/
def State.lineRead (s : State) (j : Nat) (pos : Nat) : Int × State :=
  let d := s.dline j
  let w := d.cur.width
  let hidden := match d.clr with
    | some n => n < (pos + 1) * w && !d.wrote.contains pos
    | none => false
  if !d.cur.en || hidden then (0, s)
  else match d.last with
  | some (p, x) => if p = pos then (x, s) else s.lineFetch j pos
  | none => s.lineFetch j pos

/-- s(line, d) of R155 for a whole offset d. -/
def State.lineAt (s : State) (j : Nat) (d : Int) : Int × State :=
  let l := s.dline j
  s.lineRead j (((l.wp : Int) - d) % ((Nat.max 1 l.cur.len : Nat) : Int)).toNat

/-- A DWR store of line j at its write position, in the Basin and in the line's register (R155, R156, R161). -/
def State.lineWrite (s : State) (j : Nat) (x : Int) : State :=
  let d := s.dline j
  let w := d.cur.width
  let r := s.basinWrite Master.spe 0 (s.dregBase + d.cur.adr + d.wp * w) (natLE w (ux (8 * w) x))
  let s := if r.1.bad then r.2.setFlag Adr.SPE_STAT 2 true else r.2
  s.setDline j { d with
    last := some (d.wp, if d.cur.w16 then x * 256 else x)
    wrote := if d.clr.isSome then d.wp :: d.wrote.filter (· ≠ d.wp) else d.wrote }

/-- The pointer step of one line at the start of a run (R155, R159): the latched setting comes into force; a line enabled anew starts at 0. -/
def DLine.step (d : DLine) : DLine :=
  let wp :=
    if d.nxt.en && (!d.cur.en || d.off) then 0
    else if d.nxt.en then (if Nat.max 1 d.nxt.len ≤ d.wp + 1 then 0 else d.wp + 1) else d.wp
  { d with cur := d.nxt, wp := wp, off := false }

/-- The lines that have a setting, a latched setting or a register. -/
def State.lineIds (s : State) : List Nat :=
  (List.range 64).filter (fun j => (Sp.find s.spe.lines j).isSome || s.reg (Adr.SPE_DLCTL j) ≠ 0 || s.reg (Adr.SPE_DLADR j) ≠ 0)

/-- Zeros written at a, a position of the line at base with samples of w bytes, but for positions written since the clear began. -/
def State.clearPart (s : State) (wrote : List Nat) (base w a n : Nat) : State :=
  let keep (i : Nat) : Bool := wrote.contains ((a + i - base) / w)
  let put (s : State) (a n : Nat) : State :=
    let r := s.basinWrite Master.spe 0 a (List.replicate n 0)
    if r.1.bad then r.2.setFlag Adr.SPE_STAT 2 true else r.2
  if (List.range n).any keep then (List.range n).foldl (fun s i => if keep i then s else put s (a + i) 1) s else put s a n

/-- A clear in progress zero-fills 1,024 bytes of line j, word by word, but for positions written since it began (R160). -/
def State.clearChunk (s : State) (j : Nat) : State :=
  let d := s.dline j
  match d.clr with
  | none => s
  | some n =>
    let base := s.dregBase + d.clrSet.adr
    let k := Nat.min 1024 (d.clrSet.bytes - n)
    let s := (memParts (base + n) (List.replicate k 0)).foldl (fun s q => s.clearPart d.wrote base d.clrSet.width q.1 q.2.length) s
    s.setDline j { d with clr := some (n + k) }

/-- A clear that has reached the end of its line ends, and CLEARING clears. -/
def State.clearEnd (s : State) (j : Nat) : State :=
  let d := s.dline j
  match d.clr with
  | some n =>
    if d.clrSet.bytes ≤ n then (s.setDline j { d with clr := none, wrote := [] }).setFlag (Adr.SPE_DLCTL j) 3 false else s
  | none => s

/-- At a boundary the delay unit begins the fetches of the following run (R159): the registers' settings are latched, and a clear
that was requested begins on the line as they state it (R160). DEDUCED (log 19, not safe). -/
def State.latchLines (s : State) : State :=
  s.lineIds.foldl (fun s j =>
    let d := s.dline j
    let set := s.dset j
    let d := if s.flag (Adr.SPE_DLCTL j) 3 && d.clr.isNone then { d with clr := some 0, clrSet := set, wrote := [], last := none } else d
    s.setDline j { d with nxt := set, off := d.off || !set.en }) s

/-- CLEAR = 1 was written to line j: CLEARING stands from the write on. DEDUCED (log 19, not safe). -/
def State.startClear (s : State) (j : Nat) : State := s.setFlag (Adr.SPE_DLCTL j) 3 true

/-- The clears in one sample cycle. -/
def State.stepClears (s : State) : State := s.lineIds.foldl (fun s j => (s.clearEnd j).clearChunk j) s

/-! ### One run (R139 to R152) -/

/-- What a run carries from step to step. -/
structure SpeRun where
  s : State
  acc : List Int
  temps : List (Nat × S24)
  out : List Int
  /-- DWR stores of this run, newest first: line and sample code. -/
  writes : List (Nat × Int)

/-- A flag of SPE_STAT is set. -/
def SpeRun.flag (r : SpeRun) (i : Nat) : SpeRun := { r with s := r.s.setFlag Adr.SPE_STAT i true }

/-- Accumulator a. -/
def SpeRun.a (r : SpeRun) (i : Nat) : Int := r.acc.getD i 0

/-- Temporary i. -/
def SpeRun.t (r : SpeRun) (i : Nat) : Int := getS24 r.temps i

/-- Temporary i set. -/
def SpeRun.setT (r : SpeRun) (i : Nat) (x : Int) : SpeRun := { r with temps := putS24 r.temps i x }

/-- An accumulator takes an exact result, modulo 2^56; a wrap sets GOV and, if it is the first, GOVSTEP (R144). -/
def SpeRun.setA (r : SpeRun) (step i : Nat) (x : Int) : SpeRun :=
  let r := { r with acc := r.acc.set i (sx 56 (ux 56 x)) }
  if ovfS 56 x then
    let s := if r.s.flag Adr.SPE_STAT 0 then r.s else r.s.setFld Adr.SPE_STAT 28 16 step
    { r with s := s.setFlag Adr.SPE_STAT 0 true }
  else r

/-- w(v): widening (R144). -/
def wide (x : Int) : Int := x * 2 ^ 23

/-- st(v): rounding to n fraction bits and saturation; the answer also says whether it saturated (R145). -/
def stor (rm : Nat) (x : Int) (n w : Nat) : Int × Bool :=
  let q := roundRM rm x (46 - n)
  (satS w q, ovfS w q)

/-- LOG (R151). -/
def speLog (t : Int) : Int :=
  let m := t.natAbs
  if m = 0 then -(2 ^ 23)
  else if m = 2 ^ 23 then 0
  else clampI (-(23 * 2 ^ 18)) 0 (rneQ ((log2Q m - 23) * 262144) + oneErr (Config.logErr t))

/-- EXP (R151): the value, and whether it saturated. -/
def speExp (t : Int) : Int × Bool :=
  let x := if 0 ≤ t then 2 ^ 23 else rneQ (pow2 (mkRat t 262144) * 8388608) + oneErr (Config.expErr t)
  (clampI 0 (2 ^ 23 - 1) x, decide (2 ^ 23 - 1 < x))

/-- COND of R150. -/
def speCond (c : Nat) (a : Int) : Bool :=
  match c with
  | 0 => 0 ≤ a
  | 1 => a < 0
  | 2 => a = 0
  | 3 => a ≠ 0
  | 4 => 0 < a
  | _ => a ≤ 0

/-- The interpolated read of R157. -/
def SpeRun.dri (r : SpeRun) (line off sh : Nat) (m : Int) : Int × SpeRun :=
  -- D in units of 2^-17: 2^23 × 2^-(6 + 4 SH)
  let k := 17 - 4 * sh
  let d : Int := (off : Int) * 2 ^ k + m
  let i := sarI d k
  let f0 : Int := (d - i * 2 ^ k)
  let f : Int := if k ≤ 16 then f0 * 2 ^ (16 - k) else sarI f0 (k - 16)
  let a := r.s.lineAt line i
  let b := a.2.lineAt line (i + 1)
  (wide a.1 + f * (wide (b.1 - a.1) / 65536), { r with s := b.2 })

/-- Step number step, with word w, coefficient reader c, input slots ins, and temporaries tm of the start of the run before
(Table SP-6). -/
def speStep (c : Nat → Int) (ins : List Int) (tm : List (Nat × S24)) (r : SpeRun) (step w : Nat) : SpeRun :=
  let op := speOp w
  let a := bits w 41 40
  let b := bits w 39 38
  let hi := bits w 39 32
  let lo := bits w 31 24
  let set := r.setA step a
  if op = 0x01 then set (r.a a + c (bits w 39 28) * r.t (bits w 27 20))
  else if op = 0x02 then set (r.a a - c (bits w 39 28) * r.t (bits w 27 20))
  else if op = 0x03 then set (c (bits w 39 28) * r.t (bits w 27 20))
  else if op = 0x04 then
    let t := bits w 27 20
    let x := r.t t
    (set (r.a a + c (bits w 39 28) * x)).setT (t + 1) x
  else if op = 0x05 then set (r.a a + r.t hi * r.t lo)
  else if op = 0x06 then set (r.t hi * r.t lo)
  else if op = 0x07 then set (wide (r.t hi))
  else if op = 0x08 then set (r.a a + wide (r.t hi))
  else if op = 0x09 then set (r.a a - wide (r.t hi))
  else if op = 0x0A then set (wide (c (bits w 39 28)))
  else if op = 0x0B then set (wide (sx 24 (bits w 39 16)))
  else if op = 0x0C then set (r.a b)
  else if op = 0x0D then set (-(r.a b))
  else if op = 0x0E then set ((r.a b).natAbs : Int)
  else if op = 0x0F then
    let k := sx 6 (bits w 37 32)
    set (if 0 ≤ k then r.a b * 2 ^ k.toNat else sarI (r.a b) (-k).toNat)
  else if op = 0x10 then set (max (r.a a) (wide (r.t hi)))
  else if op = 0x11 then set (min (r.a a) (wide (r.t hi)))
  else if op = 0x12 || op = 0x13 then
    let q := stor (bits w 31 30) (r.a a) 23 24
    let r := if q.2 then r.flag 1 else r
    let r := if op = 0x12 then r.setT hi q.1 else { r with out := r.out.set (bits w 37 32) q.1 }
    if bit w 29 then { r with acc := r.acc.set a 0 } else r
  else if op = 0x14 then r.setT hi (r.t lo)
  else if op = 0x15 then r.setT hi (ins.getD (bits w 29 24) 0)
  else if op = 0x16 then { r with out := r.out.set (bits w 37 32) (r.t lo) }
  else if op = 0x17 then r.setT hi (if speCond (bits w 15 13) (r.a a) then r.t lo else r.t (bits w 23 16))
  else if op = 0x18 then r.setT hi (speLog (r.t lo))
  else if op = 0x19 then
    let e := speExp (r.t lo)
    (if e.2 then r.flag 1 else r).setT hi e.1
  else if op = 0x1A then
    let x := r.s.lineAt (bits w 41 36) (bits w 19 0)
    ({ r with s := x.2 }).setT (bits w 35 28) x.1
  else if op = 0x1B then
    let x := r.dri (bits w 39 34) (bits w 19 0) (bits w 25 24) (getS24 tm (bits w 33 26))
    x.2.setA step a x.1
  else if op = 0x1C then
    let x := r.s.lineAt (bits w 39 34) (bits w 19 0)
    ({ r with s := x.2 }).setA step a (r.a a + c (bits w 33 22) * x.1)
  else if op = 0x1D then
    let j := bits w 41 36
    let d := (r.s.dline j).cur
    if !d.en then r
    else
      let rm := bits w 23 22
      let q : Int × Bool :=
        if bit w 35 then (if d.w16 then stor rm (r.a (bits w 34 33)) 15 16 else stor rm (r.a (bits w 34 33)) 23 24)
        else if d.w16 then stor rm (wide (r.t lo)) 15 16
        else (r.t lo, false)
      let r := if q.2 then r.flag 1 else r
      { r with writes := (j, q.1) :: r.writes }
  else if op = 0x1E then set (r.a a + r.a b)
  else r

/-- Steps from number k on. -/
def speSteps (c : Nat → Int) (ins : List Int) (tm : List (Nat × S24)) : List Nat → Nat → SpeRun → SpeRun
  | [], _, r => r
  | w :: ws, k, r => speSteps c ins tm ws (k + 1) (speStep c ins tm r k w)

/-- One run on the input slots ins: the held temporary writes, the pointer steps, the steps in order, then the run's delay writes
(R139, R142, R155); the slot maps of the run are those at its start (R174). The temporaries that steer the next run's reads are those before the held writes, so that a held write steers the reads
from two runs after it is applied (R156). DEDUCED (log 20, not safe). -/
def State.speRun (s : State) (ins : List Int) : State :=
  let start := s.spe.temps
  let s := s.setSpe (fun e => { e with
    temps := e.heldT.foldl (fun t p => putS24 t p.1 p.2.toInt) e.temps, heldT := [], ins := ins, acc := [0, 0, 0, 0]
    outMap := (List.range 32).map (fun k => s.reg (Adr.SPE_OUTMAP (12 + k))) })
  let s := s.lineIds.foldl (fun s j => s.setDline j (s.dline j).step) s
  let tm := s.spe.tempsAt
  let words := (List.range (s.fld Adr.SPE_PSTAT 13 0)).map s.progStep
  let r := speSteps (getS24 s.spe.coef) ins tm words 0 ⟨s, [0, 0, 0, 0], s.spe.temps, s.spe.out, []⟩
  let s := r.s.setSpe (fun e => { e with temps := r.temps, tempsAt := start, out := r.out, acc := r.acc })
  let s := s.lineIds.foldl (fun s j => s.setDline j { s.dline j with last := none }) s
  r.writes.reverse.foldl (fun s p => s.lineWrite p.1 p.2) s

/-! ### Commits and swaps (R163 to R171) -/

/-- Ramp class and length of coefficient i (R165). -/
def State.rampLen (s : State) (i : Nat) : Nat :=
  let c := s.fld (Adr.SPE_RCLASS (i / 8)) (4 * (i % 8) + 3) (4 * (i % 8))
  if c = 0 then 0 else s.fld (Adr.SPE_RLEN c) 15 0

/-- The value of a ramp k runs after its commit. -/
def Ramp.value (r : Ramp) (k : Nat) : Int :=
  if r.n ≤ k then r.v1 else r.v0 + ((k : Int) * (r.v1 - r.v0)) / (r.n : Int)

/-- The dirty coefficients take effect or start ramping (R164, R165); COPYBACK is set (R166). -/
def State.commitActs (s : State) (noramp : Bool) : State :=
  let ds := s.spe.dirty
  let s := s.setSpe (fun e => { e with
    ramps := ds.foldl (fun l i =>
      let n := if noramp then 0 else s.rampLen i
      Sp.ins l i ⟨getS24 e.coef i, getS24 e.shadow i, n, 0⟩) e.ramps
    dirty := [], commit := none, copyAt := if ds.isEmpty then e.copyAt else s.clk })
  if ds.isEmpty then s else s.setFlag Adr.SPE_CSTAT 14 true

/-- Every ramp advances by one run (R165). -/
def State.stepRamps (s : State) : State :=
  s.setSpe (fun e => { e with
    coef := e.ramps.foldl (fun c p => putS24 c p.1 (p.2.value (p.2.k + 1))) e.coef
    ramps := e.ramps.filterMap (fun p => if p.2.n ≤ p.2.k + 1 then none else some (p.1, { p.2 with k := p.2.k + 1 })) })

/-- Whether a time is due at the process stage of the sample presented at boundary b: time 0 always (R164, R170). -/
def dueAt (time b : Nat) : Bool := time ≤ b

/-- Whether a due time lies one or more runs back: LATE. -/
def lateAt (time b spt : Nat) : Bool := time ≠ 0 && time + spt ≤ b

/-- The start of a process stage for the sample presented at b: a due commit, then a due swap, then the ramps (R20, R164, R170).
DEDUCED (log 20, not safe). -/
def State.processStart (s : State) (b : Nat) : State :=
  let s := match s.spe.commit with
    | some (t, nr) =>
      if dueAt t b then
        let s := s.commitActs nr
        if lateAt t b s.spt then s.setFlag Adr.SPE_CSTAT 16 true else s
      else s
    | none => s
  let s := match s.spe.load with
    | some l =>
      if s.fld Adr.SPE_PSTAT 15 14 = 2 && dueAt l.time b then
        let s := s.setSpe (fun e => { e with
          prog := e.stage, stage := e.prog, load := none, temps := if l.clrt then [] else e.temps })
        let s := (s.setReg Adr.SPE_STAT (putBits (putBits (s.reg Adr.SPE_STAT) 28 16 0) 1 0 0))
        let st := s.reg Adr.SPE_PSTAT
        let late := bit st 25 || lateAt l.time b s.spt
        let st := putBit (putBit (putBits (putBits (putBits st 13 0 l.len) 15 14 0) 23 16 0) 24 true) 25 late
        (s.setReg Adr.SPE_PSTAT st).raise Cause.spe
      else s
    | none => s
  s.stepRamps

/-- The copy-back of the update set is complete (R166). -/
def State.copybackDone (s : State) : State := s.setFlag Adr.SPE_CSTAT 14 false

/-- A copy-back takes at most 128 FCLK cycles, 8 ticks (R166). -/
def State.copybackTime (s : State) : State :=
  if s.flag Adr.SPE_CSTAT 14 && s.spe.copyAt + 8 ≤ s.clk then s.copybackDone else s

/-- An access at an address of coefficient bank 1 waits until the copy-back ends (R166). -/
def State.speHeld (s : State) (a : Nat) : State :=
  if 0x01124000 ≤ a && a < 0x01128000 then s.copybackDone else s

/-- SPE_CSTAT as read: NDIRTY, PENDING and RAMPING from the engine (Table SP-9). -/
def State.speCstat (s : State) : Nat :=
  let r := putBits (s.reg Adr.SPE_CSTAT) 12 0 s.spe.dirty.length
  putBit (putBit r 13 s.spe.commit.isSome) 15 (!s.spe.ramps.isEmpty)

/-- COMMIT with a time (R164): the status. -/
def State.speCommit (s : State) (time : Nat) (noramp : Bool) : Nat × State :=
  if s.spe.commit.isSome then (St.busy, s)
  else (0, s.setSpe (fun e => { e with commit := some (time, noramp) }))

/-- CANCEL of a pending commit (R167). -/
def State.speCommitCancel (s : State) : Nat × State := (0, s.setSpe (fun e => { e with commit := none }))

/-- DISCARD (R167). -/
def State.speDiscard (s : State) : Nat × State :=
  if s.spe.commit.isSome then (St.busy, s)
  else (0, s.setSpe (fun e => { e with
    shadow := e.dirty.foldl (fun l i => putS24 l i (getS24 e.coef i)) e.shadow, dirty := [] }))

/-- The status of a command is kept in SPE_CSTAT.CODE. -/
def State.speCcode (s : State) (st : Nat) : State := s.setFld Adr.SPE_CSTAT 31 24 st

/-- The status of a command is kept in SPE_PSTAT.CODE. -/
def State.spePcode (s : State) (st : Nat) : State := s.setFld Adr.SPE_PSTAT 23 16 st

/-- LOAD with a swap time (R169): the status. -/
def State.speLoad (s : State) (len : Nat) (clrt : Bool) (time : Nat) : Nat × State :=
  if len = 0 || s.speMaxLen < len then (St.range, s)
  else if s.fld Adr.SPE_PSTAT 15 14 ≠ 0 then (St.busy, s)
  else (0, (s.setSpe (fun e => { e with load := some ⟨len, clrt, time⟩ })).setFld Adr.SPE_PSTAT 15 14 1)

/-- A LOAD ends: STATE 0, DONE. -/
def State.speLoadEnds (s : State) : State :=
  let s := s.setSpe (fun e => { e with load := none })
  ((s.setFld Adr.SPE_PSTAT 15 14 0).setFlag Adr.SPE_PSTAT 24 true).raise Cause.spe

/-- CANCEL of a LOAD (R171). -/
def State.speLoadCancel (s : State) : Nat × State :=
  if s.fld Adr.SPE_PSTAT 15 14 = 0 then (0, s) else (0, s.speLoadEnds)

/-- Validation ends (R169): the program waits, or is refused with its rule's code. -/
def State.speValidated (s : State) : State :=
  match s.spe.load with
  | some l =>
    if s.fld Adr.SPE_PSTAT 15 14 = 1 then
      match speValidate s.speLimit ((List.range l.len).map s.stageStep) 0 [] 0 with
      | none => s.setFld Adr.SPE_PSTAT 15 14 2
      | some (k, rule) =>
        ((s.speLoadEnds).setFld Adr.SPE_PSTAT 23 16 (speRuleCode rule)).setReg Adr.SPE_PERR (k + rule * 65536)
    else s
  | none => s

/-! ### Core taps and the tick (R175, R176) -/

/-- One tap at the presentation boundary of sample n. DEDUCED (log 100, not safe). -/
def State.tapOne (s : State) (n i : Nat) : State :=
  let c := s.reg (Adr.SPE_TAPCTL i)
  let w := s.reg (Adr.SPE_TAPWP i)
  let blk := 2 ^ s.fld Adr.SPE_BLOCK 3 0
  let write (s : State) (wp : Nat) : State :=
    let x := s.spe.out.getD (44 + i) 0
    let a := s.fld (Adr.SPE_TAPADR i) 23 0
    let s := if bit c 1 then (s.basinWrite Master.spe 0 (a + 4 * wp) (natLE 4 (ux 32 x))).2
      else (s.basinWrite Master.spe 0 (a + 3 * wp) (natLE 3 (ux 24 x))).2
    s.setReg (Adr.SPE_TAPWP i) ((if bits c 17 2 + 1 ≤ wp + 1 then 0 else wp + 1) + 2 ^ 16)
  if !bit c 0 then s.setReg (Adr.SPE_TAPWP i) (w % 2 ^ 16)
  else if bit w 16 then write s (w % 2 ^ 16)
  else if n % blk = 0 then write s 0
  else s

/-- At a boundary the taps whose RUN was cleared since the last one stop, even where RUN has been set again (R176). DEDUCED (log 100, not safe). -/
def State.tapStops (s : State) : State :=
  let s := s.spe.tapStop.foldl (fun s i => s.setFlag (Adr.SPE_TAPWP i) 16 false) s
  s.setSpe (fun e => { e with tapStop := [] })

/-- The taps and the sample-block tick at the presentation boundary of sample n, at trail time b. -/
def State.tapsAndTick (s : State) (n b : Nat) : State :=
  let s := (List.range 20).foldl (fun s i => s.tapOne n i) s
  if (n + 1) % 2 ^ s.fld Adr.SPE_BLOCK 3 0 = 0 then s.post 0 (natLE 8 b ++ natLE 8 0) else s

/-! ### Memory window (R35, R142, R163, R168) -/

/-- The word at an address of the SPE window (Table NS-6). -/
def State.speRead (s : State) (a : Nat) : Nat :=
  let o := a - 0x01100000
  if o < 0x20000 then
    let w := if o < 0x10000 then s.progStep (o / 8) else s.stageStep (o % 0x10000 / 8)
    if o % 8 = 0 then bits w 31 0 else bits w 47 32
  else if o < 0x24000 then s24Word (getS24 s.spe.coef (o % 0x4000 / 4))
  else if o < 0x28000 then s24Word (getS24 s.spe.shadow (o % 0x4000 / 4))
  else if o < 0x28400 then s24Word (getS24 s.spe.temps ((o - 0x28000) / 4))
  else 0

/-- The status of a word write in the SPE window by a host or Trail (core = false) or a core. -/
def State.speWriteStatus (s : State) (core : Bool) (a x : Nat) : Nat :=
  let o := a - 0x01100000
  if o < 0x10000 then St.locked
  else if o < 0x20000 then
    if s.fld Adr.SPE_PSTAT 15 14 ≠ 0 then St.locked
    else if !core && o % 8 = 4 && x / 65536 ≠ 0 then St.reserved else 0
  else if o < 0x24000 then St.locked
  else if o < 0x28400 then (if !core && !s24Extended x then St.range else 0)
  else St.noaddr

/-- The write, once accepted. -/
def State.speWrite (s : State) (a x : Nat) : State :=
  let o := a - 0x01100000
  if o < 0x20000 then
    let k := o % 0x10000 / 8
    let w := s.stageStep k
    let w' := if o % 8 = 0 then putBits w 31 0 x else putBits w 47 32 x
    s.setSpe (fun e => { e with stage := Sp.put (fun _ => (0 : BitVec 48)) e.stage k (BitVec.ofNat 48 w') })
  else if o < 0x28000 then
    let i := o % 0x4000 / 4
    (s.speHeld a).setSpe (fun e => { e with
      shadow := putS24 e.shadow i (sx 24 x), dirty := if e.dirty.contains i then e.dirty else e.dirty ++ [i] })
  else
    s.setSpe (fun e => { e with heldT := e.heldT ++ [((o - 0x28000) / 4, BitVec.ofInt 24 (sx 24 x))] })

/-! ### Register rules -/

/-- Rules of one SPE register write: present state and values (R153, R154, R160, R165, R173 to R176). -/
def State.speRegStatus (s : State) (a v : Nat) : Nat :=
  let old := s.reg a
  let inArr (f : Nat → Nat) (n : Nat) : Option Nat := if f 0 ≤ a && a < f 0 + 4 * n && a % 4 = 0 then some ((a - f 0) / 4) else none
  if a = Adr.SPE_BLOCK then
    firstFail [(10 < bits v 3 0, St.range), ((List.range 20).any (fun i => s.flag (Adr.SPE_TAPCTL i) 0), St.mode)]
  else if a = Adr.SPE_DREGBASE then (if s.mode ≠ 4 then St.mode else 0)
  else if a = Adr.SPE_DREGSIZE then firstFail [(0x400 < bits v 22 12, St.range), (s.mode ≠ 4, St.mode)]
  else if a = Adr.SPE_PCMD then (if bits v 1 0 = 3 then St.reserved else 0)
  else match inArr Adr.SPE_DLADR 64 with
  | some j => if bits v 21 0 ≠ bits old 21 0 && s.flag (Adr.SPE_DLCTL j) 0 then St.mode else 0
  | none => match inArr Adr.SPE_DLCTL 64 with
  | some _ => firstFail [
      (bit old 0 && bit v 1 ≠ bit old 1, St.mode), (bit v 2 && bit old 3, St.busy)]
  | none => match inArr (fun i => Adr.SPE_TAPCTL i) 20 with
  | some _ => if bit old 0 && bits v 17 1 ≠ bits old 17 1 then St.mode else 0
  | none => match inArr (fun i => Adr.SPE_TAPADR i) 20 with
  | some i => if v ≠ old && s.flag (Adr.SPE_TAPCTL i) 0 then St.mode else 0
  | none =>
    let slot (k : Nat) (top : Nat) : Nat :=
      if k < top then
        firstFail [(bits v 2 0 = 7, St.reserved), (5 ≤ bits v 2 0 && 1 < bits v 6 3, St.range)]
      else if s.dbl && bit v 0 then St.range else 0
    if Adr.SPE_INMAP 32 ≤ a && a ≤ Adr.SPE_INMAP 63 then slot ((a - Adr.SPE_INMAP 0) / 4) 48
    else if Adr.SPE_OUTMAP 12 ≤ a && a ≤ Adr.SPE_OUTMAP 43 then slot ((a - Adr.SPE_OUTMAP 0) / 4) 28
    else 0

/-- Two byte ranges overlap. DEDUCED (log 60, not safe). -/
def overlaps (a n b m : Nat) : Bool := n ≠ 0 && m ≠ 0 && a < b + m && b < a + n

/-- The rules over several SPE registers, judged where a written register is among those named: registers, status, whether it
holds (R153, R154, R173, R176). -/
def State.speRules (s : State) : List (List Nat × Nat × Bool) :=
  let ids := (List.range 64).filter (fun j => s.reg (Adr.SPE_DLCTL j) ≠ 0 || s.reg (Adr.SPE_DLADR j) ≠ 0)
  let d (j : Nat) : DSet := s.dset j
  let fits (j : Nat) : Bool :=
    !(d j).en || (2 ≤ (d j).len && (d j).adr + (d j).bytes ≤ s.dregSize &&
      ids.all (fun i => i = j || !(d i).en || !overlaps (d j).adr (d j).bytes (d i).adr (d i).bytes))
  let wb := s.fld Adr.VOICE_WAVEBASE 23 12 * 4096
  let ws := s.fld Adr.VOICE_WAVESIZE 23 12 * 4096
  let pb := s.fld Adr.VOICE_PATCHBASE 23 16 * 65536
  let region := s.dregBase + s.dregSize ≤ basinSize && !overlaps s.dregBase s.dregSize wb ws &&
    !overlaps s.dregBase s.dregSize pb 0x100000
  let tap (i : Nat) : List (List Nat × Nat × Bool) :=
    let c := s.reg (Adr.SPE_TAPCTL i)
    let len := bits c 17 2 + 1
    let w := if bit c 1 then 4 else 3
    let adr := s.fld (Adr.SPE_TAPADR i) 23 0
    [([Adr.SPE_TAPADR i, Adr.SPE_TAPCTL i], St.range, decide (adr + w * len ≤ basinSize)),
     ([Adr.SPE_TAPADR i, Adr.SPE_TAPCTL i], St.align, !bit c 1 || adr % 4 = 0),
     ([Adr.SPE_TAPCTL i], St.range, !bit c 0 || len % 2 ^ s.fld Adr.SPE_BLOCK 3 0 = 0)]
  let outs := (List.range 16).map (fun k => (Adr.SPE_OUTMAP (12 + k), s.reg (Adr.SPE_OUTMAP (12 + k))))
  let twice := outs.all (fun p => bits p.2 2 0 = 0 || outs.all (fun q => p.1 = q.1 || p.2 ≠ q.2))
  [([Adr.SPE_DREGBASE, Adr.SPE_DREGSIZE], St.range, region)] ++
  ids.map (fun j => ([Adr.SPE_DLADR j, Adr.SPE_DLCTL j], St.align, !((d j).w16 && (d j).adr % 2 = 1))) ++
  ids.map (fun j => ([Adr.SPE_DLCTL j], St.range, fits j)) ++
  (List.range 20).flatMap tap ++ [(outs.map (·.1), St.range, twice)]

/-! ### Commands -/

/-- COPYBACK_END (R166). -/
def execCopybackEnd (s : State) : Out := s.run fun s => s.copybackDone

/-- LOAD_VALIDATED (R169). -/
def execLoadValidated (s : State) : Out := s.run fun s => s.speValidated

/-- DELAY_CLEAR_END (R160). -/
def execDelayClearEnd (j : Fin 64) (s : State) : Out := s.run fun s => (s.clearEnd j.val)

end Sys2Proof.Machine
end

