-- ==== Sys2Proof/Machine/APort.lean ====
section
/-!
DEFINITION. Serial and biphase audio ports (R322 to R343): formats, FIFOs, rate measurement and external clock conditions, rings, biphase
blocks, starting and stopping, and the buffer-level loop.
-/
namespace Sys2Proof.Machine

/-! ### Port kinds and fields -/

/-- A port beyond its registers. -/
def State.aport (s : State) (p : Nat) : APort := s.aports.ports.getD p APort.reset

/-- A port changed. -/
def State.setAport (s : State) (p : Nat) (f : APort → APort) : State :=
  { s with aports := { s.aports with ports := s.aports.ports.set p (f (s.aport p)) } }

/-- A port that takes its clock from outside (R325): a SAP in slave mode, or a BPR. -/
def State.apSlave (s : State) (p : Nat) : Bool := (p < 4 && !s.flag (Adr.APORT_CTL p) 1) || p = 4 || p = 5

/-- Channels of a port sample (R323, R329). -/
def State.apCh (s : State) (p : Nat) : Nat := if p < 4 then s.fld (Adr.APORT_FMT p) 13 9 else 2

/-- Slot width in BCLK cycles (Table AP-2). -/
def apWidth (w : Nat) : Nat := if w = 0 then 16 else if w = 1 then 24 else 32

/-- A port is retired (R341). -/
def State.apRetired (s : State) (p : Nat) : Bool := s.retired (2 + p)

/-- The balls of the ports are supplied: VDDIO2 is valid (R407, R410). -/
def State.apSupplied (s : State) : Bool := s.flag Adr.PWR_SUPPLY 3

/-- A sample as a SAP carries it (R324): a 16-bit slot keeps bits [23:8]. -/
def State.apCarry (s : State) (p : Nat) (x : Int) : Int :=
  if p < 4 && s.fld (Adr.APORT_FMT p) 3 2 = 0 then x / 256 * 256 else x

/-- A port sample cut or filled to the port's channels (R323). -/
def State.apSample (s : State) (p : Nat) (l : List Int) : List Int :=
  (List.range (s.apCh p)).map (fun c => s.apCarry p (l.getD c 0))

/-- A sample of zeros. -/
def State.apZero (s : State) (p : Nat) : List Int := List.replicate (s.apCh p) 0

/-- Flags of a clock: the register that holds CLKSTOP and the next two bits, and the first bit; WCLK is port code 8 (R327). -/
def apFlagBase (p : Nat) : Nat × Nat := if p = 8 then (Adr.APORT_WCLK, 18) else (Adr.APORT_STAT p, 2)

/-- Clock flag k of a port: 0 CLKSTOP, 1 RATECHG, 2 RATEERR. -/
def State.apFlag (s : State) (p k : Nat) : Bool := s.flag (apFlagBase p).1 ((apFlagBase p).2 + k)

/-- Clock flag k set. -/
def State.setApFlag (s : State) (p k : Nat) (b : Bool) : State := s.setFlag (apFlagBase p).1 ((apFlagBase p).2 + k) b

/-- MUTED of a port: for WCLK any of its three conditions (R327). -/
def State.apMuted (s : State) (p : Nat) : Bool :=
  if p = 8 then s.apFlag 8 0 || s.apFlag 8 1 || s.apFlag 8 2 else s.flag (Adr.APORT_STAT p) 1

/-- MUTED takes a value; a change raises cause APORT (Table HI-5). -/
def State.setMuted (s : State) (p : Nat) (b : Bool) : State :=
  if p = 8 || s.flag (Adr.APORT_STAT p) 1 = b then s else (s.setFlag (Adr.APORT_STAT p) 1 b).raise Cause.aport

/-- The clock measurement of a port. -/
def State.pclk (s : State) (p : Nat) : PClk := if p = 8 then s.aports.wclk else (s.aport p).clk

/-- The clock measurement changed. -/
def State.setPclk (s : State) (p : Nat) (c : PClk) : State :=
  if p = 8 then { s with aports := { s.aports with wclk := c } } else s.setAport p (fun a => { a with clk := c })

/-- A record on the APORT source (R342), with the trail time of the sample boundary at or before it. DEDUCED (log 127, not safe). -/
def State.apPost (s : State) (code port status dir value : Nat) : State :=
  s.post 5 (record16 code port status dir value (s.time / s.spt * s.spt))

/-- A clock that meets the conditions of Table AP-4: WCLK, and a slave port that exchanges port samples. -/
def State.apWatched (s : State) (p : Nat) : Bool :=
  p = 8 || (s.apSlave p && s.flag (Adr.APORT_STAT p) 0 && !s.apRetired p)

/-- Muted for a stop or a rate change, with no rate found since: the measurement settles. -/
def State.apSettling (s : State) (p : Nat) : Bool := s.apMuted p && !s.apFlag p 2

/-! ### Rate measurement (R327, R328) -/

/-- Rate in Hz of a sum of n periods in 1/256 tick; 0 outside 32 to 192 kHz. -/
def State.apHz (s : State) (l : List Nat) : Nat :=
  let t := l.foldl (· + ·) 0
  let hz := if t = 0 then 0 else (2 * s.baseHz * 256 * l.length + t) / (2 * t)
  if 32000 ≤ hz && hz ≤ 192000 then hz else 0

/-- The shown rate. -/
def State.showRate (s : State) (p hz : Nat) : State :=
  if p = 8 then s.setFld Adr.APORT_WCLK 17 0 hz else s.setReg (Adr.APORT_RATE p) hz

/-- |a − b| is at most n per mille of b. -/
def withinPm (n a b : Nat) : Bool := a * 1000 ≤ b * (1000 + n) && b * (1000 - n) ≤ a * 1000

/-- The mean of the periods lies within 0.5% of the system rate. -/
def State.rateRight (s : State) (l : List Nat) : Bool :=
  let t := l.foldl (· + ·) 0
  withinPm 5 t (s.spt * 256 * l.length)

/-- A clock stops (Table AP-4). -/
def State.clockStops (s : State) (p : Nat) : State :=
  let s := (s.setApFlag p 0 true).setMuted p true
  let s := (s.setPclk p { s.pclk p with periods := [], off := 0, stable := 0, back := false }).showRate p 0
  s.apPost 0x03 p 0 0 0

/-- A clock's rate changes (Table AP-4). -/
def State.clockChanges (s : State) (p period : Nat) : State :=
  let s := (((s.setApFlag p 0 false).setApFlag p 1 true).setApFlag p 2 false).setMuted p true
  let s := s.setPclk p ⟨[period], 0, 1, s.clk, false⟩
  let s := if p = 8 then s else s.count (Adr.APORT_RATECHG p)
  let hz := s.apHz [period]
  (s.showRate p hz).apPost 0x02 p 0 0 hz

/-- A stable rate more than 0.5% from the system rate is found (Table AP-4). -/
def State.clockWrong (s : State) (p hz : Nat) : State :=
  let s := ((s.setApFlag p 2 true).setApFlag p 1 false).setMuted p true
  (s.setPclk p { s.pclk p with back := false }).apPost 0x02 p St.rate 0 hz

/-- The period is within pm per mille of the mean of the periods before it; the first period always is. -/
def PClk.near (c : PClk) (period pm : Nat) : Bool :=
  c.periods.isEmpty || withinPm pm (period * c.periods.length) (c.periods.foldl (· + ·) 0)

/-- The measurement after one more period, at clock time t: while it settles, a period off the mean starts it again. -/
def PClk.next (c : PClk) (settling : Bool) (period t : Nat) : PClk :=
  if c.near period 5 then { c with periods := (period :: c.periods).take 256, off := 0, stable := c.stable + 1, since := t }
  else { c with periods := if settling then [period] else (period :: c.periods).take 256, off := c.off + 1, stable := 1, since := t }

/-- One frame or edge of period 1/256 tick is measured; true where it is a glitch (R327, R328). -/
def State.measure (s : State) (p period : Nat) : Bool × State :=
  let c := s.pclk p
  if !s.apWatched p then
    let s := s.setPclk p (c.next false period s.clk)
    (false, s.showRate p (s.apHz (s.pclk p).periods))
  else if s.apFlag p 0 then
    (if s.apHz [period] = 0 then (false, s.setPclk p { c with since := s.clk }) else (false, s.clockChanges p period))
  else
    let glitch := !s.apSettling p && !c.near period 60
    let c' := c.next (s.apSettling p) period s.clk
    let s := s.setPclk p c'
    let hz := s.apHz c'.periods
    if hz = 0 then (false, s.clockStops p)
    else
      let s := s.showRate p hz
      let s := if glitch then (if p = 8 then s.setFlag Adr.APORT_WCLK 21 true else s.count (Adr.APORT_GLITCH p)) else s
      (glitch, if 256 ≤ c'.stable && !s.rateRight c'.periods && !s.apFlag p 2 then s.clockWrong p hz else s)

/-- CLKSTOP (R328): no edge, or for a BPR no lock, within two sample periods. -/
def State.clockStopOn (s : State) (p : Nat) : State :=
  if s.inserted && s.apWatched p && !s.apFlag p 0 && s.elapsed (s.pclk p).since (2 * s.spt) then s.clockStops p else s

/-- RATECHG (R328): 16 consecutive frames more than 0.5% off. -/
def State.rateChangeOn (s : State) (p : Nat) : State :=
  if s.apWatched p && !s.apSettling p && 16 ≤ (s.pclk p).off then s.clockChanges p ((s.pclk p).periods.getD 0 0) else s

/-- What an unmute needs (Table AP-4): 256 stable frames at the system rate. -/
def State.clockGood (s : State) (p : Nat) : Bool :=
  s.apMuted p && !s.apFlag p 0 && 256 ≤ (s.pclk p).stable && s.rateRight (s.pclk p).periods

/-- CLKBACK (R328): the clock is good again, and the port unmutes at the next sample boundary. -/
def State.clockBackOn (s : State) (p : Nat) : State :=
  if s.apWatched p && s.clockGood p then s.setPclk p { s.pclk p with back := true } else s

/-- A port whose clock is good again unmutes at a boundary, and its FIFOs are refilled (R326, R328). -/
def State.clockUnmute (s : State) (p : Nat) : State :=
  if (s.pclk p).back && s.clockGood p then
    let s := ((s.setApFlag p 1 false).setApFlag p 2 false).setMuted p false
    let s := s.setPclk p { s.pclk p with off := 0, back := false }
    let s := if p = 8 then s else
      let tl := s.fld (Adr.APORT_TLEVEL p) 4 0
      s.setAport p (fun a => { a with fifo := [], refill := true, txFifo := if a.txRun then List.replicate tl (s.apZero p) else [] })
    s.apPost 0x04 p 0 0 0
  else s

/-! ### Rings (R329 to R333) -/

/-- LEN of a ring from its control register. -/
def State.apLen (s : State) (r : Nat) : Nat := 2 ^ s.fld r 3 0

/-- Bytes of one sample in a ring. -/
def State.apCell (s : State) (p fmt : Nat) : Nat := if s.flag (Adr.APORT_CTL p) fmt then 4 else 3

/-- WR − RD modulo 65,536. -/
def ringGap (wr rd : Nat) : Nat := (wr % 65536 + 65536 - rd % 65536) % 65536

/-- The receive ring takes a port sample (R330). -/
def State.rxRing (s : State) (p : Nat) (l : List Int) : State :=
  let wr := s.reg (Adr.APORT_RXWR p)
  let gap := ringGap wr (s.reg (Adr.APORT_RXRD p))
  let len := s.apLen (Adr.APORT_RXRCTL p)
  if len ≤ gap then s.count (Adr.APORT_OVER p)
  else
    let cell := s.apCell p 6
    let bytes := l.flatMap (fun x => natLE cell (ux (8 * cell) x))
    let a := s.fld (Adr.APORT_RXBASE p) 23 0 + wr % len * (cell * s.apCh p)
    let s := (s.basinWrite Master.aport p a bytes).2
    let s := s.setReg (Adr.APORT_RXWR p) ((wr + 1) % 65536)
    let thr := s.fld (Adr.APORT_RXRCTL p) 15 4
    if thr ≠ 0 && gap + 1 = thr then s.apPost 0x01 p 0 0 (gap + 1) else s

/-- The transmit ring gives the port sample of the next presentation (R331). -/
def State.txRing (s : State) (p : Nat) : State :=
  let rd := s.reg (Adr.APORT_TXRD p)
  let gap := ringGap (s.reg (Adr.APORT_TXWR p)) rd
  let adv (s : State) : State := s.setReg (Adr.APORT_TXRD p) ((rd + 1) % 65536)
  if gap = 0 || 32768 ≤ gap then adv (s.count (Adr.APORT_UNDER p))
  else
    let cell := s.apCell p 7
    let ch := s.apCh p
    let a := s.fld (Adr.APORT_TXBASE p) 23 0 + rd % s.apLen (Adr.APORT_TXRCTL p) * (cell * ch)
    let r := s.basinRead Master.aport a (cell * ch)
    let s := match r.1 with
      | some b => r.2.setAport p (fun q => { q with fetched := (List.range ch).map (fun c => sx 24 (leAt b (c * cell) 3)) })
      | none => r.2.count (Adr.APORT_DMAERR p)
    let s := adv s
    let thr := s.fld (Adr.APORT_TXRCTL p) 15 4
    if thr ≠ 0 && gap - 1 = thr then s.apPost 0x01 p 0 1 (gap - 1) else s

/-! ### Frames of slave ports (R326, R334, R336) -/

/-- A slave port completes a received frame; a read-back mismatch counts where it drives SDO (R341). -/
def State.sapFrame (s : State) (p : Nat) (f : PortFrame) : State :=
  if !s.apSlave p || s.apRetired p || !s.inserted || !s.apSupplied then s
  else
    let m := s.measure p f.period
    let s := m.2
    let a := s.aport p
    let s := if f.mismatch && a.txRun then s.noteErr (2 + p) else s
    let bad := f.parErr.map (fun b => b && 4 ≤ p)
    let vs := if 4 ≤ p then f.vbit else []
    let s := s.countBy (Adr.APORT_PARERR p) (bad.filter id).length
    let s := s.countBy (Adr.APORT_VALIDCNT p) (vs.filter id).length
    let vpol := s.flag (Adr.APORT_CTL p) 8
    let l := s.apSample p (f.samples.map (·.toInt))
    let l := if m.1 then a.prev else (List.range l.length).map (fun c =>
      if bad.getD c false || (vpol && vs.getD c false) then a.prev.getD c 0 else l.getD c 0)
    let s := s.setAport p (fun a => { a with prev := l })
    if !a.rxRun || s.apMuted p then s
    else if 32 ≤ (s.aport p).fifo.length then s.count (Adr.APORT_OVER p)
    else s.setAport p (fun a => { a with fifo := a.fifo ++ [l] })

/-- An external frame start on a slave SAP takes the next frame to send. DEDUCED (log 74, not safe). -/
def State.sapTxStart (s : State) (p : Nat) : State :=
  let a := s.aport p
  if !s.apSlave p || s.apRetired p || !a.txRun || !s.inserted || !s.apSupplied then s
  else if s.apMuted p then s.setAport p (fun a => { a with txNow := s.apZero p })
  else match a.txFifo with
    | [] => s.count (Adr.APORT_UNDER p)
    | x :: t => s.setAport p (fun a => { a with txNow := x, txFifo := t })

/-! ### The boundary (R325, R326, R338) -/

/-- Enables take effect (R338). Without VDDIO2 a master behaves as stopped, and a slave sees a stopped clock (R407, R410). -/
def State.apEnables (s : State) (p : Nat) : State :=
  let c := s.reg (Adr.APORT_CTL p)
  let on := bit c 0 && !s.apRetired p && (s.apSlave p || s.apSupplied)
  let rx := on && bit c 2 && p ≠ 6 && p ≠ 7
  let tx := on && bit c 3 && p ≠ 4 && p ≠ 5
  let a := s.aport p
  let s := s.setFlag (Adr.APORT_STAT p) 0 (rx || tx)
  let starts := rx && !a.rxRun
  let s := if starts && s.apSlave p then
      (((s.setApFlag p 1 false).setApFlag p 2 false).setMuted p true).setPclk p { s.pclk p with stable := 0, since := s.clk, back := false }
    else if !rx && !tx then s.setMuted p false
    else s
  s.setAport p (fun a => { a with
    rxRun := rx
    txRun := tx
    fifo := if rx && !starts then a.fifo else []
    refill := a.refill || starts
    cur := if rx then a.cur else []
    fresh := if rx && !starts then a.fresh else []
    txFifo := if !tx then [] else if a.txRun then a.txFifo else List.replicate (s.fld (Adr.APORT_TLEVEL p) 4 0) (s.apZero p)
    txNow := if tx then a.txNow else []
    txHold := if tx then a.txHold else []
    fetched := if tx then a.fetched else []
    frame := if tx then a.frame else [] })

/-- The port sample of a receive direction is latched (R173, R325, R326). DEDUCED (log 74, not safe). -/
def State.apLatch (s : State) (p : Nat) (rx : List Int) : State :=
  let a := s.aport p
  if !a.rxRun then s
  else
    let tl := s.fld (Adr.APORT_TLEVEL p) 4 0
    let s :=
      if s.apMuted p then s.setAport p (fun a => { a with cur := s.apZero p })
      else if !s.apSlave p then s.setAport p (fun a => { a with cur := a.fresh, fresh := s.apSample p rx })
      else if a.refill then
        (if tl ≤ a.fifo.length then
          let l := a.fifo.drop (a.fifo.length - tl)
          s.setAport p (fun a => { a with cur := l.getD 0 [], fifo := l.drop 1, refill := false })
        else s)
      else match a.fifo with
        | [] => (s.setAport p (fun a => { a with refill := true })).count (Adr.APORT_UNDER p)
        | x :: t => s.setAport p (fun a => { a with cur := x, fifo := t })
    if s.flag (Adr.APORT_CTL p) 4 then s.rxRing p (s.apSample p (s.aport p).cur) else s

/-- What output slots 12 to 27 send to a port, by the map that the run used (R172 to R174). -/
def State.apSlots (s : State) (p : Nat) : List Int :=
  let hit (c : Nat) : Int :=
    match (List.range 16).find? (fun i =>
        let w := s.spe.outMap.getD i 0
        let code := bits w 2 0
        code ≠ 0 && bits w 6 3 = c && (if code ≤ 4 then code - 1 = p else code + 1 = p)) with
    | some i => s.spe.out.getD (12 + i) 0
    | none => 0
  (List.range (s.apCh p)).map hit

/-- The words that a BPT sends from the next block on (R337). -/
def State.csApply (s : State) (p : Nat) : State :=
  let cs := (List.range 12).map (fun k => s.reg (Adr.APORT_CS p k))
  let ub := (List.range 12).map (fun k => s.reg (Adr.APORT_UB p k))
  s.setAport p (fun a => { a with csNow := cs ++ ub, csPend := false })

/-- The 24 channel-status bytes of channel c (0 A, 1 B) that a BPT sends: with CRCGEN, byte 23 of a professional block is its check code
(R337). -/
def State.csSent (s : State) (p c : Nat) : List Byte :=
  let l := (((s.aport p).csNow.drop (6 * c)).take 6).flatMap (natLE 4)
  if s.flag (Adr.APORT_CSCTL p) 1 && bit (byteAt l 0) 0 then l.take 23 ++ natLE 1 (crcCs (l.take 23)) else l

/-- Bit k of a list of bytes, bit 0 of each byte first. -/
def blockBit (l : List Byte) (k : Nat) : Bool := bit (byteAt l (k / 8)) (k % 8)

/-- The even parity of bits 4 to 30 of a subframe (R334, R337). PRESUMED (log 128, not safe). -/
def parity27 (w : Nat) : Bool := (List.range 27).foldl (fun b i => b != bit w (4 + i)) false

/-- The subframe of channel c of port sample m that a BPT sends (R334, R337): sample in bits 4 to 27, then V, U, C and P; Z at a block
start, X and Y elsewhere. PRESUMED (log 128, not safe). -/
def State.bptSubframe (s : State) (p c m : Nat) (x : Int) : Subframe :=
  let k := m % 192
  let ub := (((s.aport p).csNow.drop (12 + 6 * c)).take 6).flatMap (natLE 4)
  let w := ux 24 x * 2 ^ 4 + b2n (s.flag (Adr.APORT_CSCTL p) (2 + c)) * 2 ^ 28 + b2n (blockBit ub k) * 2 ^ 29 +
    b2n (blockBit (s.csSent p c) k) * 2 ^ 30
  ⟨if c = 1 then .y else if k = 0 then .z else .x, BitVec.ofNat 32 (putBit w 31 (parity27 w))⟩

/-- The frame of port sample m, of the samples in txNow, starts on a BPT; CSUPD acts at a block start (R325, R337). -/
def State.bptFrame (s : State) (p m : Nat) : State :=
  let s := if (s.aport p).csPend && m % 192 = 0 then s.csApply p else s
  if (s.aport p).txRun then
    s.setAport p (fun a => { a with frame := (List.range 2).map (fun c => s.bptSubframe p c m (a.txNow.getD c 0)) })
  else s

/-- A transmit direction at the presentation boundary of sample n; zeros while the sinks carry safe values (R286, R402). -/
def State.apPresent (s : State) (p n : Nat) (live : Bool) : State :=
  let a := s.aport p
  let ring := s.flag (Adr.APORT_CTL p) 5
  let x := if !live then s.apZero p else if ring then a.fetched else s.apSlots p
  let x := s.apSample p x
  let s := if !a.txRun then s
    else if s.apSlave p then
      (if s.apMuted p then s
      else if 32 ≤ a.txFifo.length then s.count (Adr.APORT_OVER p)
      else s.setAport p (fun a => { a with txFifo := a.txFifo ++ [x] }))
    else s.setAport p (fun a => { a with txNow := a.txHold, txHold := x })
  let s := if p = 6 || p = 7 then s.bptFrame p (n - 1) else s
  if a.txRun && ring then s.txRing p else s

/-- Whether a port drives output balls by its own clock (R341): a transmit direction, and BCLK and FS of a master. -/
def State.apDrives (s : State) (p : Nat) : Bool :=
  s.apSupplied && ((s.aport p).txRun || ((s.aport p).rxRun && !s.apSlave p))

/-- The audio ports at a sample boundary, before the SPE runs: enables, unmutes, presentation of sample n, latches, read-back (R325, R328,
R341). -/
def State.apBoundary (s : State) (n : Nat) (live : Bool) (rx : List (Nat × List S24)) (readback : List Nat) : State :=
  let s := (List.range 8).foldl (fun s p => s.apEnables p) s
  let s := (List.range 9).foldl (fun s p => s.clockUnmute p) s
  let s := (List.range 8).foldl (fun s p => s.apPresent p n live) s
  let s := (List.range 6).foldl (fun s p => s.apLatch p (((Sp.find rx p).getD []).map (·.toInt))) s
  readback.foldl (fun s p => if s.apDrives p then s.noteErr (2 + p) else s) s

/-- The sample that SPE input slot 32 + i takes (R173). -/
def State.apInput (s : State) (i : Nat) : Int :=
  let w := s.reg (Adr.SPE_INMAP (32 + i))
  let code := bits w 2 0
  if code = 0 || code = 7 then 0
  else
    let p := code - 1
    if (s.aport p).rxRun && bits w 6 3 < s.apCh p && !s.apRetired p then (s.aport p).cur.getD (bits w 6 3) 0 else 0

/-! ### Biphase blocks (R335) -/

/-- A channel's 24 status bytes pass the check: consumer, or professional with a matching code. DEDUCED (log 75, not safe). -/
def csGood (l : List Byte) : Bool := !bit (byteAt l 0) 0 || crcCs (l.take 23) = byteAt l 23

/-- A block completes on BPR p (port code 4 or 5); channel A's 24 bytes come before channel B's. DEDUCED (log 75, not safe). -/
def State.csBlockOn (s : State) (p : Nat) (cs ub : List Byte) : State :=
  if !(s.aport p).rxRun || s.apMuted p || !s.apSupplied then s
  else
    let s := s.setFlag (Adr.APORT_STAT p) 7 (bit (byteAt cs 0) 0)
    if !(csGood (cs.take 24) && csGood (cs.drop 24)) then s.count (Adr.APORT_CSCRC p)
    else
      let new := (List.range 12).map (fun k => leAt cs (4 * k) 4)
      let old := (List.range 12).map (fun k => s.reg (Adr.APORT_CS p k))
      let s := (List.range 12).foldl (fun s k =>
        (s.setReg (Adr.APORT_CS p k) (new.getD k 0)).setReg (Adr.APORT_UB p k) (leAt ub (4 * k) 4)) s
      let s := s.setFld (Adr.APORT_STAT p) 31 24 (s.fld (Adr.APORT_STAT p) 31 24 + 1)
      if new = old then s else (s.setFlag (Adr.APORT_STAT p) 8 true).apPost 0x05 p 0 0 0

/-! ### The buffer-level loop (R339, R340) -/

/-- The loop's source cannot be used: muted, stopped or retired. -/
def State.loopDead (s : State) : Bool :=
  let src := s.fld Adr.APORT_LOOPCTL 4 1
  if src = 8 then s.apMuted 8 else s.apMuted src || s.apRetired src || !(s.aport src).rxRun

/-- Distance of the level or phase from its target, in ticks. -/
def State.loopError (s : State) : Int :=
  let src := s.fld Adr.APORT_LOOPCTL 4 1
  if src = 8 then (s.aports.wphase : Int) - (s.fld Adr.APORT_LOOPCTL 15 7 : Nat)
  else
    let a := s.aport src
    ((a.fifo.length * s.spt + (s.clk - a.clk.since) : Nat) : Int) - ((s.fld (Adr.APORT_TLEVEL src) 4 0 * s.spt : Nat) : Int)

/-- The largest PULL, 250 ppm in units of 2^-6 ppm. -/
def pullMax : Int := 16000

/-- The loop's registers and state while it does not act. -/
def State.loopOff (s : State) : State :=
  { s.setReg Adr.APORT_LOOPSTAT 0 with aports := { s.aports with limitAt := none, release := none, relDead := false, integ := 0 } }

/-- The pull of a proportional-integral loop for an error e and the sum of errors, in units of 2^-6 ppm, within ±250 ppm: the spec gives the
bandwidth alone, so both gains and the rounding are free. DESIGN CHOICE (log 86, safe). -/
def loopPull (bw : Nat) (e sum : Int) : Int :=
  let x := Config.loopKp bw * e + Config.loopKi bw * sum
  let p := if Config.roundUp x then x.ceil else x.floor
  if pullMax < p then pullMax else if p < -pullMax then -pullMax else p

/-- The loop pulls (R339): a level or phase above its target needs a faster trail clock. -/
def State.loopActs (s : State) : State :=
  if s.loopDead then s
  else
    let e := s.loopError
    let sum := s.aports.integ + e
    let p := loopPull (s.fld Adr.APORT_LOOPCTL 6 5) e sum
    let at_ : Bool := p = pullMax || p = -pullMax
    let s := { s with aports := { s.aports with
      integ := sum
      limitAt := if at_ then (if s.aports.limitAt.isSome then s.aports.limitAt else some s.clk) else none } }
    let near := decide (-((s.spt / 16 : Nat) : Int) ≤ e ∧ e ≤ ((s.spt / 16 : Nat) : Int))
    (s.setFld Adr.APORT_LOOPSTAT 15 0 (ux 16 p)).setFlag Adr.APORT_LOOPSTAT 16 near

/-- The pull a time of d clock ticks after a release at p: towards 0 at 1 ppm a second (R340). -/
def State.pullBack (s : State) (p : Int) (d : Nat) : Int :=
  let k : Int := (64 * d / s.baseHz : Nat)
  if p < 0 then (if p + k < 0 then p + k else 0) else (if 0 < p - k then p - k else 0)

/-- The loop at a boundary (R339, R340): after a release it pulls in again once its source has been dead and is unmuted.
DESIGN CHOICE (log 86, safe). -/
def State.loopStep (s : State) : State :=
  if !s.flag Adr.APORT_LOOPCTL 0 || !s.flag Adr.TRAIL_STAT 4 then s.loopOff
  else match s.aports.release with
    | none => s.loopActs
    | some (p0, t) =>
      if s.aports.relDead && !s.loopDead then
        let s := s.setFlag Adr.APORT_LOOPSTAT 17 false
        { s with aports := { s.aports with release := none, relDead := false, integ := 0 } }.loopActs
      else
        let s := { s with aports := { s.aports with limitAt := none, relDead := s.aports.relDead || s.loopDead } }
        (s.setFld Adr.APORT_LOOPSTAT 15 0 (ux 16 (s.pullBack p0 (s.clk - t)))).setFlag Adr.APORT_LOOPSTAT 16 false

/-- LOOP_RELEASE (R340). -/
def State.loopReleaseOn (s : State) : State :=
  if s.flag Adr.APORT_LOOPCTL 0 && s.flag Adr.TRAIL_STAT 4 && s.aports.release.isNone &&
      (s.loopDead || (match s.aports.limitAt with | some t => s.elapsed t (s.msTicks 10000) | none => false)) then
    let p := sx 16 (s.fld Adr.APORT_LOOPSTAT 15 0)
    let s := { s with aports := { s.aports with release := some (p, s.clk), relDead := s.loopDead } }
    ((s.setFlag Adr.APORT_LOOPSTAT 17 true).setFlag Adr.APORT_LOOPSTAT 16 false).apPost 0x06 (s.fld Adr.APORT_LOOPCTL 4 1) 0 0 0
  else s

/-- A rising edge on WCLK (R327, R339). -/
def State.wclkOn (s : State) (period toBoundary : Nat) : State :=
  if s.inserted && s.apSupplied then
    let s := (s.measure 8 period).2
    { s with aports := { s.aports with wphase := toBoundary } }
  else s

/-! ### Register checks (R324, R329, R331, R339, R341, R343) -/

/-- A direction's ring lies in the Basin (R329): base register, control register, and the format bit of APORT_CTL. -/
def State.apRingStatus (s : State) (p base ctl fmt : Nat) : Nat :=
  let b := s.fld base 23 0
  firstFail [
    (s.apCell p fmt = 4 && b % 4 ≠ 0, St.align),
    (basinSize < b + s.apLen ctl * (s.apCell p fmt * s.apCh p), St.range)]

/-- The rules of an EN write and of path and format changes (R324, R329, R341). -/
def State.apCtlStatus (s : State) (p v : Nat) : Nat :=
  let c := s.reg (Adr.APORT_CTL p)
  let f := s.reg (Adr.APORT_FMT p)
  let en := bit c 0
  let formatBad := p < 4 && (bits f 8 4 = 0 || 16 < bits f 8 4 || bits f 13 9 = 0 || bits f 8 4 < bits f 13 9 ||
    (bits f 1 0 < 2 && bits f 8 4 ≠ 2) || 24576000 < s.rateHz * bits f 8 4 * apWidth (bits f 3 2))
  firstFail [
    (bit v 0 && formatBad, St.range),
    (p < 4 && en && bit v 1 ≠ bit c 1, St.mode),
    (en && bit c 2 && p ≠ 6 && p ≠ 7 && (bit v 4 ≠ bit c 4 || bit v 6 ≠ bit c 6), St.mode),
    (en && bit c 3 && p ≠ 4 && p ≠ 5 && (bit v 5 ≠ bit c 5 || bit v 7 ≠ bit c 7), St.mode),
    (bit v 0 && s.apRetired p, St.retired)]

/-- The status of a write of v to a register of port p, after the general checks; a field that does not apply to the port kind is reserved in
the register map (R343). DEDUCED (log 73, not safe). -/
def State.apRegStatus (s : State) (p o v : Nat) : Nat :=
  let en := s.flag (Adr.APORT_CTL p) 0
  let rxOn := en && s.flag (Adr.APORT_CTL p) 2
  let txOn := en && s.flag (Adr.APORT_CTL p) 3
  let hasRx := p < 6
  let hasTx := p ≠ 4 && p ≠ 5
  if o = 0x00 then s.apCtlStatus p v
  else if o = 0x04 && p < 4 then
    firstFail [
      (bits v 1 0 = 3 || bits v 3 2 = 3, St.reserved),
      (en && v % 2 ^ 15 ≠ s.fld (Adr.APORT_FMT p) 14 0, St.mode)]
  else if o = 0x10 && hasRx then firstFail [(rxOn && v % 2 ^ 24 ≠ s.fld (Adr.APORT_RXBASE p) 23 0, St.mode)]
  else if o = 0x20 && hasTx then firstFail [(txOn && v % 2 ^ 24 ≠ s.fld (Adr.APORT_TXBASE p) 23 0, St.mode)]
  else if o = 0x14 && hasRx then firstFail [(bits v 3 0 < 2 || 12 < bits v 3 0, St.range),
    (rxOn && bits v 3 0 ≠ s.fld (Adr.APORT_RXRCTL p) 3 0, St.mode)]
  else if o = 0x24 && hasTx then firstFail [(bits v 3 0 < 2 || 12 < bits v 3 0, St.range),
    (txOn && bits v 3 0 ≠ s.fld (Adr.APORT_TXRCTL p) 3 0, St.mode)]
  else if o = 0x28 && hasTx then
    firstFail [(let g := ringGap v (s.reg (Adr.APORT_TXRD p)); g < 32768 && s.apLen (Adr.APORT_TXRCTL p) < g, St.range)]
  else if o = 0x30 && hasRx then firstFail [(bits v 4 0 = 0, St.range)]
  else 0

/-- The status of a write of v to APORT_LOOPCTL. -/
def State.loopStatus (s : State) (v : Nat) : Nat :=
  let src := bits v 4 1
  firstFail [
    (bit v 0 && !s.flag Adr.TRAIL_STAT 4, St.role),
    (src = 6 || src = 7 || 9 ≤ src || bits v 6 5 = 3, St.reserved),
    (bit v 0 && src < 4 && !s.apSlave src, St.mode)]

/-- The rules over several words of port p: its rings' alignment and extent (R329, R458). DEDUCED (log 73, not safe). -/
def State.apRules (s : State) (p : Nat) : List (List Nat × Nat × Bool) :=
  let rx := s.apRingStatus p (Adr.APORT_RXBASE p) (Adr.APORT_RXRCTL p) 6
  let tx := s.apRingStatus p (Adr.APORT_TXBASE p) (Adr.APORT_TXRCTL p) 7
  [([Adr.APORT_CTL p, Adr.APORT_FMT p, Adr.APORT_RXBASE p, Adr.APORT_RXRCTL p], rx, rx ≠ 0),
   ([Adr.APORT_CTL p, Adr.APORT_FMT p, Adr.APORT_TXBASE p, Adr.APORT_TXRCTL p], tx, tx ≠ 0)]

/-! ### Rows that only the ports' own state decides -/

/-- CLKSTOP (R328). -/
def execClkstop (p : Fin 9) (s : State) : Out := s.run fun s => (s.clockStopOn p.val)
/-- RATECHG (R328). -/
def execRatechg (p : Fin 9) (s : State) : Out := s.run fun s => (s.rateChangeOn p.val)
/-- CLKBACK (R328). -/
def execClkback (p : Fin 9) (s : State) : Out := s.run fun s => (s.clockBackOn p.val)
/-- TX_FRAME_START (R326). -/
def execTxFrameStart (p : Fin 4) (s : State) : Out := s.run fun s => (s.sapTxStart p.val)
/-- CS_BLOCK (R335). -/
def execCsBlock (p : Fin 2) (cs ub : List Byte) (s : State) : Out :=
  if cs.length ≠ 48 || ub.length ≠ 48 then .fault .illFormed else s.run fun s => (s.csBlockOn (4 + p.val) cs ub)
/-- LOOP_RELEASE (R340). -/
def execLoopRelease (s : State) : Out := s.run fun s => s.loopReleaseOn
/-- WCLK_EDGE (R327). -/
def execWclkEdge (period toBoundary : Nat) (s : State) : Out := s.run fun s => (s.wclkOn period toBoundary)

end Sys2Proof.Machine
end

