-- ==== Sys2Proof/Machine/Analogue.lean ====
section
/-!
DEFINITION. Audio DACs and control outputs (R344 to R362): mute switches and gains, sources and targets, the slew limiter, range sequences,
output faults and the registers' checks.
-/
namespace Sys2Proof.Machine

/-- A record on the ANA source (R361) of an event at trail time t, with the time of the boundary at or before it. -/
def State.anaPostAt (s : State) (code channel status value t : Nat) : State :=
  s.post 8 (record16 code channel status 0 value (t / s.spt * s.spt))

/-- A record on the ANA source (R361) of an event now. DEDUCED (log 127, not safe). -/
def State.anaPost (s : State) (code channel status value : Nat) : State := s.anaPostAt code channel status value s.time

/-! ### Audio DACs (R344 to R347) -/

/-- DAC channel c. -/
def State.dac (s : State) (c : Nat) : Dac := s.ana.dacs.getD c Dac.closed

/-- DAC channel c changed. -/
def State.setDac (s : State) (c : Nat) (d : Dac) : State := { s with ana := { s.ana with dacs := s.ana.dacs.set c d } }

/-- The node is in RUN for the DACs (R346): from the first presented sample until a command that leaves RUN is accepted. -/
def State.dacRun (s : State) : Bool := s.presents && s.power.trans.isNone && !s.power.held

/-- The conditions that keep channel c open (R346). -/
def State.dacCond (s : State) (c : Nat) : Bool := !s.flag Adr.ADAC_CTL c && s.dacRun && !s.retired (10 + c)

/-- Channel c at a presentation boundary (R346): a hard realignment sets the gain to 0, and the sample presented as its mute ends leaves at
gain 0, as at an unmute. -/
def State.dacBoundary (s : State) (c : Nat) : State :=
  let d := s.dac c
  let x := s.spe.out.getD c 0
  let muted := 2 ≤ s.trail.realign
  let d' : Dac :=
    if muted then { d with gain := 0, held := true }
    else if s.dacCond c then
      (if d.held then { d with held := false } else if d.opened then { d with gain := Nat.min 64 (d.gain + 1) } else { d with opened := true, gain := 0 })
    else if d.opened then (if d.gain = 0 then { d with opened := false, held := false } else { d with gain := d.gain - 1 })
    else { d with held := false }
  s.setDac c { d' with x := if muted then 0 else x }

/-- The mute switch closes after a fall (R346). -/
def State.dacClose (s : State) (c : Nat) : State :=
  if (s.dac c).opened && (s.dac c).gain = 0 && !s.dacCond c && s.trail.realign < 2 then s.setDac c { s.dac c with opened := false } else s

/-- ADAC_STAT. -/
def State.adacStat (s : State) : Nat :=
  let opens := maskOf ((List.range 4).filter (fun c => (s.dac c).opened))
  let fading := maskOf ((List.range 4).filter (fun c =>
    (s.dac c).opened && (if s.dacCond c then (s.dac c).gain < 64 else true) && s.trail.realign < 2))
  let ret := maskOf ((List.range 4).filter (fun c => s.retired (10 + c)))
  opens + 16 * fading + 256 * ret

/-- The status of a write to ADAC_CTL (R360). -/
def State.adacStatus (s : State) (v : Nat) : Nat :=
  firstFail [((List.range 4).any (fun c => s.retired (10 + c) && s.flag Adr.ADAC_CTL c && !bit v c), St.retired)]

/-! ### Control outputs (R348 to R357) -/

/-- Control output c. -/
def State.cout (s : State) (c : Nat) : Cout := s.ana.couts.getD c Cout.off

/-- Control output c changed. -/
def State.setCout (s : State) (c : Nat) (d : Cout) : State := { s with ana := { s.ana with couts := s.ana.couts.set c d } }

/-- Zero code of a range (Table AO-2). -/
def zeroCode (range : Nat) : Nat := if range = 2 then 32768 else 0

/-- Full-scale current of a range in mA (R350). -/
def rangeMa (range : Nat) : Nat := if range = 3 then 24 else if range = 4 then 6 else 0

/-- RANGE of channel c as written. -/
def State.coutRange (s : State) (c : Nat) : Nat := s.fld (Adr.COUT_CTL c) 2 0

/-- Current in use, with channel c counted at range r instead of its own (R350). -/
def State.capWith (s : State) (c r : Nat) : Nat :=
  (List.range 8).foldl (fun t k => t + (if s.retired (14 + k) then 0 else rangeMa (if k = c then r else s.coutRange k))) 0

/-- COUT_CAP.MA. -/
def State.capNow (s : State) : Nat := s.capWith 8 0

/-- A range sequence runs or waits for its boundary (R354); a retired channel has none. DEDUCED (log 83, not safe). -/
def State.coutBusy (s : State) (c : Nat) : Bool :=
  !s.retired (14 + c) && ((s.cout c).seq ≠ .none || (s.inserted && s.coutRange c ≠ (s.cout c).range))

/-- The slew step of channel c: size and interval in ticks (R353, R354). -/
def State.slew (s : State) (c : Nat) : Nat × Nat :=
  let on := s.flag (Adr.COUT_CTL c) 8
  let us := if on then s.fld (Adr.COUT_SLEW c) 27 16 + 1 else 1
  (if on then s.fld (Adr.COUT_SLEW c) 15 0 else 256, (2 * us * s.baseHz + 1000000) / 2000000)

/-- x moved towards t by at most n. -/
def moveTo (x t n : Nat) : Nat := if x < t then Nat.min t (x + n) else Nat.max t (x - n)

/-- A range sequence ends at trail time t: RANGEDONE (R354). -/
def State.rangeDone (s : State) (c t : Nat) : State :=
  let s := s.setCout c { s.cout c with seq := .none }
  s.anaPostAt 0x04 (8 + c) 0 (s.cout c).out t

/-- The channel is disconnected at trail time t (R354). -/
def State.disconnect (s : State) (c t : Nat) : State :=
  (s.setCout c { s.cout c with range := 0, out := 0, target := 0 }).rangeDone c t

/-- The clamp of a range change ends at trail time t: the output starts at the new range's zero code; RANGE 0, written in the clamp,
disconnects it. -/
def State.clampEnd (s : State) (c t : Nat) : State :=
  match (s.cout c).seq with
  | .clamp _ =>
    let r := s.coutRange c
    if r = 0 then s.disconnect c t
    else
      let s := s.setCout c { s.cout c with range := r, out := zeroCode r, seq := .toTarget }
      if zeroCode r = (s.cout c).target then s.rangeDone c t else s
  | _ => s

/-- The longest clamp, 2 µs, in whole ticks (R354). -/
def State.clampTicks (s : State) : Nat := 2 * s.baseHz / 1000000

/-- A clamp that has lasted 2 µs by trail time t ends. DEDUCED (log 83, not safe). -/
def State.clampDue (s : State) (c t : Nat) : State :=
  match (s.cout c).seq with
  | .clamp since => if since + s.clampTicks ≤ t then s.clampEnd c (since + s.clampTicks) else s
  | _ => s

/-- The output stands at the zero code of the old range at trail time t: it is clamped, or disconnected where RANGE is 0 (R354). -/
def State.atOldZero (s : State) (c t : Nat) : State :=
  if s.coutRange c = 0 then s.disconnect c t else s.setCout c { s.cout c with seq := .clamp t }

/-- One step of channel c at the step instant t (R353, R354). -/
def State.stepAt (s : State) (c t : Nat) : State :=
  let s := s.clampDue c t
  let d := s.cout c
  let n := (s.slew c).1
  let s := match d.seq with
    | .toZero =>
      let o := moveTo d.out (zeroCode d.range) n
      let s := s.setCout c { d with out := o }
      if o = zeroCode d.range then s.atOldZero c t else s
    | .clamp _ => s
    | .toTarget =>
      let o := moveTo d.out d.target n
      let s := s.setCout c { d with out := o }
      if o = d.target then s.rangeDone c t else s
    | .none =>
      if d.range ≠ 0 && s.flag (Adr.COUT_CTL c) 8 then s.setCout c { d with out := moveTo d.out d.target n } else s
  s.setCout c { s.cout c with nextStep := t + 1 }

/-- The step instants of channel c from its next one up to, not including, trail time t are made, and a clamp that is over by then ends. -/
def State.stepsTo (s : State) (c t : Nat) : State :=
  let l := Nat.max 1 (s.slew c).2
  let first := (Nat.max (s.cout c).nextStep (t - 1024) + l - 1) / l
  ((List.range ((t + l - 1) / l - first)).foldl (fun s i => s.stepAt c ((first + i) * l)) s).clampDue c t

/-- The step instant at the present trail time, if it is one and has not been made. DESIGN CHOICE (log 48, safe). -/
def State.stepNow (s : State) (c : Nat) : State :=
  let l := Nat.max 1 (s.slew c).2
  if s.inserted && s.time % l = 0 && (s.cout c).nextStep ≤ s.time then s.stepAt c s.time else s

/-- Trail time t is set (R282, R286): the step instants go on from there, and a clamp keeps the time it has lasted (R353, R354). -/
def State.coutsRetime (s : State) (t : Nat) : State :=
  if t = s.time then s
  else { s with ana := { s.ana with couts := s.ana.couts.map (fun d =>
    { d with nextStep := t, seq := match d.seq with | .clamp since => .clamp (t - (s.time - since)) | q => q }) } }

/-- The code that source SRC hands over for a range (R351). -/
def coutCode (range : Nat) (x : Int) : Nat := if range = 2 then (x / 256 + 32768).toNat else (max x 0 / 128).toNat

/-- The target of channel c at a boundary (R351, R352, R357). -/
def State.coutTarget (s : State) (c : Nat) : State :=
  let d := s.cout c
  let src := s.fld (Adr.COUT_CTL c) 4 3
  let presents := s.presents
  let put (t : Nat) (sourced : Bool) : State := s.setCout c { d with target := t, sourced := d.sourced || sourced }
  if 2 ≤ s.trail.realign then s
  else if src = 0 then
    (if d.sourced || d.coded then put (s.fld (Adr.COUT_CODE c) 15 0) true else put (s.fld (Adr.COUT_PON c) 15 0) false)
  else if s.inRun then
    (if presents then
      put (if src = 1 then coutCode (s.coutRange c) (s.spe.out.getD (4 + c) 0)
        else s.voice.lightPrev.getD (s.fld (Adr.COUT_CTL c) 7 5) 0) true
    else if d.sourced then s else put (s.fld (Adr.COUT_PON c) 15 0) false)
  else put (s.fld (Adr.COUT_PON c) 31 16) false

/-- Channel c at a sample boundary: an accepted range change starts, the target is set, and without the limiter the output takes it (R353, R354). A sequence that starts makes no step at the boundary itself (Table AO-3). -/
def State.coutBoundary (s : State) (c : Nat) : State :=
  let d := s.cout c
  let r := s.coutRange c
  let s := if d.range = 0 && r ≠ 0 && d.seq = .none && !s.retired (14 + c) then
      s.setCout c { d with seq := .clamp s.time, sourced := false, nextStep := s.time + 1 }
    else if d.range ≠ 0 && r ≠ d.range && (d.seq = .none || d.seq = .toTarget) then
      (let s := s.setCout c { d with seq := .toZero, nextStep := s.time + 1 }
      if d.out = zeroCode d.range then s.atOldZero c s.time else s)
    else s
  if (s.cout c).range = 0 && (s.cout c).seq = .none then s
  else
    let s := s.coutTarget c
    let d := s.cout c
    if d.seq = .none && d.range ≠ 0 && !s.flag (Adr.COUT_CTL c) 8 then s.setCout c { d with out := d.target } else s

/-- Every control output goes off (R355). -/
def State.coutsOff (s : State) : State := { s with ana := { s.ana with couts := List.replicate 8 Cout.off } }

/-- COUT_STATc. -/
def State.coutStat (s : State) (c : Nat) : Nat :=
  let d := s.cout c
  let atZero := d.range = 0 || d.out = zeroCode d.range
  d.out + (if d.seq ≠ .none then 2 ^ 16 else 0) + (if atZero then 2 ^ 17 else 0) + (if d.out = d.target then 2 ^ 18 else 0) +
    (if s.flag (Adr.COUT_STAT c) 19 then 2 ^ 19 else 0) + (if s.retired (14 + c) then 2 ^ 20 else 0)

/-- The status of a write of v to COUT_CTLc (R349, R350, R354, R360, R362). -/
def State.coutStatus (s : State) (c v : Nat) : Nat :=
  let r := bits v 2 0
  let old := s.coutRange c
  let d := s.cout c
  let changes := r ≠ old
  let between := changes && r ≠ 0 && old ≠ 0
  let cross := (old ≤ 2) ≠ (r ≤ 2)
  let atZero := d.out = zeroCode d.range
  firstFail [
    (5 ≤ r || bits v 4 3 = 3, St.reserved),
    ((r = 1 || r = 2) && !s.ana.vdda28, St.range),
    (changes && 96 < s.capWith c r, St.range),
    (between && cross && !atZero, St.mode),
    (changes && r ≠ 0 && s.coutBusy c, St.busy),
    (r ≠ 0 && s.retired (14 + c), St.retired)]

/-- A write of v to COUT_CTLc takes effect: a change from RANGE 0 enables the channel, so its target is not yet set (R352). -/
def State.coutWrite (s : State) (c v : Nat) : State :=
  let d := s.cout c
  let s := if s.coutRange c = 0 && bits v 2 0 ≠ 0 then s.setCout c { d with sourced := false, coded := false } else s
  s.setReg (Adr.COUT_CTL c) v

/-- A write of COUT_CODEc is made. -/
def State.coutCoded (s : State) (c v : Nat) : State :=
  (s.setCout c { s.cout c with coded := true }).setReg (Adr.COUT_CODE c) v

/-! ### Output faults (R358, R359) -/

/-- Unit number of an output (Table FE-1). -/
def outUnit : OutUnit → Nat
  | .aout c => 10 + c.val
  | .cout c => 14 + c.val

/-- A current limit active for 1 ms (Table AO-4). -/
def State.outputShort (s : State) : OutUnit → State
  | .aout c =>
    if (s.dac c.val).opened && !s.retired (10 + c.val) then (s.anaPost 0x03 c.val 0 0).noteErr (10 + c.val) else s
  | .cout c =>
    let r := (s.cout c.val).range
    if (r = 1 || r = 2) && !s.retired (14 + c.val) then (s.anaPost 0x03 (8 + c.val) 0 0).noteErr (14 + c.val) else s

/-- The ball stands at its compliance limit for 100 µs (Table AO-4). -/
def State.complOn (s : State) (c : Nat) : State :=
  let d := s.cout c
  if (d.range = 3 || d.range = 4) && !s.flag (Adr.COUT_STAT c) 19 && !s.retired (14 + c) && 65535 < 100 * d.out then
    let s := (s.setCout c { d with complAt := s.clk }).setFlag (Adr.COUT_STAT c) 19 true
    ((s.raise Cause.ana).anaPost 0x01 (8 + c) 0 d.out).noteErr (14 + c)
  else s

/-- The condition has been absent for 100 µs (R359). -/
def State.complOff (s : State) (c : Nat) : State :=
  if s.flag (Adr.COUT_STAT c) 19 then (s.setFlag (Adr.COUT_STAT c) 19 false).anaPost 0x02 (8 + c) 0 0 else s

/-- The condition has lasted 1 s (R359): COMPL stood since 100 µs after it began. -/
def State.complLong (s : State) (c : Nat) : Bool :=
  s.flag (Adr.COUT_STAT c) 19 && (s.cout c).complAt + s.msTicks 1000 ≤ s.clk + s.usTicks 100

/-! ### Rows that only the outputs' own state decides -/

/-- DAC_FADE_END (R346). -/
def execDacFadeEnd (c : Fin 4) (s : State) : Out := s.run fun s => (s.dacClose c.val)
/-- SLEW_STEP (R353). -/
def execSlewStep (c : Fin 8) (s : State) : Out := s.run fun s => (s.stepNow c.val)
/-- RANGE_CLAMP_END (R354). -/
def execRangeClampEnd (c : Fin 8) (s : State) : Out := s.run fun s => (s.clampEnd c.val s.time)
/-- COMPLCLR (R359). -/
def execComplclr (c : Fin 8) (s : State) : Out := s.run fun s => (s.complOff c.val)

end Sys2Proof.Machine
end

