-- ==== Sys2Proof/Machine/Dispatcher.lean ====
section
/-!
DEFINITION. The Dispatcher (chapter 07): descriptors, pegs, ends of items and their records, cancellation, dispatch, instantiation from
source rings, and the commands of DSP_CMD and DSP_DSEL.
-/
namespace Sys2Proof.Machine

/-! ### Descriptors -/

/-- A descriptor from its 32-byte image (Table DP-1), STATE, ORIGIN and QENTRY left 0. -/
def Desc.ofImage (b : List Byte) : Desc :=
  { entry := leAt b 0x00 4, arg := leAt b 0x04 4, budget := leAt b 0x08 4, ctl := byteAt b 0x0C, pegs := byteAt b 0x0D,
    affinity := byteAt b 0x0E, st := 0, succ0 := leAt b 0x10 2, succ1 := leAt b 0x12 2, slist := leAt b 0x14 4,
    slcount := leAt b 0x18 2, tag := leAt b 0x1A 2, origin := 0, qentry := 0 }

/-- The 32 bytes of a descriptor as the store holds them (R212). -/
def Desc.image (d : Desc) : List Byte :=
  natLE 4 d.entry ++ natLE 4 d.arg ++ natLE 4 d.budget ++ natLE 1 d.ctl ++ natLE 1 d.pegs ++ natLE 1 d.affinity ++
  natLE 1 d.st ++ natLE 2 d.succ0 ++ natLE 2 d.succ1 ++ natLE 4 d.slist ++ natLE 2 d.slcount ++ natLE 2 d.tag ++
  natLE 1 d.origin ++ [0] ++ natLE 2 d.qentry

/-- PRIO. -/
def Desc.prio (d : Desc) : Nat := bits d.ctl 2 0
/-- CASCADE. -/
def Desc.cascade (d : Desc) : Bool := bit d.ctl 3
/-- NOTIFY. -/
def Desc.notify (d : Desc) : Bool := bit d.ctl 4
/-- HEART. -/
def Desc.heart (d : Desc) : Bool := bit d.ctl 5
/-- TEMPLATE. -/
def Desc.template (d : Desc) : Bool := bit d.ctl 6

/-- The direct successors that are VALID, in order (R216). -/
def Desc.direct (d : Desc) : List Nat :=
  (if bit d.succ0 15 then [bits d.succ0 9 0] else []) ++ (if bit d.succ1 15 then [bits d.succ1 9 0] else [])

/-- Whether the descriptor has any successor. -/
def Desc.hasSucc (d : Desc) : Bool := !d.direct.isEmpty || d.slcount ≠ 0

/-- Descriptor i of the store. -/
def State.descAt (s : State) (i : Nat) : Desc := Sp.get (fun _ => Desc.free) s.disp.desc i

/-- Descriptor i set to d. -/
def State.setDesc (s : State) (i : Nat) (d : Desc) : State :=
  { s with disp := { s.disp with desc := Sp.put (fun _ => Desc.free) s.disp.desc i d } }

/-- The number of descriptors that hold completion credit: WAITING, READY or RUNNING (R228). -/
def State.liveItems (s : State) : Nat := (s.disp.desc.filter (fun p => 2 ≤ p.2.st)).length

/-- FREE descriptors (DSP_STAT.NFREE). -/
def State.nFree (s : State) : Nat := 1024 - (s.disp.desc.filter (fun p => p.2.st ≠ 0)).length

/-- The lowest-numbered FREE index. -/
def State.freeIndex (s : State) : Option Nat := (List.range 1024).find? (fun i => (s.descAt i).st = 0)

/-- CQLEN (R228). -/
def State.cqLen (s : State) : Nat := 2 ^ s.fld Adr.DSP_CQCTL 3 0

/-- Records written and not consumed. -/
def State.cqUsed (s : State) : Nat := (s.fld Adr.DSP_CQWR 15 0 + 65536 - s.fld Adr.DSP_CQRD 15 0) % 65536

/-- Completion credit (R228); a record whose list is still being read keeps the unit reserved for it. DEDUCED (log 66, not safe). -/
def State.credit (s : State) : Nat :=
  s.cqLen - s.cqUsed - s.liveItems - (s.disp.recs.filter (·.needed)).length

/-- DSP_STAT (Table DP-9). -/
def State.dspStat (s : State) : Nat :=
  s.nFree + s.disp.ready.length * 2 ^ 16 + (if s.credit = 0 then 2 ^ 27 else 0)

/-- Whether core k is retired (FAULT_RETIRED1). -/
def State.coreRetired (s : State) (k : Nat) : Bool := s.flag Adr.FAULT_RETIRED1 (24 + k)

/-- Core k. -/
def State.coreAt (s : State) (k : Nat) : Core := s.cores.getD k Core.idle

/-- Core k set to c. -/
def State.setCore (s : State) (k : Nat) (c : Core) : State := { s with cores := s.cores.set k c }

/-- Descriptor i becomes READY at the end of its list (R221). -/
def State.makeReady (s : State) (i : Nat) : State :=
  let s := s.setDesc i { s.descAt i with st := 3 }
  { s with disp := { s.disp with ready := s.disp.ready ++ [i] } }

/-! ### Pegs (R215) -/

/-- PEG_UNDERFLOW: counted, and logged at most once a second. -/
def State.pegUnderflow (s : State) (i source : Nat) : State :=
  let s := s.count Adr.DSP_PEGUF
  let due := match s.disp.lastPegLog with
    | none => true
    | some t => s.elapsed t s.baseHz
  if due then
    let (st, s) := s.drawStatus
    let s := s.logFault 0x0B 4 st i source 0
    { s with disp := { s.disp with lastPegLog := some s.clk } }
  else s

/-- Pulls one peg of descriptor i for a source (R215): the status, and the state. An underflow met by a release, source 15, is only counted
(R216). -/
def State.pullPeg (s : State) (i source : Nat) : Nat × State :=
  if 1024 ≤ i then (St.noaddr, s)
  else
    let d := s.descAt i
    if d.st = 0 then (St.noaddr, s)
    else if d.st = 1 then (St.mode, s)
    else if d.st = 2 then
      let s := s.setDesc i { d with pegs := d.pegs - 1 }
      (St.ok, if d.pegs ≤ 1 then s.makeReady i else s)
    else (St.range, if source = 15 then s.count Adr.DSP_PEGUF else s.pegUnderflow i source)

/-! ### Records (R229) -/

/-- The 16 bytes of a completion record (Table DP-6). -/
def EndRec.bytes (r : EndRec) : List Byte :=
  natLE 1 r.endCode ++ natLE 1 r.status ++
  natLE 2 (r.index + r.core * 2 ^ 10 + (if r.held then 2 ^ 14 else 0) + (if r.badsucc then 2 ^ 15 else 0)) ++
  natLE 4 r.pc ++ natLE 2 r.tag ++ natLE 1 r.src ++ natLE 1 r.cause ++ natLE 4 r.cycles

/-- Writes one record at DSP_CQBASE and advances CQWR; cause CQ is set. -/
def State.writeRec (s : State) (r : EndRec) : State :=
  let wr := s.fld Adr.DSP_CQWR 15 0
  let a := s.fld Adr.DSP_CQBASE 23 4 * 16 + 16 * (wr % s.cqLen)
  ((s.basinPut Master.disp 0 a r.bytes).2.setFld Adr.DSP_CQWR 15 0 ((wr + 1) % 65536)).raise Cause.cq

/-- Writes the records of a list that are ready, in end order. -/
def State.writeRecs (s : State) : List EndRec → List EndRec × State
  | [] => ([], s)
  | r :: rs =>
    if r.closed then (if r.needed then s.writeRec r else s).writeRecs rs else (r :: rs, s)

/-- Writes every record whose turn has come. DEDUCED (log 66, not safe). -/
def State.flushRecs (s : State) : State :=
  let r := s.writeRecs s.disp.recs
  { r.2 with disp := { r.2.disp with recs := r.1 } }

/-- Changes the record numbered id. -/
def State.onRec (s : State) (id : Nat) (f : EndRec → EndRec) : State :=
  { s with disp := { s.disp with recs := s.disp.recs.map (fun r => if r.id = id then f r else r) } }

/-! ### Ends of items -/

/-- Descriptor i is FREE, its ring entry free, its place in the ready list gone. -/
def State.freeItem (s : State) (i : Nat) : State :=
  let d := s.descAt i
  let s := { s with disp := { s.disp with ready := s.disp.ready.filter (· ≠ i) } }
  let s := if d.origin < 12 && 2 ≤ d.st then
      let r := s.ring d.origin
      s.setRing d.origin { r with occupied := r.occupied.filter (· ≠ d.qentry) }
    else s
  s.setDesc i Desc.free

/-- One item ends: its record is opened, its successor list, if it is to be read, becomes a job, its descriptor is FREE. The answer
holds the direct successors that a cascade cancels in turn. -/
def State.endOne (s : State) (i endCode status pc core cause cycles : Nat) : List Nat × State :=
  let d := s.descAt i
  let isDone := endCode = 0
  let act := isDone || d.cascade
  let hasList := act && d.slcount ≠ 0
  let running := d.direct.any (fun j => (s.descAt j).st = 4 && j ≠ i)
  let held := !isDone && d.hasSucc && (!d.cascade || running)
  let r : EndRec :=
    { id := s.disp.nextId, closed := !hasList, needed := endCode ≠ 0 || status ≠ 0 || d.notify, endCode := endCode,
      status := status, index := i, core := core, held := held, badsucc := false, pc := pc, tag := d.tag, src := d.origin,
      cause := cause, cycles := cycles }
  let s := s.freeItem i
  let s := { s with disp := { s.disp with
    recs := s.disp.recs ++ [r]
    nextId := s.disp.nextId + 1
    jobs := if hasList then s.disp.jobs ++ [⟨r.id, !isDone, d.slist, d.slcount⟩] else s.disp.jobs } }
  (if !isDone && d.cascade then d.direct else [], s)

/-- Cancels with cause CASCADE the items of a work list that are WAITING or READY, and their own cascades in turn (R218). The first
argument bounds the number of cancellations: each frees a descriptor. -/
def State.cascadeList : Nat → State → List Nat → State
  | 0, s, _ => s
  | _ + 1, s, [] => s
  | n + 1, s, j :: js =>
    let st := (s.descAt j).st
    if st = 2 || st = 3 then
      let r := s.endOne j 0x01 0 0 0xF 2 0
      State.cascadeList n r.2 (js ++ r.1)
    else State.cascadeList n s js

/-- Bound of a cascade: every descriptor once, with its two direct successors. -/
def cascadeFuel : Nat := 4096

/-- Cancels a WAITING or READY item with a cause, and cascades (R218, R219, R222). -/
def State.cancelItem (s : State) (i cause : Nat) : State :=
  let r := s.endOne i 0x01 0 0 0xF cause 0
  (State.cascadeList cascadeFuel r.2 r.1).flushRecs

/-- Whether DONE feeds the watchdog: its count is PERIOD ms again (R230, R416). -/
def State.heartbeat (s : State) : State :=
  { s with power := { s.power with wdog := s.msTicks (s.fld Adr.PWR_WDOG 15 0) } }

/-- CANCEL of descriptor i by a command (R219): the status, and the state. -/
def State.cancelDesc (s : State) (i : Nat) : Nat × State :=
  if 1024 ≤ i then (St.noaddr, s)
  else
    let d := s.descAt i
    if d.st = 0 then (St.noaddr, s)
    else if d.st = 2 || d.st = 3 then (St.ok, s.cancelItem i 1)
    else if d.st = 4 then (St.busy, s)
    else
      let used := (List.range 12).any (fun q =>
        s.fld (Adr.DSP_SRCCFG q) 9 0 = i && (s.flag (Adr.DSP_SRCCFG q) 15 || !(s.ring q).occupied.isEmpty))
      if used then (St.busy, s) else (St.ok, s.setDesc i Desc.free)

/-- Items that no remaining core may run end with cause NOCORE (R222). -/
def State.cancelNoCore (s : State) : State :=
  let live := (List.range 8).filter (fun k => !s.coreRetired k)
  (List.range 1024).foldl (fun s i =>
    let d := s.descAt i
    if (d.st = 2 || d.st = 3) && !live.any (bit d.affinity) then s.cancelItem i 3 else s) s

/-! ### Creation (R214) -/

/-- The checks of R214 on an image, in order; 0 where it is accepted. -/
def State.postStatus (s : State) (b : List Byte) : Nat :=
  let d := Desc.ofImage b
  let succBad (x : Nat) : Nat :=
    if bit x 15 then
      let st := (s.descAt (bits x 9 0)).st
      if st = 0 then St.noaddr else if st = 1 then St.mode else 0
    else 0
  let s0 := succBad d.succ0
  let s1 := succBad d.succ1
  firstFail [
    (bit d.ctl 7 || bits d.succ0 14 10 ≠ 0 || bits d.succ1 14 10 ≠ 0 || byteAt b 0x0F ≠ 0 || byteAt b 0x1C ≠ 0 ||
      byteAt b 0x1D ≠ 0 || leAt b 0x1E 2 ≠ 0, St.reserved),
    (d.affinity = 0 || (d.template && d.pegs ≠ 0) || 256 < d.slcount ||
      (d.slcount ≠ 0 && !inBasin d.slist (2 * d.slcount)), St.range),
    (d.slcount ≠ 0 && d.slist % 2 = 1, St.align),
    (s0 ≠ 0, s0),
    (s1 ≠ 0, s1),
    ((List.range 8).all (fun k => !bit d.affinity k || s.coreRetired k), St.retired),
    (s.freeIndex = none || (!d.template && s.credit = 0), St.full)]

/-- POST of a 32-byte image by a source (R214): the status, the index given (0 where refused), and the state. -/
def State.postImage (s : State) (b : List Byte) (origin : Nat) : Nat × Nat × State :=
  let e := s.postStatus b
  if e ≠ 0 then (e, 0, s)
  else match s.freeIndex with
    | none => (St.full, 0, s)
    | some i =>
      let d := { Desc.ofImage b with origin := origin }
      if d.template then (St.ok, i, s.setDesc i { d with st := 1 })
      else if d.pegs ≠ 0 then (St.ok, i, s.setDesc i { d with st := 2 })
      else (St.ok, i, (s.setDesc i d).makeReady i)

/-! ### Dispatch and instantiation -/

/-- Core k is idle, in service and not under test (R221, R443). -/
def State.coreFree (s : State) (k : Nat) : Bool :=
  (s.coreAt k).item = none && !(s.coreAt k).testing && !s.coreRetired k

/-- The lowest-numbered core that may take descriptor i. -/
def State.eligibleCore (s : State) (i : Nat) : Option Nat :=
  (List.range 8).find? (fun k => bit (s.descAt i).affinity k && s.coreFree k)

/-- The item and core that R221 chooses: highest PRIO, oldest, lowest core. -/
def State.chooseItem (s : State) : Option (Nat × Nat) :=
  (List.range 8).reverse.findSome? (fun p =>
    s.disp.ready.findSome? (fun i =>
      if (s.descAt i).prio = p then (s.eligibleCore i).map (fun k => (i, k)) else none))

/-- Core k takes descriptor i (R204, Table CC-1). -/
def State.startItem (s : State) (i k : Nat) : State :=
  let d := s.descAt i
  let s := { s with disp := { s.disp with ready := s.disp.ready.filter (· ≠ i) } }
  let s := s.setDesc i { d with st := 4 }
  s.setCore k { s.coreAt k with
    pc := d.entry, sw := 0, wp := 0x00F00000, a0 := d.arg, a1 := 0, a2 := 0, a3 := 0, item := some i, cycles := 0 }

/-- DISPATCH (R221): at most one item starts. -/
def execDispatch (s : State) : Out := s.run fun s =>
  if s.coresOn && !s.disp.stopped then
    match s.chooseItem with
    | some (i, k) => (s.startItem i k)
    | none => s
  else s

/-- The waiting entry of a ring that comes next in ring order. -/
def SrcRing.nextWaiting (r : SrcRing) (len : Nat) : Option Nat :=
  ((List.range len).map (fun j => (r.next + j) % len)).find? (fun k => r.waiting.contains k)

/-- The entry of source q that is to be made an item: its ring entry and its template, which must be a TEMPLATE. -/
def State.waitingEntry (s : State) (q : Nat) : Option (Nat × Desc) :=
  let t := s.descAt (s.fld (Adr.DSP_SRCCFG q) 9 0)
  if t.st ≠ 1 then none else ((s.ring q).nextWaiting (2 ^ s.fld (Adr.DSP_SRCCFG q) 19 16)).map (·, t)

/-- Lower-numbered sources with an entry to be made an item: they are served first (Table DP-3, step 4). -/
def State.sourcesAhead (s : State) (q : Nat) : Nat := ((List.range q).filter (fun p => (s.waitingEntry p).isSome)).length

/-- INSTANTIATE (R225): the next occupied entry of source q becomes a READY item from the source's template, while a descriptor and
credit are left for it after the lower-numbered sources. -/
def execInstantiate (q : Fin 12) (s : State) : Out := s.run fun s =>
  match s.waitingEntry q.val, s.freeIndex with
  | some (k, t), some i =>
    if s.coresOn && s.sourcesAhead q.val < s.nFree && s.sourcesAhead q.val < s.credit then
      let r := s.ring q.val
      let s := s.setRing q.val { r with waiting := r.waiting.filter (· ≠ k), next := k + 1 }
      let s := s.setDesc i { t with
        arg := s.ringAddr q.val k, ctl := t.ctl % 64 + t.ctl / 128 * 128, origin := q.val, qentry := k }
      (s.makeReady i)
    else s
  | _, _ => s

/-! ### Successor lists (R217, R218) -/

/-- The front job after one entry: its address moves on; at the end its record is closed. -/
def State.advanceJob (s : State) (j : ListJob) : State :=
  if j.left ≤ 1 then
    let s := { s with disp := { s.disp with jobs := s.disp.jobs.filter (fun x => x.id ≠ j.id) } }
    (s.onRec j.id (fun r => { r with closed := true })).flushRecs
  else
    { s with disp := { s.disp with
        jobs := s.disp.jobs.map (fun x => if x.id = j.id then { j with addr := j.addr + 2, left := j.left - 1 } else x) } }

/-- A list entry is skipped and counted (R217). -/
def State.badSucc (s : State) (j : ListJob) : State :=
  (s.count Adr.DSP_BADSUCC).onRec j.id (fun r => { r with badsucc := true })

/-- SUCCESSOR_LIST_ENTRY (R217): one entry of the oldest list returns and is applied; descriptors and ready lists stay as they are outside
SERVICE and RUN (R223). -/
def execSuccessorListEntry (s : State) : Out := s.run fun s =>
  match s.disp.jobs with
  | [] => s
  | j :: _ =>
    if !s.coresOn then s else
    let rd := s.basinRead Master.disp j.addr 2
    let s := rd.2
    let s := match rd.1 with
      | none => s.badSucc j
      | some b =>
        let e := leNat b
        let i := bits e 9 0
        let st := (s.descAt i).st
        if bits e 15 10 ≠ 0 then s.badSucc j
        else if j.cascade then
          if st = 2 || st = 3 then
            let r := s.endOne i 0x01 0 0 0xF 2 0
            State.cascadeList cascadeFuel r.2 r.1
          else if st = 4 then s.onRec j.id (fun r => { r with held := true })
          else s
        else if st = 0 || st = 1 then s.badSucc j
        else (s.pullPeg i 15).2
    (s.advanceJob j)

/-! ### Commands of the host (R232) -/

/-- DSP_CMD performed: operation op on descriptor i; the status, and the state with DSP_CMDRES.CODE. -/
def State.dspCmd (s : State) (op i : Nat) : Nat × State :=
  let r : Nat × State :=
    if op = 1 then
      let a := s.fld Adr.DSP_IMGADR 23 0
      if !inBasin a 32 then (St.range, s)
      else match s.basinRead Master.host a 32 with
        | (none, s) => (St.crc, s)
        | (some b, s) =>
          let p := s.postImage b 12
          (p.1, if p.1 = 0 then p.2.2.setFld Adr.DSP_CMDRES 9 0 p.2.1 else p.2.2)
    else if op = 2 then s.pullPeg i 12
    else if op = 3 then s.cancelDesc i
    else (St.ok, s)
  (r.1, r.2.setFld Adr.DSP_CMDRES 23 16 r.1)

/-- DSP_DSEL written: descriptor i is copied into DSP_DWORD0 to 7 (Table DP-9). -/
def State.selectDesc (s : State) (i : Nat) : State :=
  let ws := wordsOf (s.descAt i).image
  (List.range 8).foldl (fun s k => s.setReg (Adr.DSP_DWORD k) (ws.getD k 0)) (s.setFld Adr.DSP_DSEL 9 0 i)

end Sys2Proof.Machine
end

