-- ==== Sys2Proof/Machine/Crypto.lean ====
section
/-!
DEFINITION. The cryptographic functions the spec names: SHA-256 of the content hash and of PUBKEY (R132, Table PK-5),
AES-128-CMAC of the message tag (R312) and Ed25519 verification of the pack signature (R427).
-/
namespace Sys2Proof.Machine

/-- Big-endian bytes as a number. -/
def beNat (l : List Byte) : Nat := l.foldl (fun a b => a * 256 + b.toNat) 0

/-- A number as n big-endian bytes. -/
def natBE (n v : Nat) : List Byte := (natLE n v).reverse

/-! ### SHA-2 (FIPS 180-4, R132 and R427)

One function for both digests: a width, a number of rounds and twelve amounts tell SHA-256 from SHA-512. The constants of the
standard are computed from what it says they are, the first bits of the fractional parts of roots of the first primes. -/

/-- What tells a SHA-2 function from another: the width of a word, its rounds, and the amounts of its four mixes; the last
amount of the two mixes of the schedule shifts, every other one rotates. -/
structure Sha where
  w : Nat
  rounds : Nat
  schedOld : List Nat
  schedNew : List Nat
  mixA : List Nat
  mixE : List Nat

/-- SHA-256. -/
def Sha.of256 : Sha :=
  { w := 32, rounds := 64, schedOld := [7, 18, 3], schedNew := [17, 19, 10], mixA := [2, 13, 22], mixE := [6, 11, 25] }

/-- SHA-512. -/
def Sha.of512 : Sha :=
  { w := 64, rounds := 80, schedOld := [1, 8, 7], schedNew := [19, 61, 6], mixA := [28, 34, 39], mixE := [14, 18, 41] }

/-- The primes below 410, the first eighty, in order. -/
def shaPrimes : List Nat :=
  (List.range 410).filter (fun n => decide (2 ≤ n) && (List.range 21).all (fun d => decide (d < 2 ∨ n ≤ d ∨ n % d ≠ 0)))

/-- The largest number whose k-th power is at most x, bit by bit from bit n - 1 on down. -/
def rootByBits (k x : Nat) : Nat → Nat → Nat
  | 0, r => r
  | n + 1, r => rootByBits k x n (if (r + 2 ^ n) ^ k ≤ x then r + 2 ^ n else r)

/-- The first bits, a word of them, of the fractional part of the k-th root of q. -/
def Sha.rootWord (f : Sha) (k q : Nat) : Nat := rootByBits k (q * 2 ^ (k * f.w)) (f.w + 5) 0 % 2 ^ f.w

/-- The hash value before the first block: from the square roots of eight primes. -/
def Sha.start (f : Sha) : List Nat := (shaPrimes.take 8).map (f.rootWord 2)

/-- The constants of the rounds: from the cube roots of as many primes. -/
def Sha.consts (f : Sha) : List Nat := (shaPrimes.take f.rounds).map (f.rootWord 3)

/-- The exclusive or of a word turned right by each amount. -/
def Sha.turns (f : Sha) (amounts : List Nat) (x : Nat) : Nat :=
  amounts.foldl (fun acc n => acc ^^^ (x >>> n ||| (x <<< (f.w - n)) % 2 ^ f.w)) 0

/-- A mix of the message schedule: the last amount shifts. -/
def Sha.sched (f : Sha) (amounts : List Nat) (x : Nat) : Nat :=
  f.turns (amounts.take 2) x ^^^ x >>> amounts.getD 2 0

/-- The next word of the message schedule from the sixteen before it, oldest first. -/
def Sha.nextWord (f : Sha) (win : List Nat) : Nat :=
  (win.getD 0 0 + f.sched f.schedOld (win.getD 1 0) + win.getD 9 0 + f.sched f.schedNew (win.getD 14 0)) % 2 ^ f.w

/-- The working variables as the standard's two histories, newest first: a, b, c, d and e, f, g, h. One round puts a new word in
front of each and drops the oldest. -/
def Sha.round (f : Sha) (v : List Nat × List Nat) (kw : Nat) : List Nat × List Nat :=
  let (as, es) := v
  let (e, g) := (es.getD 0 0, es.getD 2 0)
  let choice := g ^^^ e &&& (es.getD 1 0 ^^^ g)
  let most := as.getD 0 0 &&& (as.getD 1 0 ||| as.getD 2 0) ||| as.getD 1 0 &&& as.getD 2 0
  let t := es.getD 3 0 + f.turns f.mixE e + choice + kw
  ((t + f.turns f.mixA (as.getD 0 0) + most) % 2 ^ f.w :: as.take 3, (as.getD 3 0 + t) % 2 ^ f.w :: es.take 3)

/-- The rounds over a block: the schedule's window moves on by a word at each. -/
def Sha.rounds16 (f : Sha) : List Nat → List Nat → List Nat × List Nat → List Nat × List Nat
  | [], _, v => v
  | k :: ks, win, v => f.rounds16 ks (win.drop 1 ++ [f.nextWord win]) (f.round v (k + win.getD 0 0))

/-- The hash value after one block of bytes. -/
def Sha.block (f : Sha) (ks hash : List Nat) (bytes : List Byte) : List Nat :=
  let win := (List.range 16).map (fun i => beNat ((bytes.drop (i * (f.w / 8))).take (f.w / 8)))
  let v := f.rounds16 ks win (hash.take 4, hash.drop 4)
  hash.zipWith (fun x y => (x + y) % 2 ^ f.w) (v.1 ++ v.2)

/-- The message with its end: a bit 1, zeros, and its length in bits in the last two words of a block. -/
def Sha.padded (f : Sha) (msg : List Byte) : List Byte :=
  let part := f.w / 4
  let zeros := 8 * part - 1 - (msg.length + part) % (8 * part)
  msg ++ 0x80 :: List.replicate zeros 0 ++ natBE part (8 * msg.length)

/-- The digest's words over n blocks. -/
def Sha.run (f : Sha) (ks : List Nat) : Nat → List Byte → List Nat → List Nat
  | 0, _, hash => hash
  | n + 1, bytes, hash => f.run ks n (bytes.drop (2 * f.w)) (f.block ks hash (bytes.take (2 * f.w)))

/-- The digest of a message. -/
def Sha.digest (f : Sha) (msg : List Byte) : List Byte :=
  let bytes := f.padded msg
  (f.run f.consts (bytes.length / (2 * f.w)) bytes f.start).flatMap (natBE (f.w / 8))

/-- SHA-256 digest, 32 bytes. -/
def sha256 (msg : List Byte) : List Byte := Sha.of256.digest msg

/-- SHA-512 digest, 64 bytes. -/
def sha512 (msg : List Byte) : List Byte := Sha.of512.digest msg

/-! ### AES-128 and CMAC -/

/-- Multiplication by x in GF(2^8). -/
def aesXtime (a : Nat) : Nat := if 128 ≤ a then ((2 * a) ^^^ 0x11B) % 256 else 2 * a

/-- Multiplication in GF(2^8). -/
def aesMul (a b : Nat) : Nat :=
  ((List.range 8).foldl (fun (p : Nat × Nat) i => (if bit b i then p.1 ^^^ p.2 else p.1, aesXtime p.2)) (0, a)).1

/-- The inverse in GF(2^8), 0 for 0: a^254. -/
def aesInv (a : Nat) : Nat :=
  ((List.range 7).foldl (fun (p : Nat × Nat) _ => let s := aesMul p.2 p.2; (aesMul p.1 s, s)) (1, a)).1

/-- The S-box of AES. -/
def aesSbox (a : Nat) : Nat :=
  let b := aesInv a
  let r (n : Nat) := ((b <<< n) ||| (b >>> (8 - n))) % 256
  b ^^^ r 1 ^^^ r 2 ^^^ r 3 ^^^ r 4 ^^^ 0x63

/-- The next round key from the present one (FIPS 197). -/
def aesNextKey (rc : Nat) (k : List Nat) : List Nat :=
  let g := [aesSbox (k.getD 13 0) ^^^ rc, aesSbox (k.getD 14 0), aesSbox (k.getD 15 0), aesSbox (k.getD 12 0)]
  (List.range 16).foldl (fun o i =>
    o ++ [k.getD i 0 ^^^ (if i < 4 then g.getD i 0 else o.getD (i - 4) 0)]) []

/-- SubBytes and ShiftRows on a column-major state. -/
def aesSubShift (s : List Nat) : List Nat :=
  (List.range 16).map (fun i => aesSbox (s.getD ((i + 4 * (i % 4)) % 16) 0))

/-- MixColumns. -/
def aesMix (s : List Nat) : List Nat :=
  (List.range 16).map (fun i =>
    let c := i / 4 * 4
    let r := i % 4
    let e (k : Nat) := s.getD (c + (r + k) % 4) 0
    aesMul (e 0) 2 ^^^ aesMul (e 1) 3 ^^^ e 2 ^^^ e 3)

/-- Byte-wise exclusive or of two blocks. -/
def xorL (a b : List Nat) : List Nat := a.zipWith (· ^^^ ·) b

/-- AES-128 encryption of one block. -/
def aesEncrypt (key block : List Nat) : List Nat :=
  let r := (List.range 10).foldl
    (fun (p : List Nat × List Nat × Nat) i =>
      let k := aesNextKey p.2.2 p.2.1
      let t := aesSubShift p.1
      (xorL (if i < 9 then aesMix t else t) k, k, aesXtime p.2.2))
    (xorL block key, key, 1)
  r.1

/-- Doubling of a 16-byte block in GF(2^128) (SP 800-38B subkeys). -/
def cmacDouble (b : List Nat) : List Nat :=
  let n := b.foldl (fun a x => a * 256 + x) 0
  let d := (2 * n) % 2 ^ 128 ^^^ (if bit n 127 then 0x87 else 0)
  (natBE 16 d).map BitVec.toNat

/-- The chained encryption of whole blocks; the first argument bounds their number. -/
def cmacChain (key : List Nat) : Nat → List Nat → List Nat → List Nat
  | 0, x, _ => x
  | k + 1, x, m => cmacChain key k (aesEncrypt key (xorL x (m.take 16))) (m.drop 16)

/-- AES-CMAC (NIST SP 800-38B, AES-128) of R312, 16 bytes. -/
def aesCmac (key msg : List Byte) : List Byte :=
  let kk := key.map BitVec.toNat
  let m := msg.map BitVec.toNat
  let l := aesEncrypt kk (List.replicate 16 0)
  let k1 := cmacDouble l
  let n := if m.length = 0 then 1 else (m.length + 15) / 16
  let last := m.drop (16 * (n - 1))
  let lastB := if last.length = 16 then xorL last k1
    else xorL (last ++ [0x80] ++ List.replicate (15 - last.length) 0) (cmacDouble k1)
  let x := cmacChain kk (n - 1) (List.replicate 16 0) m
  (aesEncrypt kk (xorL x lastB)).map (BitVec.ofNat 8)

/-! ### Ed25519 (RFC 8032) -/

/-- The field prime 2^255 - 19. -/
def edP : Nat := 2 ^ 255 - 19
/-- The group order. -/
def edL : Nat := 2 ^ 252 + 27742317777372353535851937790883648493
/-- The curve constant d = -121665 / 121666. -/
def edD : Nat := 37095705934669439343138083508754565189542113879843219016388785533085940283555
/-- A square root of -1. -/
def edSqrtM1 : Nat := 19681161376707505956807079304988542015446066515923890162744021073123829784752

/-- b^e mod m over the low n bits of e, most significant first. -/
def powModBits (m b e : Nat) : Nat → Nat → Nat
  | 0, acc => acc
  | n + 1, acc =>
    let s := acc * acc % m
    powModBits m b e n (if bit e n then s * b % m else s)

/-- b^e in the field. -/
def edPow (b e : Nat) : Nat := powModBits edP b e 256 1

/-- A point in extended homogeneous coordinates X, Y, Z, T. -/
abbrev EdPoint := Nat × Nat × Nat × Nat

/-- Subtraction in the field. -/
def edSub (a b : Nat) : Nat := (a + edP - b % edP) % edP

/-- Point addition (RFC 8032, section 5.1.4). -/
def edAdd (p q : EdPoint) : EdPoint :=
  let (x1, y1, z1, t1) := p
  let (x2, y2, z2, t2) := q
  let a := edSub y1 x1 * edSub y2 x2 % edP
  let b := (y1 + x1) * (y2 + x2) % edP
  let c := t1 * 2 * edD % edP * t2 % edP
  let d := z1 * 2 * z2 % edP
  let e := edSub b a
  let f := edSub d c
  let g := (d + c) % edP
  let h := (b + a) % edP
  (e * f % edP, g * h % edP, f * g % edP, e * h % edP)

/-- Scalar multiplication over the low n bits of k, most significant first. -/
def edMulBits (p : EdPoint) (k : Nat) : Nat → EdPoint → EdPoint
  | 0, acc => acc
  | n + 1, acc =>
    let s := edAdd acc acc
    edMulBits p k n (if bit k n then edAdd s p else s)

/-- [k]p for k below 2^256. -/
def edMul (p : EdPoint) (k : Nat) : EdPoint := edMulBits p k 256 (0, 1, 1, 0)

/-- Whether two points are equal. -/
def edEq (p q : EdPoint) : Bool :=
  (p.1 * q.2.2.1) % edP == (q.1 * p.2.2.1) % edP && (p.2.1 * q.2.2.1) % edP == (q.2.1 * p.2.2.1) % edP

/-- Decodes a point (RFC 8032, section 5.1.3). -/
def edDecode (l : List Byte) : Option EdPoint :=
  let n := leNat l
  let y := n % 2 ^ 255
  let sign := bit n 255
  if edP ≤ y then none else
  let u := edSub (y * y) 1
  let v := (edD * (y * y % edP) + 1) % edP
  let x0 := u * edPow v 3 % edP * edPow (u * edPow v 7 % edP) ((edP - 5) / 8) % edP
  let vxx := v * (x0 * x0 % edP) % edP
  let x := if vxx = u then some x0 else if vxx = (edP - u) % edP then some (x0 * edSqrtM1 % edP) else none
  match x with
  | none => none
  | some x =>
    if x = 0 ∧ sign then none
    else
      let x' := if (x % 2 = 1) = (sign = true) then x else (edP - x) % edP
      some (x', y, 1, x' * y % edP)

/-- The base point. -/
def edBase : EdPoint :=
  let x := 15112221349535400772501151409588531511454012693041857206046113283949847762202
  let y := 46316835694926478169428394003475163141307993866256225615783033603165251855960
  (x, y, 1, x * y % edP)

/-- Ed25519 verification of sig (R then S) over msg under the public key (RFC 8032, section 5.1.7). DESIGN CHOICE:
the equation checked is [S]B = R + [k]A without the cofactor, which the RFC permits (log entry 30). DEDUCED (log 64, not safe). -/
def ed25519Verify (pub msg sig : List Byte) : Bool :=
  let r := sig.take 32
  let s := leNat (sig.drop 32)
  match edDecode pub, edDecode r with
  | some a, some rp =>
    let k := leNat (sha512 (r ++ pub ++ msg)) % edL
    decide (s < edL) && edEq (edMul edBase s) (edAdd rp (edMul a k))
  | _, _ => false

end Sys2Proof.Machine
end

