-- ==== Sys2Proof/Machine/Message.lean ====
section
/-!
DEFINITION. Trail messages (R300 to R313, R435): header fields, lengths and reserved bits, event bodies, tags, the checks of SEND, the message
queues, the duplicate windows and the TSTAT records.
-/
namespace Sys2Proof.Machine

/-! ### Header (Table TD-6) -/

namespace Msg
/-- LEN. -/
def len (b : List Byte) : Nat := byteAt b 0
/-- TYPE. -/
def type (b : List Byte) : Nat := byteAt b 1
/-- SRC. -/
def src (b : List Byte) : Nat := bits (leAt b 2 2) 10 0
/-- ZD. -/
def zd (b : List Byte) : Bool := bit (leAt b 2 2) 11
/-- AUTH. -/
def auth (b : List Byte) : Bool := bit (leAt b 2 2) 12
/-- NEW. -/
def isNew (b : List Byte) : Bool := bit (leAt b 2 2) 13
/-- SEQ. -/
def seq (b : List Byte) : Nat := leAt b 4 2
/-- ADDR (Table SC-3). -/
def addr (b : List Byte) : Nat := leAt b 6 8
/-- SYSCHK. -/
def syschk (b : List Byte) : Nat := bits (addr b) 63 48
/-- ZONE. -/
def zone (b : List Byte) : Nat := bits (addr b) 47 42
/-- NODE. -/
def node (b : List Byte) : Nat := bits (addr b) 41 31
/-- ENGINE. -/
def engine (b : List Byte) : Nat := bits (addr b) 30 27
/-- GROUP. -/
def group (b : List Byte) : Nat := bits (addr b) 26 22
/-- VOICE. -/
def voice (b : List Byte) : Nat := bits (addr b) 21 18
/-- PARAM. -/
def param (b : List Byte) : Nat := bits (addr b) 17 6
/-- ORIGSEQ of a command or reply (R308). -/
def orig (b : List Byte) : Nat := leAt b 14 2
/-- Length without a tag. -/
def bare (b : List Byte) : Nat := len b - (if auth b then 8 else 0)
/-- Event types. -/
def isEvent (t : Nat) : Bool := 0x01 ≤ t && t ≤ 0x0D
/-- Command types, defined or not. -/
def isCommand (t : Nat) : Bool := 0x20 ≤ t && t ≤ 0x2E
/-- Defined command types. -/
def knownCommand (t : Nat) : Bool := 0x20 ≤ t && t ≤ 0x24
/-- Management types. -/
def isMgmt (t : Nat) : Bool := 0x30 ≤ t && t ≤ 0x35
/-- Types that are forwarded and counted in TRAIL_UNKMSG (R302). -/
def unknown (t : Nat) : Bool := 0x40 ≤ t || (0x0E ≤ t && t ≤ 0x1F) || (0x36 ≤ t && t ≤ 0x3F)
/-- Trailhead-only types (Table TD-7). -/
def headOnly (t : Nat) : Bool := t = 0x0B || t = 0x0C || t = 0x31 || t = 0x32 || t = 0x33 || t = 0x34
end Msg

/-- An address: parts of Table SC-3 put together. -/
def mkAddr (syschk zone node engine group voice param : Nat) : Nat :=
  syschk * 2 ^ 48 + zone * 2 ^ 42 + node * 2 ^ 31 + engine * 2 ^ 27 + group * 2 ^ 22 + voice * 2 ^ 18 + param * 2 ^ 6

/-- Whether the length without a tag breaks its type's rule (Tables TD-1, TD-3, TD-5, TD-8, TD-9, R315, R435). -/
def msgLenBad (b : List Byte) : Bool :=
  let n := Msg.bare b
  let t := Msg.type b
  let c20 := byteAt b 20
  if t = 0x01 || t = 0x03 then n ≠ 34
  else if t = 0x02 || t = 0x0A then n ≠ 26
  else if t = 0x04 || t = 0x09 || t = 0x0B || t = 0x0C then n ≠ 24
  else if t = 0x05 || t = 0x06 || t = 0x20 then n ≠ 22
  else if t = 0x07 then n ≠ 28
  else if t = 0x08 then n ≠ 30
  else if t = 0x0D then n ≠ 38
  else if t = 0x21 then n < 26 || 214 < n || n ≠ 22 + 4 * c20
  else if t = 0x22 then n ≠ 16
  else if t = 0x23 then n ≠ 32
  else if t = 0x24 then
    (if bits (byteAt b 16) 3 0 = 2 then n ≠ 24 + leAt b 22 2 else n ≠ 24)
  else if t = 0x2F then n < 18 || 210 < n || n ≠ 18 + 4 * byteAt b 17
  else if t = 0x30 then n ≠ 40
  else if t = 0x31 then n ≠ 36
  else if t = 0x32 || t = 0x35 then n ≠ 24
  else if t = 0x33 then n < 22 || 210 < n || n ≠ 18 + 4 * leAt b 16 2
  else if t = 0x34 then n < 22 || 148 < n || n ≠ 20 + 2 * byteAt b 17
  else n < 14

/-- Whether a reserved bit or value of the header or body is set, reserved engine codes included (R5, R6, R304, R308). -/
def msgReserved (b : List Byte) : Bool :=
  let t := Msg.type b
  let e := Msg.engine b
  let z (k n : Nat) : Bool := leAt b k n ≠ 0
  let cmd := Msg.isCommand t || t = 0x2F
  bits (leAt b 2 2) 15 14 ≠ 0 || (Msg.isNew b && t ≠ 0x30) || bits (Msg.addr b) 5 0 ≠ 0 ||
  (if Msg.zd b then Msg.node b ≠ 0 else Msg.zone b ≠ 63) || 0xE ≤ e ||
  (cmd && (Msg.group b ≠ 0 || Msg.voice b ≠ 0 || Msg.param b ≠ 0)) ||
  (if t = 0x01 then
      bits (byteAt b 26) 7 5 ≠ 0 || z 27 1 || bits (leAt b 28 2) 15 12 ≠ 0 ||
      (!bit (byteAt b 26) 4 && z 30 4)
    else if t = 0x02 then bit (byteAt b 24) 7 || z 25 1
    else if t = 0x03 then bits (byteAt b 26) 7 4 ≠ 0 || z 27 1 || bits (leAt b 28 2) 15 12 ≠ 0
    else if t = 0x07 then
      bits (byteAt b 26) 6 2 ≠ 0 || z 27 1 || 2 ≤ bits (byteAt b 26) 1 0 || (bit (byteAt b 26) 7 && e ≠ 1)
    else if t = 0x09 then bits (byteAt b 22) 7 1 ≠ 0 || z 23 1
    else if t = 0x0A then bits (byteAt b 24) 7 1 ≠ 0 || z 25 1
    else if t = 0x20 || t = 0x21 then z 21 1
    else if t = 0x24 then bits (byteAt b 16) 7 6 ≠ 0 || z 17 1
    else if t = 0x2F then 0x13 ≤ byteAt b 16
    else if t = 0x30 then
      4 ≤ byteAt b 24 || bits (byteAt b 25) 7 2 ≠ 0 || bits (leAt b 34 2) 14 11 ≠ 0 || bits (leAt b 36 2) 14 11 ≠ 0 ||
      bits (leAt b 38 2) 14 11 ≠ 0
    else if t = 0x31 then bits (leAt b 22 2) 15 11 ≠ 0 || bits (byteAt b 34) 7 1 ≠ 0 || z 35 1
    else if t = 0x32 then z 23 1 || 0x13 ≤ byteAt b 22
    else if t = 0x33 then
      (List.range (leAt b 16 2)).any (fun i => leAt b (18 + 4 * i) 4 &&& 0xF800F800 ≠ 0)
    else if t = 0x34 then
      z 18 2 || 256 < byteAt b 16 + byteAt b 17 ||
      (List.range (byteAt b 17)).any (fun i => leAt b (20 + 2 * i) 2 &&& 0x7800 ≠ 0)
    else if t = 0x35 then bits (leAt b 22 2) 15 11 ≠ 0
    else false)

/-- Whether a COUNT lies outside its range (Tables TD-5, TD-9, R435). DEDUCED (log 24, not safe). -/
def msgCountBad (b : List Byte) : Bool :=
  let t := Msg.type b
  if t = 0x20 || t = 0x21 then byteAt b 20 = 0 || 48 < byteAt b 20
  else if t = 0x24 then 192 < leAt b 22 2 || leAt b 22 2 % 4 ≠ 0
  else if t = 0x2F then 48 < byteAt b 17
  else if t = 0x33 then leAt b 16 2 = 0 || 48 < leAt b 16 2
  else if t = 0x34 then byteAt b 17 = 0 || 64 < byteAt b 17
  else false

/-- R304: whether a received message is malformed. -/
def msgMalformed (b : List Byte) : Bool :=
  let t := Msg.type b
  Msg.len b < 14 || t = 0 || msgLenBad b || msgReserved b || msgCountBad b ||
  ((Msg.isCommand t || t = 0x2F) && Msg.zd b) || (Msg.headOnly t && Msg.src b ≠ 0)

/-! ### Events (Table TD-8) -/

/-- The effective boundary of a time (R12). -/
def boundaryAt (spt t : Nat) : Nat := (t + spt - 1) / spt * spt

/-- The engine that Table TD-8 gives an event type; PARAM_SET has a full address. DEDUCED (log 25, not safe). -/
def eventEngine (t : Nat) : Option Nat :=
  if 1 ≤ t ∧ t ≤ 6 then some 1
  else if t = 0x08 || t = 0x0D then some 3
  else if t = 0x09 || t = 0x0A then some 2
  else if t = 0x0B || t = 0x0C then some 6
  else none

/-- What an event message does, its engine being the type's own. DEDUCED (log 25, not safe). -/
def eventActOf (b : List Byte) : EvAct :=
  let t := Msg.type b
  let g := Msg.group b
  let v := Msg.voice b
  let f := byteAt b 26
  let time := natLE 8 (leAt b 14 8)
  if t = 0x01 then
    .voice (.noteOn g (leAt b 22 2) (leAt b 24 2) (bits f 2 0) (if bit f 3 then none else some (bits (leAt b 28 2) 11 0))
      (if bit f 4 then some (leAt b 30 4) else none))
  else if t = 0x02 then .voice (.noteOff g (bits (byteAt b 24) 6 0) (leAt b 22 2))
  else if t = 0x03 then
    .voice (.directed g v (leAt b 22 2) (leAt b 24 2) (bits f 2 0) (bit f 3) (bits (leAt b 28 2) 11 0) (leAt b 30 4))
  else if t = 0x04 then .voice (.voiceOff g v (leAt b 22 2))
  else if t = 0x05 then .voice (.voiceStop g v)
  else if t = 0x06 then .voice (.groupStop g)
  else if t = 0x07 then
    if Msg.engine b = 1 then
      .voice (.paramSet g v (Msg.param b) (leAt b 22 2) (if bit f 7 then some (leAt b 24 2, bits f 1 0) else none))
    else .refused
  else if t = 0x08 then .tmsg (time ++ (b.drop 22).take 8)
  else if t = 0x09 then .speCommit (bit (byteAt b 22) 0)
  else if t = 0x0A then .speSwap (leAt b 22 2) (bit (byteAt b 24) 0)
  else if t = 0x0B then .lead (leAt b 22 2)
  else if t = 0x0C then .mapCommit (leAt b 22 2)
  else .tmsg ((b.drop 22).take 16)

/-- What an event message does: an engine that does not have the type refuses it at its intake (R305). -/
def eventAct (b : List Byte) : EvAct :=
  match eventEngine (Msg.type b) with
  | some e => if Msg.engine b = e then eventActOf b else .refused
  | none => eventActOf b

/-- The queue's entry for an event message. -/
def queuedEvent (b : List Byte) (src : Nat) (go : Bool) : QEvent :=
  { time := leAt b 14 8, src := src, seq := Msg.seq b, zone := Msg.zone b, zd := Msg.zd b && !go, go := go, act := eventAct b }

/-- q comes before r at one intake (R24, R462): by effective boundary, source, Trail before GO, then sequence within the window. -/
def QEvent.before (spt : Nat) (q r : QEvent) : Bool :=
  let a := boundaryAt spt q.time
  let b := boundaryAt spt r.time
  if a ≠ b then a < b
  else if q.src ≠ r.src then q.src < r.src
  else if q.go ≠ r.go then !q.go
  else !q.go && 32768 ≤ (q.seq + 65536 - r.seq) % 65536

/-- Inserts an event into an ordered list, after its equals. -/
def insertEvent (spt : Nat) (q : QEvent) : List QEvent → List QEvent
  | [] => [q]
  | r :: t => if q.before spt r then q :: r :: t else r :: insertEvent spt q t

/-- The state with the Trail replaced. -/
def State.setTrail (s : State) (f : Trail → Trail) : State := { s with trail := f s.trail }

/-- An event enters the queue of 1,024 (R305); false where it is full. -/
def State.queueEvent (s : State) (q : QEvent) : Bool × State :=
  if 1024 ≤ s.trail.events.length then (false, s)
  else (true, s.setTrail (fun t => { t with events := insertEvent s.spt q t.events }))

/-! ### Tags (R312, R313) -/

/-- The tag of a message whose last 8 bytes are the tag's place. -/
def State.tagOf (s : State) (b : List Byte) : List Byte := (aesCmac (s.pack.key.getD []) (b.take (b.length - 8))).take 8

/-- Whether a message carries AUTH and a matching tag under the system key. -/
def State.tagGood (s : State) (b : List Byte) : Bool :=
  Msg.auth b && s.pack.key.isSome && s.tagOf b = b.drop (b.length - 8)

/-- TRAIL_AUTHCTL.REQ. -/
def State.authReq (s : State) : Bool := s.flag Adr.TRAIL_AUTHCTL 0

/-! ### Duplicate windows (R278) -/

/-- The window of a source takes sequence number q: 0 accepted, 1 duplicate, 2 stale. DEDUCED (log 29, not safe). -/
def windowTake (w : Option (Nat × Nat)) (q : Nat) : Nat × (Nat × Nat) :=
  match w with
  | none => (0, (q, 0))
  | some (h, m) =>
    let d := (q + 65536 - h) % 65536
    if d = 0 then (1, (h, m))
    else if d ≤ 32767 then (0, (q, if 33 ≤ d then 0 else (m * 2 ^ d + 2 ^ (d - 1)) % 2 ^ 32))
    else if 65504 ≤ d then
      let i := 65535 - d
      if bit m i then (1, (h, m)) else (0, (h, m + 2 ^ i))
    else (2, (h, m))

/-- A message's number is taken: whether it is accepted (R278). DEDUCED (log 29, not safe). -/
def State.windowAccept (s : State) (src q : Nat) : Bool × State :=
  let r := windowTake (Sp.find s.trail.win src) q
  let s := s.setTrail (fun t => { t with win := Sp.ins t.win src r.2 })
  if r.1 = 0 then (true, s)
  else if r.1 = 1 then (false, s.count Adr.TRAIL_DUPDROP)
  else (false, s.count Adr.TRAIL_STALEMSG)

/-! ### TSTAT records (R320) -/

/-- A TSTAT record is posted; TRAIL_STAT changes also raise the TRAIL cause (Table HI-5). -/
def State.tstat (s : State) (code detail status value : Nat) : State :=
  s.post 3 (record16 code detail status 0 value (if s.lock = 0 then 0 else s.time))

/-- TRAIL_STAT.STATE takes a value (Tables TL-6, TD-11). -/
def State.setLock (s : State) (x : Nat) : State :=
  let old := s.lock
  if old = x then s
  else
    let s := (s.setFld Adr.TRAIL_STAT 1 0 x).raise Cause.trail
    s.tstat 0x01 old 0 x

/-- A flag of TRAIL_STAT takes a value: HEAD, RINGCLOSED and LEADSHORT post records. -/
def State.setTrailFlag (s : State) (i : Nat) (b : Bool) (code : Nat) : State :=
  if s.flag Adr.TRAIL_STAT i = b then s
  else
    let s := (s.setFlag Adr.TRAIL_STAT i b).raise Cause.trail
    let value := if code = 0x03 then s.fld Adr.TRAIL_ROLE 5 0 + (if s.flag Adr.TRAIL_STAT 4 then 256 else 0) else b2n b
    s.tstat code 0 0 value

/-- A bit of TRAIL_ROLE takes a value (R314, R315). -/
def State.setRole (s : State) (i : Nat) (b : Bool) : State :=
  if s.flag Adr.TRAIL_ROLE i = b then s
  else
    let s := s.setFlag Adr.TRAIL_ROLE i b
    s.tstat 0x03 0 0 (s.fld Adr.TRAIL_ROLE 5 0 + (if s.flag Adr.TRAIL_STAT 4 then 256 else 0))

/-- This node is the trailhead. -/
def State.isHead (s : State) : Bool := s.flag Adr.TRAIL_STAT 4
/-- This node took over as trailhead. -/
def State.tookOver (s : State) : Bool := s.flag Adr.TRAIL_ROLE 5

/-! ### Sending (R303, R310 to R312) -/

/-- The messages that wait for copies, of the queue that SEND and the host fill. DEDUCED (log 37, safe). -/
def State.txUsed (s : State) : Nat := (s.trail.txq.filter (·.own)).length

/-- A message is numbered, tagged if AUTH is set or sign asks for it, and queued. asHead: originated as node 0 (R315). own: against
the size of the queue that SEND and the host fill (R310). -/
def State.enqueueSigned (s : State) (image : List Byte) (asHead own sign : Bool) : State :=
  let image := if sign then image ++ List.replicate 8 0 else image
  let useSeq0 := asHead && s.tookOver
  let q := if useSeq0 then s.trail.seq0 else s.trail.seq
  let src := if asHead || !s.admitted then 0 else s.nodeNo
  let f := leAt image 2 2
  let f := putBits f 10 0 src
  let f := if sign then putBit f 12 true else f
  let head := natLE 1 image.length ++ (image.drop 1).take 1 ++ natLE 2 f ++ natLE 2 q
  let b := head ++ image.drop 6
  let b := if Msg.auth b then b.take (b.length - 8) ++ s.tagOf b else b
  let s := s.setTrail (fun t =>
    if useSeq0 then { t with seq0 := (t.seq0 + 1) % 65536 } else { t with seq := (t.seq + 1) % 65536 })
  s.setTrail (fun t => { t with txq := t.txq ++ [⟨b, false, false, own⟩] })

/-- A message is queued, tagged where SIGN asks for it (R312). -/
def State.enqueue (s : State) (image : List Byte) (asHead own : Bool) : State :=
  s.enqueueSigned image asHead own (s.flag Adr.TRAIL_AUTHCTL 1 && !Msg.auth image && s.pack.key.isSome)

/-- The sequence number that the next message takes. -/
def State.nextSeq (s : State) (asHead : Bool) : Nat := if asHead && s.tookOver then s.trail.seq0 else s.trail.seq

/-- The number of messages that SEND's queue holds (R209). DEDUCED (log 37, safe). -/
def txLimit : Nat := Nat.max 1 Config.txDepth

/-- The checks of R311 on an image whose length is its LEN, in order. DEDUCED (log 24, not safe). -/
def State.sendStatus (s : State) (b : List Byte) : Nat :=
  let t := Msg.type b
  let n := b.length
  let tag := if Msg.auth b then b.drop (n - 8) else []
  firstFail [
    (Msg.unknown t || t = 0 || (Msg.isCommand t && !Msg.knownCommand t) || Msg.src b ≠ 0 || Msg.seq b ≠ 0 || Msg.isNew b ||
      (14 ≤ n && msgReserved b) || tag.any (· ≠ 0), St.reserved),
    (Msg.isMgmt t || t = 0x2F || t = 0x0B || t = 0x0C, St.role),
    (n < 14 || msgLenBad b || msgCountBad b || (Msg.isCommand t && Msg.zd b) ||
      Msg.syschk b ≠ s.fld Adr.TRAIL_SYSID 15 0, St.range),
    (Msg.auth b && !s.flag Adr.TRAIL_AUTHCTL 2, St.auth),
    (Msg.isCommand t && s.trail.cmds.any (fun c => c.dest = Msg.node b), St.busy),
    (txLimit ≤ s.txUsed, St.full)]

/-- SEND of an image by the host or a core (R309, R311): the status. A command takes its SEQ as ORIGSEQ and is outstanding. -/
def State.sendImage (s : State) (b : List Byte) (host : Bool) : Nat × State :=
  let e := s.sendStatus b
  if e ≠ 0 then (e, s)
  else if Msg.isCommand (Msg.type b) then
    let q := s.nextSeq false
    let img := b.take 14 ++ natLE 2 q ++ b.drop 16
    let s := s.enqueue img false true
    (0, s.setTrail (fun t => { t with cmds := t.cmds ++
      [⟨Msg.node b, q, img, host, s.fld Adr.TRAIL_CMDCFG 11 8, s.clk, St.timeout⟩] }))
  else (0, s.enqueue b false true)

/-- A management message or reply of this node's hardware, node-directed or to a zone. -/
def State.hardwareMsg (s : State) (type zone node engine : Nat) (zd isNew auth : Bool) (body : List Byte) : List Byte :=
  let f := (if zd then 0x800 else 0) + (if auth then 0x1000 else 0) + (if isNew then 0x2000 else 0)
  let n := 14 + body.length + (if auth then 8 else 0)
  natLE 1 n ++ natLE 1 type ++ natLE 2 f ++ [0, 0] ++
    natLE 8 (mkAddr (s.fld Adr.TRAIL_SYSID 15 0) zone node engine 0 0 0) ++ body ++
    (if auth then List.replicate 8 0 else [])

/-- A REPLY to a source (R308, R310): tagged when its command was. -/
def State.sendReply (s : State) (dest orig status : Nat) (words : List Nat) (tagged asHead : Bool) : State :=
  let body := natLE 2 orig ++ natLE 1 status ++ natLE 1 words.length ++ bytesOfWords words
  s.enqueue (s.hardwareMsg 0x2F 63 dest 0 false false (tagged && s.pack.key.isSome) body) asHead false

end Sys2Proof.Machine
end

