-- ==== Sys2Proof/Machine/Trail.lean ====
section
/-!
DEFINITION. The Trail's link and timeline (R258 to R291, R316 to R318): port states, frame headers and copies, forwarding and wrapping,
delay measurement, lock states, the lead, taps, and the trailhead's frames.
-/
namespace Sys2Proof.Machine

/-! ### Ports -/

/-- Port number: A 0, B 1. -/
def portIx : Port → Nat
  | .a => 0
  | .b => 1

/-- The other port. -/
def portOther : Port → Port
  | .a => .b
  | .b => .a

/-- A port beyond its registers. -/
def State.port (s : State) : Port → TPort
  | .a => s.trail.a
  | .b => s.trail.b

/-- A port changed. -/
def State.setPort (s : State) (p : Port) (f : TPort → TPort) : State :=
  s.setTrail (fun t => match p with
    | .a => { t with a := f t.a }
    | .b => { t with b := f t.b })

/-- LINK of a port (Table TL-1): 0 DOWN, 1 SIGNAL, 2 ALIGNING, 3 UP, 4 RETIRED. -/
def State.link (s : State) (p : Port) : Nat := s.fld (Adr.TRAIL_PSTAT (portIx p)) 2 0

/-- LINK of a port takes a value; a change posts PORTLINK. -/
def State.setLink (s : State) (p : Port) (x : Nat) : State :=
  if s.link p = x then s
  else (s.setFld (Adr.TRAIL_PSTAT (portIx p)) 2 0 x).tstat 0x02 (portIx p) 0 x

/-- What a port sends (Table TL-1). -/
inductive PortTx where
  /-- Nothing: the transmitter is held at its common mode. -/
  | still
  /-- Training sets with a STATE. -/
  | sets (state : Nat)
  /-- Frames, or training sets with STATE 2 while there is no frame to send. -/
  | frames
  deriving DecidableEq, Repr

/-- What port p sends: nothing while the relay changes (R293), during the silences of a wake burst (R406), or when it is retired. -/
def State.sends (s : State) (p : Port) : PortTx :=
  let burst := (match p with | .a => s.power.burstA | .b => s.power.burstB).isSome
  if !s.power.bypassN || s.power.relayAt.isSome || burst || s.link p = 4 then .still
  else if s.link p = 3 then .frames
  else .sets (if s.link p = 2 && 1024 ≤ (s.port p).sets then 1 else 0)

/-- A port whose transmitter carries frames. -/
def State.carries (s : State) (p : Port) : Bool := s.sends p = .frames

/-- A port that would forward a copy: UP, and the peer sends frames (R275). -/
def State.onward (s : State) (p : Port) : Bool := s.link p = 3 && (s.port p).peer = 2

/-- The local time now, in 2^-8 tick. -/
def State.now8 (s : State) : Nat := s.clk * 256

/-- Trail time now, in 2^-8 tick (R282). -/
def State.time8 (s : State) : Nat := s.time * 256 + s.sub

/-- Trail time of a local time in 2^-8 tick. -/
def State.trailOf (s : State) (rx : Nat) : Int := (s.time8 : Int) - (s.now8 : Int) + (rx : Int)

/-- Trail time is set, in 2^-8 tick, and the phase counter with it (R18). -/
def State.setTime8 (s : State) (t : Nat) : State :=
  { s.coutsRetime (t / 256) with time := t / 256, sub := t % 256, phase := t / 256 % s.spt * 16 + t % 256 / 16 }

/-- The node is eligible as trailhead (R294, R316): HEADEN or pack role 1. -/
def State.headEligible (s : State) : Bool := s.flag Adr.TRAIL_ROLE 2 || s.fld Adr.TRAIL_ROLE 1 0 = 1

/-- Port p shows the trailhead as its neighbour (R314). -/
def State.nearHead (s : State) (p : Nat) : Bool := s.fld (Adr.TRAIL_PSTAT p) 18 8 = 0 && s.flag (Adr.TRAIL_PSTAT p) 19

/-- ARMED is judged (R314). -/
def State.judgeArmed (s : State) : State :=
  let other := s.trail.nodes.any (fun e => e.stby && e.serial ≠ Config.serial % 2 ^ 64)
  s.setRole 4 (s.flag Adr.TRAIL_ROLE 3 && !s.isHead && s.lock = 2 && (s.nearHead 0 || s.nearHead 1) && !other)

/-- A frame that was sent on port q at local time tx proves bad (R269, R280). -/
def State.sentBad (s : State) (q : Port) (tx : Nat) : State :=
  s.setPort q (fun t => { t with sentAt := t.sentAt.map (fun e => if e.1 = tx then (tx, true) else e) })

/-- The port that a copy received on p is sent out of. -/
def RxCopy.out (h : RxCopy) (p : Port) : Port := if h.dest = 2 then p else portOther p

/-- The copy in progress on port p is dropped (R264): what has been sent on of it is poisoned (R269). -/
def State.cutCopy (s : State) (p : Port) : State :=
  match (s.port p).hdr with
  | some h =>
    let s := s.setPort p (fun t => { t with hdr := none })
    (match h.tx with
    | some tx =>
      let s := s.sentBad (h.out p) tx
      if h.dest = 1 then s.setPort (h.out p) (fun t => { t with sent := [] :: t.sent.take 1 }) else s
    | none => s)
  | none => s

/-- A port leaves every receiving state (R264). -/
def State.portDown (s : State) (p : Port) (x : Nat) : State :=
  let s := (s.cutCopy p).setPort p (fun t => { t with
    sets := 0, peer := 0, cadence := none, commas := [], misplaced := 0, copied := false, good := none, goodAt := none, links := [] })
  let s := s.setFlag (Adr.TRAIL_PSTAT (portIx p)) 7 false
  ((s.setLink p x).setTrailFlag 5 false 0x04).judgeArmed

/-- LOS (R264). -/
def State.losOn (s : State) (p : Port) : State :=
  if s.link p = 1 || s.link p = 2 || s.link p = 3 then
    ((s.count (Adr.TRAIL_LOSA + 4 * portIx p)).noteErr (portIx p)).portDown p 0
  else s

/-- A training failure (R263). -/
def State.trainFail (s : State) (p : Port) : State :=
  if (s.link p = 1 || s.link p = 2) && s.elapsed (s.port p).signalAt (s.msTicks 10) then (s.noteErr (portIx p)).portDown p 0 else s

/-- Signal energy appears (R262): a port that the relay's change does not hold (R293) enters SIGNAL. -/
def State.signalOn (s : State) (p : Port) : State :=
  if s.inserted && s.power.bypassN && s.power.relayAt.isNone && s.link p = 0 && !s.retired (portIx p) then
    (s.setPort p (fun t => { t with signalAt := s.clk })).setLink p 1
  else s

/-- The receiver finds a comma boundary (R262). -/
def State.commaOn (s : State) (p : Port) : State :=
  if s.link p = 1 then (s.setPort p (fun t => { t with sets := 0, peer := 0 })).setLink p 2 else s

/-- A code error on a port (R260, R262, R265, R270). -/
def State.codeError (s : State) (p : Port) (n : Nat) : State :=
  (List.range n).foldl (fun s _ => s.noteErr (portIx p)) (s.countBy (Adr.TRAIL_CODEERRA + 4 * portIx p) n)

/-- A port reaches UP: the first HELLO is due (R294), and an eligible node that does not generate frames listens (R316). -/
def State.portUp (s : State) (p : Port) : State :=
  let s := (s.setPort p (fun t => { t with cadence := none, misplaced := 0, hdr := none, copied := false })).setLink p 3
  s.setTrail (fun t => { t with
    helloNow := t.helloNow || !(s.admitted || s.isHead)
    heard := if s.headEligible && !s.isHead && !s.admitted && t.listenAt.isNone then false else t.heard
    listenAt := if s.headEligible && !s.isHead && !s.admitted && t.listenAt.isNone then some s.clk else t.listenAt })

/-- The local time of the comma of a training set that has just been received whole: 40 UI before, within the tick. DESIGN CHOICE (log 101, safe). -/
def State.setComma (s : State) : Nat × State :=
  let d := s.draw
  (s.now8 - 512 - d.1 % 256, d.2)

/-- A training set is received with n code errors in it (R260, R262): one with a reserved STATE or a code error counts, and the sets in a row
begin again. -/
def State.trainOn (s : State) (p : Port) (state n : Nat) : State :=
  if s.link p ≠ 2 && s.link p ≠ 3 then s
  else
    let n := n + (if 3 ≤ state then 1 else 0)
    if n ≠ 0 then (s.setPort p (fun t => { t with sets := 0 })).codeError p n
    else
      let c := s.setComma
      let s := (c.2.cutCopy p).setPort p (fun t => { t with
        peer := state
        sets := if s.link p = 2 then t.sets + 1 else t.sets
        cadence := none
        commas := (c.1 :: t.commas).take 4
        misplaced := 0 })
      if s.sends p = .sets 1 && 1 ≤ state then s.portUp p else s

/-- The port re-aligns on the latest comma (R265). -/
def State.realignPort (s : State) (p : Port) : State :=
  if s.link p = 3 && 4 ≤ (s.port p).misplaced then
    s.setPort p (fun t => { t with cadence := t.commas.head?, misplaced := 0 })
  else s

/-- The relay's change time has elapsed (R293): the ports train. -/
def State.relayDone (s : State) : State :=
  match s.power.relayAt with
  | some t => if t ≤ s.clk then { s with power := { s.power with relayAt := none } } else s
  | none => s

/-! ### Frame fields (Tables TL-2 to TL-4) -/

namespace Frame
/-- COPY. -/
def copy (b : List Byte) : Bool := bit (byteAt b 1) 0
/-- WRAP. -/
def wrap (b : List Byte) : Bool := bit (byteAt b 1) 1
/-- HOPS. -/
def hops (b : List Byte) : Nat := bits (leAt b 2 2) 11 0
/-- TSTAMP. -/
def stamp (b : List Byte) : Nat := leAt b 4 8
/-- WRAPPOS. -/
def wrappos (b : List Byte) : Nat := bits (leAt b 12 2) 10 0
/-- Slot k, S24. -/
def slot (b : List Byte) (k : Nat) : Int := sx 24 (leAt b (16 + 3 * k) 3)
/-- RELAY. -/
def relay (b : List Byte) : Nat := byteAt b 1016
/-- SENDER. -/
def sender (b : List Byte) : Nat := bits (leAt b 1018 2) 10 0
/-- The header meets its check code, its reserved bits and R267. -/
def headerGood (b : List Byte) (dbl : Bool) : Bool :=
  crc16 ((b.drop 1).take 13) = leAt b 14 2 && bits (byteAt b 1) 7 3 = 0 && bits (leAt b 2 2) 15 12 = 0 && bits (leAt b 12 2) 15 11 = 0 &&
  stamp b % 512 = 0 && bit (byteAt b 1) 2 = dbl
/-- The trailer's reserved bits are 0. -/
def trailerGood (b : List Byte) : Bool := bits (byteAt b 1017) 7 2 = 0 && bits (leAt b 1018 2) 15 11 = 0
/-- The FCRC computed over bytes 1 to 1,019. -/
def fcrc (b : List Byte) : Nat := crc32 ((b.drop 1).take 1019)
end Frame

/-- The messages of a message area from byte k on: the messages, the first free byte (1,008 where none can be appended), and
whether a length ended the parsing (R273, R304). -/
def parseMsgs (b : List Byte) : Nat → Nat → List (List Byte) × Nat × Bool
  | 0, k => ([], k, false)
  | fuel + 1, k =>
    if 1008 ≤ k then ([], 1008, false)
    else
      let n := byteAt b k
      if n = 0 then ([], k, false)
      else if n < 14 || 1008 < k + n then ([], 1008, true)
      else
        let r := parseMsgs b fuel (k + n)
        ((b.drop k).take n :: r.1, r.2.1, r.2.2)

/-- All messages of a frame. -/
def frameMsgs (b : List Byte) : List (List Byte) × Nat × Bool := parseMsgs b 17 784

/-- Places messages from byte k on as far as they fit, in order, at most n of them (R273): the bytes placed, the messages placed, the rest. -/
def placeMsgs : Nat → Nat → List (List Byte) → List (List Byte) × List (List Byte)
  | _, _, [] => ([], [])
  | 0, _, l => ([], l)
  | n + 1, k, m :: t =>
    if k + m.length ≤ 1008 then
      let r := placeMsgs n (k + m.length) t
      (m :: r.1, r.2)
    else ([], m :: t)

/-! ### Maps and slots (R271, R272, R276, R299) -/

/-- Owner entry of slot k in the map for frames stamped stamp: position, or none. -/
def State.slotOwner (s : State) (stamp k : Nat) : Option Nat :=
  let w := if s.trail.mapTime ≤ stamp then s.reg (Adr.TRAIL_SLOTOWN (k / 2))
    else Sp.get (fun _ => 0) s.trail.oldOwn (k / 2)
  let h := if k % 2 = 0 then w % 65536 else w / 65536
  if bit h 15 then some (bits h 10 0) else none

/-- The node's position for frames stamped stamp. -/
def State.posFor (s : State) (stamp : Nat) : Nat := if s.trail.mapTime ≤ stamp then s.fld Adr.TRAIL_POS 10 0 else s.trail.oldPos

/-- Whether a copy holds a fresh value of a slot owned by o at the node at position m (Table TL-5). -/
def slotFresh (b : List Byte) (head : Bool) (o m : Nat) : Bool :=
  let c := Frame.copy b
  if o = 0 then true
  else if Frame.wrap b then (if c then Frame.wrappos b ≤ o else o ≤ Frame.wrappos b)
  else head || (if c then m < o else o < m)

/-- Slots that the receive taps map: the tap, and the slot, both slots of a pair at the double rates (R174). -/
def State.tapSlots (s : State) : List Nat :=
  (List.range 16).flatMap (fun i =>
    let w := s.reg (Adr.SPE_INMAP (48 + i))
    if bit w 8 then (if s.dbl then [bits w 7 0, bits w 7 0 + 1] else [bits w 7 0]) else [])

/-- The node inserts nothing: the trail cycle before BYPASSn falls (R293, R434). -/
def State.quiet (s : State) : Bool := (s.power.trans.map (·.quiet)).getD 0 ≠ 0 || s.power.reloadQuiet = 2

/-- The node inserts audio: a member with a map that is not leaving (R293, R294, R299). -/
def State.insertsAudio (s : State) : Bool := (s.admitted || s.isHead) && !s.flag Adr.TRAIL_NODE 12 && !s.quiet

/-- The value a node inserts in a slot it owns: the sample presented at the stamp, 0 while the sinks carry safe values. -/
def State.insertVal (s : State) (stamp k : Nat) : Int :=
  if s.flag Adr.TRAIL_STAT 2 || 2 ≤ s.trail.realign then 0
  else ((s.trail.ins.find? (fun e => e.1 = stamp && e.2.1 = k)).map (·.2.2)).getD 0

/-- The slots the node owns for frames stamped stamp, with their values. -/
def State.ownSlots (s : State) (stamp : Nat) : List (Nat × Int) :=
  if s.insertsAudio then
    let m := s.posFor stamp
    (List.range 256).filterMap (fun k => if s.slotOwner stamp k = some m then some (k, s.insertVal stamp k) else none)
  else []

/-- Slot values written into the audio area. -/
def putSlots (audio : List Byte) (l : List (Nat × Int)) : List Byte :=
  l.foldl (fun (a : List Byte) p => a.take (3 * p.1) ++ natLE 3 (ux 24 p.2) ++ a.drop (3 * p.1 + 3)) audio

/-! ### Transmitting -/

/-- LINKT of the frame transmitted at tx on port p (R280): the time since the latest comma received there before tx. -/
def State.linkT (s : State) (p : Port) (tx : Nat) : Nat :=
  match (s.port p).commas.find? (fun c => c ≤ tx) with
  | some c => Nat.min (tx - c) (512 * 256)
  | none => 0

/-- A frame with the trailer that this node writes (Table TL-4), its FCRC recomputed and poisoned where asked (R269). -/
def State.finishFrame (s : State) (q : Port) (front : List Byte) (pathdly relay tx : Nat) (poison : Bool) : List Byte :=
  let member := s.admitted || s.isHead
  let status := if !member then 0 else b2n (s.lock = 2 || s.isHead) + 2 * b2n (s.lock = 3)
  let b := front ++ natLE 4 pathdly ++ natLE 4 (s.linkT q tx) ++ natLE 1 relay ++ natLE 1 status ++
    natLE 2 (if member then s.nodeNo else 0)
  let c := crc32 (b.drop 1)
  b ++ natLE 4 (if poison then c ^^^ 0xFFFFFFFF else c)

/-- The message area of 224 bytes. -/
def msgArea (l : List (List Byte)) : List Byte :=
  let b := l.flatten
  (b ++ List.replicate 224 0).take 224

/-- Copies with COPY = c and WRAP = 0 pass the node (R273): the trailhead sends them, or the last copy received on an UP port was one; an UP port
on which no copy has been received yet is taken to bring the copy that the other does not (R294). DEDUCED (log 102, not safe). -/
def State.passes (s : State) (c : Bool) : Bool :=
  [Port.a, Port.b].any (fun p =>
    if s.isHead then s.carries p && (s.port p).outCopy = c
    else
      let brings (q : Port) : Bool := s.link q = 3 && (s.port q).good.isSome && !s.flag (Adr.TRAIL_PSTAT (portIx q)) 5
      s.link p = 3 &&
        (if (s.port p).copied then brings p && s.flag (Adr.TRAIL_PSTAT (portIx p)) 4 = c
        else !(brings (portOther p) && s.flag (Adr.TRAIL_PSTAT (portIx (portOther p))) 4 = c)))

/-- A queued message has gone into every copy that passes the node (R273). -/
def State.gone (s : State) (m : TxMsg) : Bool :=
  (m.gone0 || m.gone1) && (m.gone0 || !s.passes false) && (m.gone1 || !s.passes true)

/-- Queued messages that may go into copy c next, in order (R273, R294, R303): before admission only HELLO messages. -/
def State.dueMsgs (s : State) (c : Bool) : List TxMsg :=
  if s.quiet then []
  else s.trail.txq.filter (fun m =>
    !s.gone m && (if c then !m.gone1 else !m.gone0) && (s.admitted || s.isHead || Msg.type m.bytes = 0x30))

/-- Messages placed in copy c go (R273): a message leaves the queue when it has gone into every copy that passes. DEDUCED (log 102, not safe). -/
def State.markGone (s : State) (c : Bool) (placed : List (List Byte)) : State :=
  s.setTrail (fun t => { t with txq := (t.txq.map (fun m =>
    if placed.contains m.bytes then (if c then { m with gone1 := true } else { m with gone0 := true }) else m)).filter (fun m => !s.gone m) })

/-- A frame begins to leave on port q at local time tx. -/
def State.transmit (s : State) (q : Port) (frame : List Byte) (tx : Nat) (wrapped : Bool) : State :=
  (s.setPort q (fun t => { t with txFrame := frame, sentAt := ((tx, false) :: t.sentAt).take 8 })).setFlag
    (Adr.TRAIL_PSTAT (portIx q)) 6 wrapped

/-- A node begins to wrap the copies of port p: it appends first the messages of the last two copies that it forwarded out of the port that
carries them no longer (R317, R318). DEDUCED (log 103, not safe). -/
def State.beginWrap (s : State) (p : Port) : State :=
  if s.flag (Adr.TRAIL_PSTAT (portIx p)) 6 then s
  else s.setPort p (fun t => { t with recov := (s.port (portOther p)).sent.reverse.flatten, recovLeft := 4 })

/-- After a wrapped copy, the recovered messages not placed wait, or are counted lost after the fourth (R317). -/
def State.recovered (s : State) (p : Port) (rest : List (List Byte)) : State :=
  let left := (s.port p).recovLeft - 1
  let s := if left = 0 && !rest.isEmpty then s.countBy Adr.TRAIL_RECOVLOST rest.length else s
  s.setPort p (fun t => { t with recov := if left = 0 then [] else rest, recovLeft := left })

/-- The forwarding delay, comma to comma: 400 ns within 1 UI (R268), in 2^-8 tick; where in that range is a free value.
DESIGN CHOICE (log 40, safe). -/
def State.drawForward (s : State) : Nat × State :=
  let r := s.draw
  (400 * s.baseHz * 256 / 1000000000 + r.1 % 25 - 12, r.2)

/-- The header that a copy leaves with (R268, R275): HOPS + 1, and on a wrapped copy WRAP and this node's position. -/
def State.outHead (s : State) (b : List Byte) (wrapped : Bool) : List Byte :=
  let head := natLE 1 (byteAt b 1 ||| (if wrapped then 2 else 0)) ++ natLE 2 (leAt b 2 2 / 4096 * 4096 + (Frame.hops b + 1) % 4096) ++
    (b.drop 4).take 8 ++ (if wrapped then natLE 2 (s.posFor (Frame.stamp b)) else (b.drop 12).take 2)
  b.take 1 ++ head ++ natLE 2 (crc16 head)

/-- Cut-through (R268): the copy whose header is checked begins to leave, forwarded or wrapped; the local time at which it does, none where the
port carries no frames. -/
def State.beginForward (s : State) (p : Port) (b : List Byte) (wrapped : Bool) (rx : Nat) : Option Nat × State :=
  let q := if wrapped then p else portOther p
  if !s.carries q then (none, s)
  else
    let d := (if wrapped then s.beginWrap p else s).drawForward
    let s := d.2
    let tx := rx + d.1
    (some tx, (s.transmit q (s.outHead b wrapped) tx wrapped).setPort q (fun t => { t with outCopy := Frame.copy b }))

/-- The rest of a copy that began to leave at tx (R269, R273): slots, messages and trailer. The messages of this node that went into their first
copy, and the state. DEDUCED (log 103, not safe). -/
def State.endForward (s : State) (p : Port) (b : List Byte) (h : RxCopy) (tx : Nat) (bad : Bool) (path : Nat) : List (List Byte) × State :=
  let wrapped := h.dest = 2
  let q := h.out p
  let c := Frame.copy b
  let stamp := Frame.stamp b
  let may := !Frame.wrap b
  let audio := putSlots ((b.drop 16).take 768) (if may then s.ownSlots stamp else [])
  let old := frameMsgs b
  let rec_ := if wrapped then placeMsgs 256 old.2.1 (s.port p).recov else ([], [])
  let k := old.2.1 + rec_.1.flatten.length
  let own := if may then placeMsgs 4 k ((s.dueMsgs c).map (·.bytes)) else ([], [])
  let area := ((b.drop 784).take (old.2.1 - 784)) ++ rec_.1.flatten ++ own.1.flatten
  let area := if old.2.2 then (b.drop 784).take 224 else (area ++ List.replicate 224 0).take 224
  let frame := s.finishFrame q (s.outHead b wrapped ++ audio ++ area) ((path + (tx - h.rx)) % 2 ^ 32) (Frame.relay b) tx bad
  let first := (s.dueMsgs c).filter (fun m => own.1.contains m.bytes && !m.gone0 && !m.gone1)
  let live := s.carries q
  let kept := if bad then [] else if live then old.1 ++ own.1 else old.1
  let s := if wrapped then s else s.setPort q (fun t => { t with sent := kept :: t.sent.take 1 })
  if !live then ([], s.sentBad q tx)
  else
    let s := s.setPort q (fun t => { t with txFrame := frame })
    if bad then ([], s.sentBad q tx)
    else
      let s := if wrapped then s.recovered p rec_.2 else s
      (first.map (·.bytes), s.markGone c own.1)

/-! ### Receiving -/

/-- A node without a pack still takes its rate from the frames it hears (R431). -/
def State.learning (s : State) : Bool := s.flag Adr.PACK_STAT 3 && !s.trail.learned

/-- The rate of a node without a pack: DBL of the frame, and the family from the frame period in ticks of the 48 kHz base clock. -/
def State.learnRate (s : State) (p : Port) (b : List Byte) (rx : Nat) : State :=
  if s.learning then
    let s := s.setFlag Adr.CLK_RATE 1 (bit (byteAt b 1) 2)
    match (s.port p).cadence with
    | some c => if c + 534 * 256 ≤ rx && rx ≤ c + 581 * 256 then s.setFlag Adr.CLK_RATE 0 true else s
    | none => s
  else s

/-- A comma arrives at local time rx (R265): whether it begins a frame. One that does not marks the copy in progress bad. -/
def State.commaAt (s : State) (p : Port) (rx : Nat) : Bool × State :=
  let t := s.port p
  let inWindow := match t.cadence with
    | none => true
    | some c => s.learning || c + 512 * 256 ≤ rx + 25 && rx ≤ c + 512 * 256 + 25
  let s := s.setPort p (fun t => { t with commas := (rx :: t.commas).take 4 })
  if inWindow then (true, (s.cutCopy p).setPort p (fun t => { t with cadence := some rx, misplaced := 0 }))
  else
    let s := s.setPort p (fun t => { t with misplaced := t.misplaced + 1, hdr := t.hdr.map (fun h => { h with bad := true }) })
    (false, s.codeError p 1)

/-- A header has been checked (R268, R274, R275): the copy goes on, or is wrapped, or ends here. -/
def State.headerOn (s : State) (p : Port) (b : List Byte) (rx : Nat) : State :=
  let s := s.setTrail (fun t => { t with heard := true })
  let s := s.learnRate p b rx
  let r := s.commaAt p rx
  let s := r.2
  if !r.1 then s
  else
    let dest := if s.isHead then 0
      else if s.onward (portOther p) && !s.retired (portIx (portOther p)) then 1
      else if Frame.wrap b then 0 else 2
    let f := if dest = 0 then (none, s) else s.beginForward p b (dest = 2) rx
    f.2.setPort p (fun t => { t with peer := 2, hdr := some ⟨rx, b.take 16, !Frame.headerGood b s.dbl, dest, f.1⟩ })

/-- The average link delay of a port in 2^-8 tick (R280): the mean of the doubled samples, halved; the rounding is a free value.
DESIGN CHOICE (log 39, safe). DEDUCED (log 76, not safe). -/
def meanLink (l : List Int) : Int :=
  let n : Int := 2 * (l.length : Int)
  let x := l.foldl (· + ·) 0
  if n = 0 then 0 else if x % n = 0 then x / n else x / n + (if Config.roundUp (mkRat x n.toNat) then 1 else 0)

/-- The link delay takes a sample, unless the node's own frame of the exchange was sent bad (R280). DEDUCED (log 76, not safe). -/
def State.linkSample (s : State) (p : Port) (b : List Byte) (rx : Nat) : State :=
  let linkt := leAt b 1012 4
  match (s.port p).sentAt.find? (fun e => e.1 + linkt ≤ rx) with
  | some (_, true) => s
  | some (tx, false) =>
    let x := (rx : Int) - (tx : Int) - (linkt : Int) + sx 16 (s.reg (Adr.TRAIL_ASYM (portIx p)))
    let s := s.setPort p (fun t => { t with links := (x :: t.links).take 256 })
    s.setReg (Adr.TRAIL_LINK (portIx p)) (ux 32 (meanLink (s.port p).links))
  | none => s

/-- The path delay of a copy on port p (R281). -/
def State.pathOf (s : State) (p : Port) (b : List Byte) : Nat :=
  ((leAt b 1008 4 : Int) + sx 32 (s.reg (Adr.TRAIL_LINK (portIx p)))).toNat

/-- 2 ns in millionths of 2^-8 tick, rounded down (Table TL-6, R285). DEDUCED (log 77, not safe). -/
def State.twoNs (s : State) : Int := ((512 * s.baseHz / 1000 : Nat) : Int)

/-- Trail time is set from a good copy (Table TL-6): TSTAMP + P plus the time since its comma. DEDUCED (log 8, not safe). -/
def State.setTime (s : State) (b : List Byte) (rx path : Nat) : State :=
  (s.setTrail (fun u => { u with needTime := false, steady := 0, offs := 0, err := 0, timingPort := none })).setTime8
    (Frame.stamp b * 256 + path + (s.now8 - rx))

/-- The copy of port p is the timing copy (R283): the fewer HOPS, port A where they are equal; a lost or bad one no longer counts.
DEDUCED (log 38, not safe). -/
def State.isTiming (s : State) (p : Port) (hops stamp : Nat) : Bool :=
  match (s.port (portOther p)).good with
  | none => true
  | some (h, st) => st + 1024 ≤ stamp || hops < h || (hops = h && p = Port.a)

/-- The timing copy changes to that of port p (R283): the difference between the two estimates, as last measured, is added. -/
def State.switchTiming (s : State) (p : Port) : State :=
  s.setTrail (fun t => { t with
    timingPort := some p
    offs := if t.timingPort = some (portOther p) then t.offs + 1000000 * (if p = .b then t.diff else -t.diff) else t.offs })

/-- The pull of the loop for an error in millionths of 2^-8 tick: its coefficients are not given, ±500 ppm bounds it (R282, R285).
DESIGN CHOICE (log 104, safe). -/
def State.pullFor (s : State) (e : Int) : Int := max (-128000) (min 128000 (Config.trailPull e s.trail.pull))

/-- A good copy of the timing copy gives an error sample (R282 to R285): e is what the loop sees, in millionths of 2^-8 tick. -/
def State.errorSample (s : State) (raw : Int) : State :=
  let e := 1000000 * raw + s.trail.offs
  let small := decide (-s.twoNs ≤ e ∧ e ≤ s.twoNs)
  let hold := s.lock = 3 && !s.flag Adr.TRAIL_STAT 2
  let s := s.setTrail (fun t => { t with
    err := raw
    steady := if small then t.steady + 1 else 0
    errs := if hold then (raw :: t.errs).take 16 else []
    pull := if hold then t.pull else s.pullFor e })
  if s.flag Adr.TRAIL_STAT 2 then s.setReg Adr.TRAIL_OFFSET (ux 32 (raw / 256)) else s

/-- LEADSHORT judged on a frame's earliest good copy (R288, R489). DEDUCED (log 87, not safe). -/
def State.judgeLead (s : State) (stamp path : Nat) : State :=
  if !s.trail.judged.contains stamp then
    let s := s.setTrail (fun t => { t with judged := (stamp :: t.judged).take 512 })
    let need := if s.dbl then 1284 else 2052
    s.setTrailFlag 6 (decide (512 * s.fld Adr.TRAIL_LEAD 8 0 * 256 < path + need * 256)) 0x05
  else s

/-- A value that Table NS-4 allows as the system lead. -/
def State.leadOk (s : State) (n : Nat) : Bool := 12 ≤ n && n ≤ (if s.fam44 then 441 else 480)

/-- A good copy updates its port and the loop (R267, R280 to R285). DEDUCED (log 31, not safe). DEDUCED (log 38, not safe). -/
def State.goodCopy (s : State) (p : Port) (b : List Byte) (rx : Nat) : State :=
  let i := portIx p
  let s := s.linkSample p b rx
  let path := s.pathOf p b
  let st := byteAt b 1017
  let w := s.reg (Adr.TRAIL_PSTAT i)
  let w := putBit (putBit (putBit w 3 true) 4 (Frame.copy b)) 5 (Frame.wrap b)
  let w := putBit (putBits w 18 8 (Frame.sender b)) 19 (bit st 0)
  let s := (s.setReg (Adr.TRAIL_PSTAT i) w).setReg (Adr.TRAIL_PATH i) (path % 2 ^ 32)
  let hops := Frame.hops b
  let stamp := Frame.stamp b
  let timing := s.isTiming p hops stamp
  let s := if s.trail.needTime && s.admitted && !s.isHead then s.setTime b rx path else s
  let raw := s.trailOf rx - (path : Int) - ((stamp * 256 : Nat) : Int)
  let s := if timing then s.switchTiming p else s
  let s := s.setPort p (fun t => { t with
    copied := true
    good := some (hops, stamp)
    err := raw
    copy := some b
    goodAt := if Frame.wrap b then t.goodAt else some s.clk })
  let s := s.setTrail (fun t => { t with
    gotGood := true
    diff := if (s.port (portOther p)).good.isSome then t.a.err - t.b.err else t.diff })
  let s := s.setFlag (Adr.TRAIL_PSTAT i) 7 timing
  let s := if timing then s.setFlag (Adr.TRAIL_PSTAT (1 - i)) 7 false else s
  let s := if timing && !s.isHead then s.errorSample raw else s
  let s := s.judgeLead stamp path
  let q := portOther p
  let closed := !Frame.wrap b && (s.port q).good.isSome && s.flag (Adr.TRAIL_PSTAT (1 - i)) 3 && !s.flag (Adr.TRAIL_PSTAT (1 - i)) 5
  (s.setTrailFlag 5 closed 0x04).judgeArmed

/-- A bad copy on port p (R267). -/
def State.badCopy (s : State) (p : Port) : State :=
  let s := s.setPort p (fun t => { t with copied := true, good := none })
  let s := (s.setFlag (Adr.TRAIL_PSTAT (portIx p)) 3 false).setFlag (Adr.TRAIL_PSTAT (portIx p)) 7 false
  (s.setTrailFlag 5 false 0x04).judgeArmed

/-- A whole copy has been received (R267 to R270, R279 to R283): the messages of this node that went into their first copy, and the
state. Its comma and header were met before, or are met now; one whose comma was misplaced is no frame. -/
def State.frameIn (s : State) (p : Port) (b : List Byte) (codeErrs rx : Nat) : List (List Byte) × State :=
  if !s.inserted || s.link p ≠ 3 then ([], s)
  else
    let met := (s.port p).commas.contains rx
    let s := (if met then s else s.headerOn p b rx).codeError p codeErrs
    match (s.port p).hdr with
    | none => ([], s)
    | some h =>
      if h.rx ≠ rx then ([], s)
      else
        let s := s.setPort p (fun t => { t with hdr := none })
        let f := Frame.fcrc b
        let got := leAt b 1020 4
        let s := if f = got then s
          else if got = f ^^^ 0xFFFFFFFF then s.count (Adr.TRAIL_POISONA + 4 * portIx p)
          else (s.count (Adr.TRAIL_CRCERRA + 4 * portIx p)).noteErr (portIx p)
        let bad := h.bad || codeErrs ≠ 0 || f ≠ got || h.head ≠ b.take 16 || !Frame.trailerGood b || !Frame.headerGood b s.dbl
        let s := if bad then s.badCopy p else s.goodCopy p b rx
        match h.tx with
        | some tx => s.endForward p b h tx bad (s.pathOf p b)
        | none => ([], s)

/-- The lead in ticks at trail time b (R26, R306, R307): a LEAD event that is due by then counts. -/
def State.leadAt (s : State) (b : Nat) : Nat :=
  let due := (s.trail.timed ++ s.trail.events).filter (fun e => e.time ≤ b)
  512 * due.foldl (fun l e => match e.act with | .lead n => if s.leadOk n then n else l | _ => l) (s.fld Adr.TRAIL_LEAD 8 0)

/-- A tap sample enters the buffer of 512 frames, unless one is there (R276, R287). -/
def State.bufPut (s : State) (stamp k : Nat) (x : Int) : State :=
  if s.trail.buf.any (fun e => e.1 = stamp && e.2.1 = k) then s
  else s.setTrail (fun t => { t with buf := (stamp, k, x) :: t.buf })

/-- The slot samples of a good copy enter the receive-tap buffer (R174, R276, R277, R287): a slot that no node owns is delivered as it came. A
relayed sample that is late counts once. -/
def State.takeSlots (s : State) (b : List Byte) : State :=
  let stamp := Frame.stamp b
  let s := s.setTrail (fun t => { t with
    buf := t.buf.filter (fun e => stamp < e.1 + 512 * 512)
    late := t.late.filter (fun e => stamp < e.1 + 512 * 512) })
  let m := s.posFor stamp
  let r := Frame.relay b
  s.tapSlots.foldl (fun s k =>
    let fresh := match s.slotOwner stamp k with
      | none => true
      | some o => slotFresh b s.isHead o m
    if fresh then s.bufPut stamp k (Frame.slot b k)
    else if r = 0 || stamp < 512 * r then s
    else
      let st := stamp - 512 * r
      if s.trail.buf.any (fun e => e.1 = st && e.2.1 = k) || s.trail.late.contains (st, k) then s
      else
        let shown := st + s.leadAt st + (if s.dbl && k % 2 = 1 then 256 else 0)
        if shown < s.time + s.spt then
          (s.count Adr.TRAIL_RELAYLATE).setTrail (fun t => { t with late := (st, k) :: t.late })
        else s.bufPut st k (Frame.slot b k)) s

/-- The trailhead relays a wrapped copy that returns (R277); one that returns whole ends the break. -/
def State.takeRelay (s : State) (p : Port) (b : List Byte) : State :=
  if !s.isHead then s
  else if Frame.wrap b then
    let stamp := Frame.stamp b
    let slots := (List.range 256).filterMap (fun k =>
      match s.slotOwner stamp k with
      | some o => if o ≠ 0 && slotFresh b true o 0 then some (k, ux 24 (Frame.slot b k)) else none
      | none => none)
    s.setTrail (fun t => { t with relays := t.relays ++ [⟨portOther p, stamp, Frame.wrappos b, slots, (frameMsgs b).1, s.time - 4⟩] })
  else s.setPort (portOther p) (fun t => { t with relayR := none })

/-! ### Receive taps at a boundary (R174, R307) -/

/-- The values of the 16 receive taps for the sample presented at B; repeats are counted in TRAIL_TAPMISS. -/
def State.tapsFor (s : State) (b : Nat) : State :=
  let lead := s.leadAt b
  let at_ := b - lead
  let shown : Bool := match s.trail.tapAt with | some x => at_ ≤ x | none => false
  let stamp := at_ / 512 * 512
  let half := if s.dbl && 256 ≤ at_ % 512 then 1 else 0
  let silent := s.flag Adr.TRAIL_STAT 2
  let r := (List.range 16).foldl (fun (p : List Int × State) i =>
      let w := s.reg (Adr.SPE_INMAP (48 + i))
      let old := s.trail.tapVal.getD i 0
      if !bit w 8 then (p.1 ++ [0], p.2)
      else if silent then (p.1 ++ [0], p.2)
      else
        let hit := if shown || b < lead then none
          else s.trail.buf.find? (fun e => e.1 = stamp && e.2.1 = bits w 7 0 + half)
        match hit with
        | some e => (p.1 ++ [e.2.2], p.2)
        | none => (p.1 ++ [old], p.2.count Adr.TRAIL_TAPMISS)) (([] : List Int), s)
  r.2.setTrail (fun t => { t with tapVal := r.1, tapAt := if shown then t.tapAt else some at_ })

/-! ### Lock states (R284 to R286) -/

/-- LOCKED is entered (Table TL-6). -/
def State.lockOn (s : State) : State :=
  if s.lock = 1 && 256 ≤ s.trail.steady then (s.setLock 2).judgeArmed else s

/-- HOLDOVER is entered after 32 trail cycles with no good copy (Table TL-6). -/
def State.holdOn (s : State) : State :=
  if (s.lock = 1 || s.lock = 2 || s.lock = 3) && !s.isHead && 32 ≤ s.trail.missed && s.trail.realign = 0 then
    let s := (s.setFlag Adr.TRAIL_STAT 2 false).setReg Adr.TRAIL_OFFSET 0
    ((s.setTrail (fun t => { t with errs := [], steady := 0, offs := 0, timingPort := none })).setLock 3).judgeArmed
  else s

/-- HOLDOVER is left after 16 good frames: by the e measured over them, slewing or a hard realignment (R285). e, in 2^-8 tick, lies among the
errors of the 16 frames; how they make it is open. DESIGN CHOICE (log 105, safe). -/
def State.holdOff (s : State) (e : Int) : State :=
  let measured := s.trail.errs.length = 16 && s.trail.errs.any (fun x => decide (x ≤ e)) && s.trail.errs.any (fun x => decide (e ≤ x))
  if s.lock = 3 && !s.flag Adr.TRAIL_STAT 2 && s.trail.realign = 0 && measured then
    let lim : Int := ((s.baseHz * 256 / 50 : Nat) : Int)
    if -lim ≤ e ∧ e ≤ lim then
      ((s.setFlag Adr.TRAIL_STAT 2 true).setReg Adr.TRAIL_OFFSET (ux 32 (s.trail.err / 256))).setTrail (fun t => { t with steady := 0 })
    else (s.setFlag Adr.TRAIL_STAT 3 true).setTrail (fun t => { t with realign := 1 })
  else s

/-- Slewing ends (R285). DEDUCED (log 77, not safe). -/
def State.slewOff (s : State) : State :=
  if s.lock = 3 && s.flag Adr.TRAIL_STAT 2 && 1 ≤ s.trail.steady then
    (((s.setFlag Adr.TRAIL_STAT 2 false).setReg Adr.TRAIL_OFFSET 0).setLock 2).judgeArmed
  else s

/-- The realignment mute ends at the first boundary at or after its end (R286). -/
def State.realignOff (s : State) : State :=
  if s.trail.realign = 3 && s.trail.realignEnd ≤ s.time then
    (((s.setTrail (fun t => { t with realign := 0 })).setFlag Adr.TRAIL_STAT 3 false).setLock 2).judgeArmed
  else s

/-- Steps 1 and 2 of a hard realignment at a sample boundary (R286): trail time becomes that of the reference, by the latest e, and the phase
counter 0. DEDUCED (log 8, not safe). -/
def State.realignStep (s : State) : State :=
  if s.trail.realign = 1 then s.setTrail (fun t => { t with realign := 2 })
  else if s.trail.realign = 2 then
    let now8 := ((s.time8 : Int) - s.trail.err).toNat
    let now := now8 / 256
    let gone := s.trail.events.filter (fun e => boundaryAt s.spt e.time < now)
    let stop := now + 512 * (if s.fam44 then 89 else 96)
    let s := s.countBy Adr.TRAIL_RTDISC gone.length
    let s := { s.setTime8 now8 with phase := 0 }
    s.setTrail (fun t => { t with
      realign := 3
      realignEnd := boundaryAt s.spt stop
      events := t.events.filter (fun e => now ≤ boundaryAt s.spt e.time)
      err := 0
      offs := 0
      tapAt := none })
  else s

/-- What is left of an added difference falls by 1 ns per ms (R283). -/
def fallOff (x : Int) : Int := if 0 ≤ x then max 0 (x - 131072) else min 0 (x + 131072)

/-- Good copies with WRAP = 0 arrive on both ports: none has been missing for two trail cycles. DEDUCED (log 106, not safe). -/
def State.bothArrive (s : State) : Bool :=
  [Port.a, Port.b].all (fun p => match (s.port p).goodAt with | some t => s.clk < t + 1024 | none => false)

/-- A trail cycle ends (Table TL-6, R283): cycles without a good copy are counted, and RINGCLOSED follows the copies. -/
def State.cycleEnd (s : State) : State :=
  let s := s.setTrail (fun t => { t with missed := if t.gotGood then 0 else t.missed + 1, gotGood := false, offs := fallOff t.offs })
  if s.bothArrive then s else s.setTrailFlag 5 false 0x04

/-- NOMAP takes a value; a change posts an EPOCH record (Table TD-11). -/
def State.setNomap (s : State) (b : Bool) : State :=
  if s.flag Adr.TRAIL_NODE 12 = b then s
  else
    let s := s.setFlag Adr.TRAIL_NODE 12 b
    s.tstat 0x07 (b2n b) 0 (s.reg Adr.TRAIL_EPOCH)

/-- A generating node stops and joins as a member (R316). -/
def State.stopHead (s : State) : State :=
  let s := (s.setRole 5 false).setTrailFlag 4 false 0x03
  let s := (s.setNomap false).setReg Adr.TRAIL_NODE 0
  let s := s.setTrail (fun t => { t with
    delay := 0, started := none, stopping := false, commitFor := none, relays := [], nodes := [], helloNow := true, helloAt := s.clk })
  s.setLock 0

/-! ### The trailhead's frames (R19, R272, R277, R315) -/

/-- The job that the frame stamped stamp on port q relays, with its distance R (R277): the first frame that starts 16 ticks after the copy was
received whole fixes R for the break, and later copies of the same break are relayed R cycles after their own stamps. -/
def State.relayJob (s : State) (q : Port) (stamp : Nat) : Option (RelayJob × Nat) :=
  let jobs := s.trail.relays.filter (fun j => j.out = q)
  let fits (j : RelayJob) (r : Nat) : Bool := (j.at_ + 16) * 256 ≤ stamp * 256 + s.trail.delay && j.stamp + 512 * r = stamp && 1 ≤ r && r ≤ 255
  jobs.findSome? (fun j =>
    match (s.port q).relayR with
    | some (w, r) => if w = j.wrappos then (if fits j r then some (j, r) else none)
        else if fits j ((stamp - j.stamp) / 512) then some (j, (stamp - j.stamp) / 512) else none
    | none => if fits j ((stamp - j.stamp) / 512) then some (j, (stamp - j.stamp) / 512) else none)

/-- The jobs of port q that a frame stamped stamp or an earlier one was to relay are over. -/
def State.dropJobs (s : State) (q : Port) (stamp : Nat) (job : Option (RelayJob × Nat)) : State :=
  let s := match job with
    | some (j, r) => s.setPort q (fun t => { t with relayR := some (j.wrappos, r) })
    | none => s
  let due (j : RelayJob) : Bool := (j.at_ + 16) * 256 ≤ stamp * 256 + s.trail.delay
  let past (j : RelayJob) : Bool := j.out = q && (match (s.port q).relayR with
    | some (w, r) => if w = j.wrappos then j.stamp + 512 * r ≤ stamp else due j
    | none => due j)
  s.setTrail (fun t => { t with relays := t.relays.filter (fun j => !past j) })

/-- One frame of the trailhead on port q, whose comma leaves at local time tx. -/
def State.headFrame (s : State) (q : Port) (stamp tx : Nat) : List (List Byte) × State :=
  if !s.carries q then ([], s.dropJobs q stamp none)
  else
    let c := (s.port q).outCopy
    let job := s.relayJob q stamp
    let head := natLE 1 (b2n c + 4 * b2n s.dbl) ++ natLE 2 0 ++ natLE 8 stamp ++ natLE 2 0
    let head := [(0xBC : Byte)] ++ head ++ natLE 2 (crc16 head)
    let relayed := match job with
      | some (j, _) => j.slots.map (fun p => (p.1, sx 24 p.2))
      | none => []
    let audio := putSlots (List.replicate 768 0) (relayed ++ s.ownSlots stamp)
    let rm := match job with | some (j, _) => (placeMsgs 256 784 j.msgs).1 | none => []
    let own := placeMsgs 4 (784 + rm.flatten.length) ((s.dueMsgs c).map (·.bytes))
    let r := match job with | some (_, r) => r | none => 0
    let first := (s.dueMsgs c).filter (fun m => own.1.contains m.bytes && !m.gone0 && !m.gone1)
    let frame := s.finishFrame q (head ++ audio ++ msgArea (rm ++ own.1)) s.trail.delay r tx false
    let s := (s.transmit q frame tx false).dropJobs q stamp job
    let s := s.setPort q (fun t => { t with sent := (rm ++ own.1) :: t.sent.take 1 })
    (first.map (·.bytes), s.markGone c own.1)

/-- The stamp of the frame that is due at a trailhead in this tick, with the time since its start in 2^-8 tick (R19, R315). -/
def State.frameDue (s : State) : Option (Nat × Nat) :=
  if s.isHead && s.inserted && s.trail.delay ≤ s.time8 then
    let x := s.time8 - s.trail.delay
    let stamp := x / 131072 * 512
    let new := match s.trail.started with
      | some y => y < stamp
      | none => true
    if x % 131072 < 256 && new then some (stamp, x % 131072) else none
  else none

/-- A frame starts on each port (R19), unless a claim has ended the generating of frames (R316). -/
def State.startFrame (s : State) : List (List Byte) × State :=
  match s.frameDue with
  | some (stamp, ago) =>
    if s.trail.stopping then ([], s.stopHead)
    else
      let r := s.headFrame .a stamp (s.now8 - ago)
      let q := r.2.headFrame .b stamp (s.now8 - ago)
      (r.1 ++ q.1, q.2.setTrail (fun t => { t with started := some stamp }))
  | none => ([], s)

/-- The second sample of a pair at the double rates (R28) enters the frame that the trailhead is sending. -/
def State.headPatch (s : State) (q : Port) (stamp : Nat) : State :=
  let b := (s.port q).txFrame
  if s.isHead && s.carries q && s.trail.started = some stamp && b.length = 1024 then
    let b := b.take 16 ++ putSlots ((b.drop 16).take 768) ((s.ownSlots stamp).filter (fun e => e.1 % 2 = 1)) ++ (b.drop 784).take 236
    s.setPort q (fun t => { t with txFrame := b ++ natLE 4 (crc32 (b.drop 1)) })
  else s

/-- The node becomes trailhead: position 0 and node 0 unless it took over, LOCKED, admitted (R271, R282, R296). DEDUCED (log 85, not safe). -/
def State.becomeHead (s : State) : State :=
  let s := s.setTrail (fun t => { t with
    listenAt := none, started := none, needTime := false, stopping := false
    a := { t.a with outCopy := false }, b := { t.b with outCopy := true } })
  let s := s.setReg Adr.TRAIL_NODE 0x800
  let s := s.setReg Adr.TRAIL_POS 0
  (s.setTrailFlag 4 true 0x03).setLock 2

/-- Listening ends (R316). -/
def State.listenEnd (s : State) : State :=
  match s.trail.listenAt with
  | some t =>
    if s.elapsed t (s.msTicks 2) then
      if s.trail.heard then s.setTrail (fun u => { u with listenAt := none }) else s.becomeHead
    else s
  | none => s

/-- The latest frame whose comma was due on port p 8 ticks ago or more (R315). DEDUCED (log 107, not safe). -/
def State.commaDue (s : State) (p : Port) : Nat := (s.time8 - s.reg (Adr.TRAIL_PATH (portIx p)) - 8 * 256) / 131072 * 512

/-- The comma of the frame stamped stamp, or of a later one, has arrived on port p. -/
def State.commaCame (s : State) (p : Port) (stamp : Nat) : Bool :=
  (s.port p).commas.any (fun c => decide (((stamp * 256 + s.reg (Adr.TRAIL_PATH (portIx p)) : Nat) : Int) ≤ s.trailOf c + 256 * 256))

/-- The stamp of the frame that has not arrived at an armed standby on either port, with the path delay of the port that faces the trailhead
(R315). DEDUCED (log 107, not safe). -/
def State.missedFrame (s : State) : Option (Nat × Nat) :=
  let stamp := Nat.min (s.commaDue .a) (s.commaDue .b)
  if s.commaCame .a stamp || s.commaCame .b stamp then none
  else some (stamp, s.reg (Adr.TRAIL_PATH (if s.nearHead 0 then 0 else 1)))

/-- The body of HEAD_CLAIM (R315). -/
def State.claimBody (s : State) : List Byte := natLE 8 Config.serial ++ natLE 2 s.nodeNo

/-- An armed standby takes over (R315). -/
def State.takeOver (s : State) : State :=
  if s.flag Adr.TRAIL_ROLE 4 && !s.isHead && s.inserted then
    match s.missedFrame with
    | some (stamp, path) =>
      let h := match Sp.find s.trail.win 0 with | some w => w.1 | none => 0
      let s := s.setTrail (fun t => { t with
        delay := path + 16 * 256
        started := some (stamp - 512)
        stopping := false
        seq0 := (h + 64) % 65536 })
      let s := ((s.setRole 4 false).setRole 5 true).setTrailFlag 4 true 0x03
      s.enqueue (s.hardwareMsg 0x35 63 0 6 true false false s.claimBody) false false
    | none => s
  else s

/-! ### Rows that only the Trail's own state decides -/

/-- HEAD_TAKEOVER (R315). -/
def execHeadTakeover (s : State) : Out := s.run fun s => s.takeOver

/-- HEAD_LISTEN_END (R316). -/
def execHeadListenEnd (s : State) : Out := s.run fun s => s.listenEnd

/-- SIGNAL_DETECT (R262). -/
def execSignalDetect (p : Port) (s : State) : Out := s.run fun s => (s.signalOn p)

/-- COMMA_FOUND (R262). -/
def execCommaFound (p : Port) (s : State) : Out := s.run fun s => (s.commaOn p)

/-- PORT_REALIGN (R265). -/
def execPortRealign (p : Port) (s : State) : Out := s.run fun s => (s.realignPort p)

/-- RELAY_TIME (R293). -/
def execRelayTime (s : State) : Out := s.run fun s => s.relayDone

/-- LOCKED (R284). -/
def execLocked (s : State) : Out := s.run fun s => s.lockOn

/-- HOLDOVER (R284). -/
def execHoldover (s : State) : Out := s.run fun s => s.holdOn

/-- HOLDOVER_EXIT (R285). DESIGN CHOICE (log 105, safe). -/
def execHoldoverExit (e : Int) (s : State) : Out := s.run fun s => s.holdOff e

/-- SLEW_END (R285). -/
def execSlewEnd (s : State) : Out := s.run fun s => s.slewOff

/-- REALIGN_MUTE_END (R286). -/
def execRealignMuteEnd (s : State) : Out := s.run fun s => s.realignOff

end Sys2Proof.Machine
end

