-- ==== Sys2Proof/Machine/VoiceWords.lean ====
section
/-!
DEFINITION. The parameter block of a voice (R37, R38): what each word accepts, the rules that relate several words, how a change takes
effect (codes G, F, S, I, X and N), and what a read returns.
-/
namespace Sys2Proof.Machine

/-! ### Access and value rules (pass 1 of R458) -/

/-- Words that no rule defines (Table VS-1). -/
def wordUndefined (w : Nat) : Bool := (0xB0 ≤ w && w ≤ 0xBF) || 0xDC ≤ w

/-- Read-only words (Table VS-1). -/
def wordReadOnly (w : Nat) : Bool := (0x8C ≤ w && w ≤ 0x8F) || (0xC0 ≤ w && w ≤ 0xDB)

/-- Whether an oscillator MODE word holds a reserved bit or combination (R46). -/
def modeReserved (x : Nat) : Bool :=
  let m := bits x 15 13
  let o := bits x 3 2
  bits x 1 0 ≠ 0 || m = 7 || (m = 2 && bit o 1) || (m = 6 && o = 3) || (m ≠ 2 && m ≠ 6 && o ≠ 0)

/-- Whether word w may not hold x because of a reserved bit or value (R9). -/
def wordReserved (w x : Nat) : Bool :=
  if w = 0x00 then bits x 15 12 ≠ 1 || bits x 8 0 ≠ 0
  else if w = 0x05 || w = 0x07 then 2 ≤ x
  else if w = 0x08 || w = 0x10 then modeReserved x
  else if w = 0x09 || w = 0x11 then bits x 15 12 ≠ 0
  else if w = 0x18 then 5 ≤ bits x 2 0 || bits x 15 4 ≠ 0
  else if w = 0x1E || w = 0x1F || w = 0x7D || w = 0x7E || w = 0x89 then x ≠ 0
  else if 0x20 ≤ w && w ≤ 0x4F then (if w % 2 = 0 then bits x 15 14 = 3 else 6 ≤ bits x 15 13)
  else if w = 0x50 || w = 0x54 then bits x 2 0 = 7 || bits x 4 3 = 3 || bits x 15 6 ≠ 0
  else if w = 0x52 || w = 0x56 || w = 0x7B then bits x 15 14 ≠ 0
  else if 0x58 ≤ w && w ≤ 0x6F then w % 2 = 0 && (18 ≤ bits x 4 0 || 18 ≤ bits x 9 5 || 22 ≤ bits x 15 10)
  else if w = 0x72 || w = 0x73 then bits x 15 10 ≠ 0
  else if w = 0x78 || w = 0x79 || w = 0x7A then bits x 1 0 = 3 || bits x 15 3 ≠ 0
  else if w = 0x7C then 9 ≤ bits x 3 0 || bits x 7 5 ≠ 0
  else if w = 0x93 then bits x 15 3 ≠ 0
  else if 0x99 ≤ w && w ≤ 0xAF then x ≠ 0
  else false

/-- Whether x lies outside the range of word w. -/
def wordRange (w x : Nat) : Bool :=
  if w = 0x01 then sx 16 x < -3072 || 3072 < sx 16 x
  else if w = 0x02 then 6144 < x
  else if w = 0x80 then 32767 < x
  else if w = 0x94 then x = 0
  else false

/-- The status that one written word meets by itself (pass 1 of R458, in the order of R459). -/
def wordStatus (w x : Nat) : Nat := firstFail [
  (wordUndefined w, St.noaddr), (wordReadOnly w, St.readonly), (wordReserved w x, St.reserved), (wordRange w x, St.range)]

/-! ### Rules over several words (pass 2 of R458) -/

/-- SEGT and SEGL of segment s of the envelope at base e. -/
def segKind (g : Nat → Nat) (e s : Nat) : Nat := bits (g (e + 2 * s + 1)) 15 13
/-- TIME of a segment. -/
def segTime (g : Nat → Nat) (e s : Nat) : Nat := bits (g (e + 2 * s)) 13 0
/-- CURVE of a segment. -/
def segCurve (g : Nat → Nat) (e s : Nat) : Nat := bits (g (e + 2 * s)) 15 14
/-- LEVEL of a segment. -/
def segLevel (g : Nat → Nat) (e s : Nat) : Nat := bits (g (e + 2 * s + 1)) 12 0

/-- Segment numbers. -/
def segs : List Nat := [0, 1, 2, 3, 4, 5, 6, 7]

/-- R95: whether the envelope at base e is valid. -/
def envValid (g : Nat → Nat) (e : Nat) : Bool :=
  let k := segKind g e
  let kinds (x : Nat) : List Nat := segs.filter (fun s => k s = x)
  segs.all (fun s =>
    (k s ≠ 0 || (segTime g e s = 0 && segCurve g e s = 0 && segLevel g e s = 0)) &&
    (k s ≠ 2 || (segCurve g e s = 0 && segLevel g e s = 0)) &&
    (k s ≠ 5 || (segTime g e s = 0 && segCurve g e s = 0 && bits (segLevel g e s) 12 3 = 0 && segLevel g e s < s &&
      segs.any (fun j => segLevel g e s ≤ j && j < s && segTime g e j ≠ 0))) &&
    (k s ≠ 4 || segs.all (fun j => (k j ≠ 3 && k j ≠ 5) || j < s)) &&
    (k s ≠ 0 || segs.all (fun j => j ≤ s || (g (e + 2 * j) = 0 && g (e + 2 * j + 1) = 0)))) &&
  (kinds 3).length ≤ 1 && (kinds 4).length ≤ 1 && (kinds 5).length ≤ 1 && ((kinds 3).isEmpty || (kinds 5).isEmpty)

/-- R47: a MODE word that allows its PMSRC. -/
def pmValid (x : Nat) : Bool := !((bits x 15 13 = 2 || bits x 15 13 = 6) && bits x 10 9 ≠ 0)

/-- R134: LAW, RADIUS and REFDIST agree. -/
def lawValid (g : Nat → Nat) : Bool := !(bits (g 0x93) 1 0 = 3 && g 0x95 ≤ g 0x94)

/-- The rules over several words: the words each relates, and whether it holds. -/
def blockRules (g : Nat → Nat) : List (List Nat × Bool) := [
  ([0x08], pmValid (g 0x08)), ([0x10], pmValid (g 0x10)),
  ((List.range 16).map (0x20 + ·), envValid g 0x20), ((List.range 16).map (0x30 + ·), envValid g 0x30),
  ((List.range 16).map (0x40 + ·), envValid g 0x40), ([0x93, 0x94, 0x95], lawValid g)]

/-- Pass 2 for a run of written words: the lowest written word among those that a failing rule relates. -/
def blockRuleFail (g : Nat → Nat) (written : List Nat) : Option Nat :=
  (blockRules g).findSome? (fun r => if r.2 then none else written.find? (fun w => r.1.contains w))

/-- The status of a run of words written from word w on over a block g, and the word it is charged to. -/
def runStatus (g : Nat → Nat) (w : Nat) (vals : List Nat) : Nat × Nat :=
  let idx := List.range vals.length
  match idx.find? (fun i => wordStatus (w + i) (vals.getD i 0) ≠ 0) with
  | some i => (wordStatus (w + i) (vals.getD i 0), w + i)
  | none =>
    let g' := fun p => if w ≤ p && p < w + vals.length then vals.getD (p - w) 0 else g p
    match blockRuleFail g' (idx.map (w + ·)) with
    | some p => (St.range, p)
    | none => (0, w)

/-- R81: whether the 128 words of a patch image would each be accepted and the rules over several words hold. DEDUCED (log 27, not safe).
DESIGN CHOICE (log 118, not safe). -/
def patchValid (g : Nat → Nat) : Bool :=
  (List.range 128).all (fun w => wordStatus w (g w) = 0) &&
  pmValid (g 0x08) && pmValid (g 0x10) && envValid g 0x20 && envValid g 0x30 && envValid g 0x40

/-! ### How a word changes -/

/-- Words of code G (Tables VS-2, VS-3, VM-2, VM-6, VM-7, VM-8, VM-11, VA-11). -/
def wordGlides (w : Nat) : Bool :=
  w = 0x01 || w = 0x02 || (0x0A ≤ w && w ≤ 0x0E) || (0x12 ≤ w && w ≤ 0x16) || (0x19 ≤ w && w ≤ 0x1D) || w = 0x51 || w = 0x55 ||
  (0x58 ≤ w && w ≤ 0x6F && w % 2 = 1) || w = 0x70 || w = 0x71 || (0x74 ≤ w && w ≤ 0x77) || (0x80 ≤ w && w ≤ 0x88) ||
  (0x90 ≤ w && w ≤ 0x92) || (0x94 ≤ w && w ≤ 0x98)

/-- Words that hold a signed value. -/
def wordSigned (w : Nat) : Bool :=
  w = 0x01 || w = 0x0A || w = 0x0B || w = 0x0E || w = 0x12 || w = 0x13 || w = 0x16 || w = 0x1A || w = 0x1D ||
  (0x58 ≤ w && w ≤ 0x6F) || (0x74 ≤ w && w ≤ 0x77) || (0x84 ≤ w && w ≤ 0x88) || (0x90 ≤ w && w ≤ 0x92)

/-- The position and spatial words, which glide over PTIME (R83). -/
def wordSpatial (w : Nat) : Bool := 0x90 ≤ w && w ≤ 0x98

/-- The value of a word's 16 bits, signed or unsigned. -/
def wordInt (w x : Nat) : Int := if wordSigned w then sx 16 x else (x : Int)

/-- Fields of code X of a word: high and low bit of each. -/
def wordXFields (w : Nat) : List (Nat × Nat) :=
  if 0x58 ≤ w && w ≤ 0x6F && w % 2 = 0 then [(4, 0), (9, 5), (15, 10)]
  else if w = 0x50 || w = 0x54 then [(2, 0), (5, 5)]
  else if w = 0x72 || w = 0x73 then [(4, 0), (9, 5)]
  else if w = 0x7C then [(3, 0), (4, 4), (15, 8)]
  else if w = 0x93 then [(1, 0), (2, 2)]
  else []

/-- Words of code F, with the bits of the F fields, and the unit whose output fades (R48, R88). -/
def wordFade (w : Nat) : Option (Nat × FadeUnit) :=
  if w = 0x00 then some (0x0E00, .mix)
  else if w = 0x08 then some (0xF7FC, .osc1)
  else if w = 0x09 then some (0x0FFF, .osc1)
  else if w = 0x10 then some (0xF7FC, .osc2)
  else if w = 0x11 then some (0x0FFF, .osc2)
  else if w = 0x18 then some (0x000F, .filter)
  else none

/-! ### Voice store -/

/-- Number of voices in a group: 16, or 8 at the double rates (R112). -/
def State.groupVoices (s : State) : Nat := if s.dbl then 8 else 16

/-- Word w of voice v as last written. -/
def State.vWord (s : State) (v w : Nat) : Nat := (Sp.get (fun _ => (0 : Half)) s.voice.words (1024 * v + w)).toNat

/-- Word w of voice v set to x. -/
def State.setVWord (s : State) (v w x : Nat) : State :=
  { s with voice := { s.voice with
      words := Sp.put (fun _ => (0 : Half)) s.voice.words (1024 * v + w) (BitVec.ofNat 16 x) } }

/-- A run of words set from word w on. -/
def State.setVWords (s : State) (v w : Nat) : List Nat → State
  | [] => s
  | x :: xs => (s.setVWord v w x).setVWords v (w + 1) xs

/-- The running state of voice v. -/
def State.vRun (s : State) (v : Nat) : VRun := Sp.get (fun _ => VRun.idle) s.voice.runs v

/-- The running state of voice v set to r. -/
def State.setVRun (s : State) (v : Nat) (r : VRun) : State :=
  { s with voice := { s.voice with runs := Sp.put (fun _ => VRun.idle) s.voice.runs v r } }

/-- A voice sounds while it is ACTIVE, RELEASE or RAMP (R119). -/
def VRun.sounding (r : VRun) : Bool := r.st ≠ 0

/-- Voices that are not IDLE, in index order. -/
def State.sounding (s : State) : List Nat := (s.voice.runs.filter (fun p => p.2.sounding)).map (·.1)

/-! ### Reads (R38, R39) -/

/-- The 16-bit parts of a 64-bit value, low word first. -/
def half64 (x : Int) (k : Nat) : Nat := bits (ux 64 x) (16 * k + 15) (16 * k)

/-- OSCn_STAT (Table VS-5). SWFADE shows the oscillator's own switch fade. DESIGN CHOICE (log 114, not safe). -/
def Osc.status (o : Osc) : Nat :=
  b2n o.ended + 2 * b2n o.badwave + 4 * b2n o.inloop + 8 * b2n o.rev + 16 * b2n o.fade.isSome

/-- VSTATE (Table VA-2). -/
def State.vState (s : State) (v : Nat) : Nat :=
  let r := s.vRun v
  let pin := bit (Sp.get (fun _ => 0) s.voice.pins (v / 16)) (v % 16)
  r.st + 8 * b2n pin + 16 * b2n r.directed + 32 * b2n r.mirrored + 64 * b2n r.defer.isSome + 128 * r.prio + 1024 * r.mzone

/-- What a read of word w of voice v returns. -/
def State.readVWord (s : State) (v w : Nat) : Nat :=
  let r := s.vRun v
  if 0x8C ≤ w && w ≤ 0x8F then half64 r.start (w - 0x8C)
  else if w = 0xC0 then s.vState v
  else if w = 0xC1 then r.patchno
  else if w = 0xC2 then r.notekey
  else if w = 0xC3 then r.loud
  else if 0xC4 ≤ w && w ≤ 0xC7 then (if r.st = 2 then half64 r.reltime (w - 0xC4) else 0)
  else if w = 0xC8 then r.osc1.status
  else if w = 0xC9 then r.osc2.status
  else if 0xCA ≤ w && w ≤ 0xCD then half64 r.osc1.pos (w - 0xCA)
  else if 0xCE ≤ w && w ≤ 0xD1 then half64 r.osc2.pos (w - 0xCE)
  else if 0xD2 ≤ w && w ≤ 0xD5 then half64 r.osc1.inc (w - 0xD2)
  else if 0xD6 ≤ w && w ≤ 0xD9 then half64 r.osc2.inc (w - 0xD6)
  else if w = 0xDA then r.osc1.entryNo
  else if w = 0xDB then r.osc2.entryNo
  else if wordUndefined w then 0
  else s.vWord v w

/-! ### Glides (R84 to R86) -/

/-- A new glide from state v0 to target t over n samples; one of 0 samples is at its target from the next sample on (R41). -/
def Glide.new (v0 t : Int) (onepole : Bool) (n : Nat) : Glide :=
  { v := v0, target := t, onePole := onepole, v0 := v0, d := Int.tdiv (t * 2 ^ 32 - v0) n, a := onePoleFactor n, n := n, i := 0 }

/-- One sample of a glide (R85). -/
def Glide.next (g : Glide) : Glide :=
  let t := g.target * 2 ^ 32
  let i := g.i + 1
  if g.onePole then
    let v := g.v + sarI ((t - g.v) * g.a) 32
    { g with v := if (t - v).natAbs < 2 ^ 32 then t else v, i := i }
  else { g with v := if g.n ≤ i then t else g.v0 + i * g.d, i := i }

/-- The glide has reached its target and ends. -/
def Glide.done (g : Glide) : Bool := g.v = g.target * 2 ^ 32 && 0 < g.i

/-- Glides that have ended are dropped and every other glide advances by one sample. -/
def stepGlides (gs : List (Nat × Glide)) : List (Nat × Glide) :=
  (gs.filter (fun p => !p.2.done)).map (fun p => (p.1, p.2.next))

/-- The state of a glide, or of a word that rests. -/
def glideState (gs : List (Nat × Glide)) (w : Nat) (rest : Int) : Int :=
  match Sp.find gs w with
  | some g => g.v
  | none => rest * 2 ^ 32

/-- The value of a G word in use: the integer part of its state. -/
def glideUse (gs : List (Nat × Glide)) (w : Nat) (rest : Int) : Int := sarI (glideState gs w rest) 32

/-- The length in samples and the shape of a glide of word w (R41, R84). -/
def glideOf (rc : Nat) (g : Nat → Nat) (w : Nat) (own : Option (Nat × Nat)) : Nat × Bool :=
  match own with
  | some (t, sh) => (if w = 0x80 then msSamples rc t else Nat.max 32 (msSamples rc t), sh = 1)
  | none =>
    if w = 0x80 then (msSamples rc (g 0x03), false)
    else if wordSpatial w then (Nat.max 32 (msSamples rc (g 0x06)), g 0x07 % 4 = 1)
    else (Nat.max 32 (msSamples rc (g 0x04)), g 0x05 % 4 = 1)

/-! ### Fades and crossfades (R48, R82) -/

/-- The fade of a unit. -/
def VRun.fade (r : VRun) : FadeUnit → Option SFade
  | .osc1 => r.osc1.fade
  | .osc2 => r.osc2.fade
  | .mix => r.mixFade
  | .filter => r.filtFade

/-- The fade of a unit set. -/
def VRun.setFade (r : VRun) (u : FadeUnit) (f : Option SFade) : VRun :=
  match u with
  | .osc1 => { r with osc1 := { r.osc1 with fade := f } }
  | .osc2 => { r with osc2 := { r.osc2 with fade := f } }
  | .mix => { r with mixFade := f }
  | .filter => { r with filtFade := f }

/-- The words of code F that a unit's fade applies. -/
def fadeWords : FadeUnit → List Nat
  | .osc1 => [0x08, 0x09]
  | .osc2 => [0x10, 0x11]
  | .mix => [0x00]
  | .filter => [0x18]

/-- A change reaches a unit: a fall begins, from full gain or from the present gain of a rise; a fall goes on (R48). -/
def fallFrom : Option SFade → SFade
  | none => ⟨32, true⟩
  | some f => ⟨f.gain, true⟩

/-- Crossfades of the fields of word w that change from old to x; a running crossfade goes on, and the change waits in the
word, so that two changes at one intake fade to the first and then to the second (R82). DEDUCED (log 67, not safe).
DESIGN CHOICE (log 120, not safe). -/
def startXFades (xs : List (Nat × XFade)) (w old x : Nat) : List (Nat × XFade) :=
  ((wordXFields w).zip (List.range 4)).foldl (fun l f =>
    let o := bits old f.1.1 f.1.2
    let n := bits x f.1.1 f.1.2
    if o = n then l
    else match Sp.find l (4 * w + f.2) with
      | some _ => l
      | none => Sp.ins l (4 * w + f.2) ⟨o, n, 0⟩) xs

/-- A word written to a sounding voice: the effect on its running state (R48, R82, R85, R86). g reads the block after the
write. -/
def VRun.wordChanged (r : VRun) (rc : Nat) (g : Nat → Nat) (w old x : Nat) (own : Option (Nat × Nat)) : VRun :=
  if wordGlides w then
    let nSh := glideOf rc g w own
    if (Sp.find r.glides w).isNone && old = x then r
    else
      let v0 := glideState r.glides w (wordInt w old)
      { r with glides := Sp.ins r.glides w (Glide.new v0 (wordInt w x) (nSh.2 && nSh.1 ≠ 0) nSh.1) }
  else match wordFade w with
    | some (mask, u) =>
      if (old &&& mask) = (x &&& mask) then r
      else
        let hold := if (Sp.find r.fHold w).isNone then Sp.ins r.fHold w old else r.fHold
        { r.setFade u (some (fallFrom (r.fade u))) with fHold := hold }
    | none => { r with xfades := startXFades r.xfades w old x }

end Sys2Proof.Machine
end

