-- ==== Sys2Proof/Machine/VoiceOsc.lean ====
section
/-!
DEFINITION. The oscillators (chapter 02): wave entries and their checks, start states, the movement of phase and position, the five modes,
the seeded generators. Everything here is a function of one voice's state and of what it reads.
-/
namespace Sys2Proof.Machine

/-- What a voice reads while one sample is rendered: rate code, wave region, its bytes, the buses of the sample before, the voice's
words, the node position in use and whether it is valid, the group's light channel. -/
structure VCtx where
  rc : Nat
  wave : Nat
  waveSize : Nat
  rd : Nat → Byte
  bus : List Int
  g : Nat → Nat
  node : Int × Int × Int
  nodeValid : Bool
  lch : Nat

/-! ### Wave entries (R71 to R74) -/

/-- A wave entry from its 32 bytes, not a key map; none where it is invalid. -/
def WaveEntry.parse (b : List Byte) (size : Nat) : Option WaveEntry :=
  let kind := byteAt b 0
  let e : WaveEntry :=
    { kind := kind, loop := bits (byteAt b 1) 1 0, root := leAt b 2 2, data := leAt b 4 4, length := leAt b 8 4,
      nx := byteAt b 8, ny := byteAt b 9, loopStart := leAt b 0x0C 4, loopEnd := leAt b 0x10 4, srate := leAt b 0x14 4 }
  let bytes := if kind = 1 then e.nx * e.ny * 8192 else if kind = 2 then 2 * e.length else 3 * e.length
  let common := bits (byteAt b 1) 7 2 = 0 && e.loop ≠ 3 && leAt b 0x18 8 = 0 && 0x20000 ≤ e.data &&
    (kind = 3 || e.data % 2 = 0) && e.data + bytes ≤ size
  let noLoop := e.loopStart = 0 && e.loopEnd = 0
  let good :=
    if kind = 1 then
      common && byteAt b 1 = 0 && e.root = 0 && 1 ≤ e.nx && e.nx ≤ 64 && 1 ≤ e.ny && e.ny ≤ 64 && leAt b 0x0A 2 = 0 &&
      noLoop && e.srate = 0
    else if kind = 2 || kind = 3 then
      common && e.root ≤ 32767 && 8 ≤ e.length && 8000 ≤ e.srate && e.srate ≤ 192000 &&
      (if e.loop = 0 then noLoop
       else e.loopStart < e.loopEnd && e.loopEnd ≤ e.length && 8 ≤ e.loopEnd - e.loopStart)
    else false
  if good then some e else none

/-- A key map entry that R73 allows: its zones (KEYHI, ENTRY). -/
def keyMapZones (b : List Byte) : Option (List (Nat × Nat)) :=
  let n := byteAt b 1
  let zones := (List.range n).map (fun z => (byteAt b (4 + 3 * z), leAt b (5 + 3 * z) 2))
  let rising := (List.range (n - 1)).all (fun z => byteAt b (4 + 3 * z) < byteAt b (7 + 3 * z))
  if 1 ≤ n && n ≤ 8 && leAt b 2 2 = 0 && rising && zones.all (fun z => z.1 ≤ 127 && z.2 < 4096) &&
      ((b.drop (4 + 3 * n)).all (· = 0)) then some zones else none

/-- The entry of a key map for a key number: the first zone whose KEYHI is at or above it, or the last (R73). -/
def keyMapPick (zones : List (Nat × Nat)) (key : Nat) : Nat :=
  match zones.find? (fun z => key ≤ z.1) with
  | some z => z.2
  | none => (zones.getLast?.map (·.2)).getD 0

/-- What an oscillator latches: its entry or none, the entry number shown, and whether it is invalid. -/
structure Latched where
  entry : Option WaveEntry
  no : Nat
  bad : Bool
  deriving DecidableEq, Repr

/-- An entry resolved for an oscillator mode and a key number; readEntry gives the 32 bytes of a directory entry, or none where
they cannot be read. -/
def latchEntry (readEntry : Nat → Option (List Byte)) (size mode idx key : Nat) : Latched :=
  let bad : Latched := ⟨none, idx, true⟩
  if mode ≠ 1 && mode ≠ 2 then ⟨none, idx, false⟩
  else match readEntry idx with
    | none => bad
    | some b =>
      let kind := byteAt b 0
      if kind = 0 then ⟨none, idx, false⟩
      else if kind = 4 then
        if mode ≠ 2 then bad
        else match keyMapZones b with
          | none => bad
          | some zones =>
            let e := keyMapPick zones key
            -- every entry that the map names must be a sample entry
            let kinds := zones.map (fun z => (readEntry z.2).map (fun x => byteAt x 0))
            if kinds.all (fun k => k = some 2 || k = some 3) then
              match (readEntry e).bind (fun x => WaveEntry.parse x size) with
              | some w => ⟨some w, e, false⟩
              | none => ⟨none, e, true⟩
            else bad
      else match WaveEntry.parse b size with
        | some w => if (mode = 1 && kind = 1) || (mode = 2 && kind ≠ 1) then ⟨some w, idx, false⟩ else bad
        | none => bad

/-! ### Generators (R68, R69, R103) -/

/-- One step of a generator. -/
def lcg (s : Nat) : Nat := (1664525 * s + 1013904223) % 2 ^ 32

/-- A draw as S24. -/
def drawS24 (s : Nat) : Int := sx 24 (s >>> 8)

/-! ### Start states (R49) -/

/-- The MODE field of an oscillator's MODE word. -/
def oscMode (x : Nat) : Nat := bits x 15 13

/-- The loop of a sample oscillator is active: until the release phase begins, or with LOOPREL for ever (R61, R62). -/
def loopOn (modeWord : Nat) (released : Bool) : Bool := !released || bit modeWord 2

/-- An oscillator loads its start state: base word b, seed of its generator, whether the release phase has begun. DEDUCED (log 69, not safe). -/
def Osc.load (o : Osc) (g : Nat → Nat) (modeWord b seed : Nat) (released : Bool) : Osc :=
  let sample := oscMode modeWord = 2
  let len := (o.entry.map (·.length)).getD 0
  let pos : Nat := if sample then (g (b + 4) * len / 65536) * 2 ^ 32 else g (b + 7) * 2 ^ 16
  { o with
    pos := pos, loaded := true, ended := false, inloop := false, rev := false, looping := loopOn modeWord released, noise := seed, held := 0,
    out := 0 }

/-! ### Movement (R51, R60, R62) -/

/-- The position of a sample oscillator moves by its increment. -/
def Osc.moveSample (o : Osc) (e : WaveEntry) : Osc :=
  let s : Int := (e.loopStart * 2 ^ 32 : Nat)
  let en : Int := (e.loopEnd * 2 ^ 32 : Nat)
  let last : Int := en - 2 ^ 32
  let inc : Int := o.inc
  if o.ended then o
  else if o.rev then
    let p := o.pos - inc
    if p < s then { o with pos := 2 * s - p, rev := false } else { o with pos := p }
  else
    let p := o.pos + inc
    if o.looping && e.loop = 1 then
      if en ≤ p then { o with pos := p - (en - s), inloop := true } else { o with pos := p }
    else if o.looping && e.loop = 2 then
      if last < p then { o with pos := 2 * last - p, rev := true, inloop := true } else { o with pos := p }
    else if ((e.length * 2 ^ 32 : Nat) : Int) ≤ p then { o with pos := p, ended := true }
    else { o with pos := p }

/-- The oscillator moves from the sample before to this one; the noise options step (R69). -/
def Osc.advance (o : Osc) (modeWord : Nat) : Osc :=
  let m := oscMode modeWord
  let opt := bits modeWord 3 2
  let first := o.loaded
  let wraps := !first && m ≠ 2 && 2 ^ 32 ≤ o.pos + o.inc
  let o :=
    if first then { o with loaded := false }
    else if m = 2 then (match o.entry with | some e => o.moveSample e | none => o)
    else { o with pos := (o.pos + o.inc) % 2 ^ 32 }
  if m = 6 then
    let a := lcg o.noise
    let b := lcg a
    if opt = 0 then { o with noise := a, held := drawS24 a }
    else if opt = 1 then { o with noise := b, held := sarI (drawS24 a + drawS24 b) 1 }
    else if first || wraps then { o with noise := a, held := drawS24 a }
    else o
  else o

/-! ### Reading wave memory (R53 to R55, R57, R59, R61) -/

/-- A wavetable point as Q1.23: frame (x, y), level k, sample i. -/
def wtAddr (c : VCtx) (e : WaveEntry) (x y k i : Nat) : Nat :=
  c.wave + e.data + (y * e.nx + x) * 8192 + 2 * (4096 - (4096 >>> k) + i)

/-- A W16 sample at a byte address, as Q1.23. -/
def readW16 (c : VCtx) (a : Nat) : Int := sx 16 (leNat [c.rd a, c.rd (a + 1)]) * 256

/-- Level and blend of R54. -/
def wtLevel (inc : Nat) : Nat × Rat :=
  if inc < 2 ^ 20 then (0, 0)
  else if inc < 2 ^ 30 then
    let k := inc.log2 - 20
    (k, mkRat inc (2 ^ (20 + k)) - 1)
  else (10, 0)

/-- The points that one wavetable sample reads, with their weights (R54, R55). -/
def wtPoints (c : VCtx) (e : WaveEntry) (phase inc a b : Nat) : List (Nat × Rat) :=
  let (k, t) := wtLevel inc
  let fx := mkRat (a * (e.nx - 1)) 65536
  let fy := mkRat (b * (e.ny - 1)) 65536
  let ix := fx.floor.toNat
  let iy := fy.floor.toNat
  let ax := fx - ix
  let ay := fy - iy
  let ix1 := Nat.min (ix + 1) (e.nx - 1)
  let iy1 := Nat.min (iy + 1) (e.ny - 1)
  let level (k : Nat) (w : Rat) (x y : Nat) : List (Nat × Rat) :=
    let n := 2048 >>> k
    let i := (phase >>> (21 + k)) % n
    let fr := mkRat ((phase >>> (5 + k)) % 65536) 65536
    [(wtAddr c e x y k i, w * (1 - fr)), (wtAddr c e x y k ((i + 1) % n), w * fr)]
  let frame (x y : Nat) (w : Rat) : List (Nat × Rat) :=
    level k (w * (1 - t)) x y ++ (if t = 0 then [] else level (k + 1) (w * t) x y)
  frame ix iy ((1 - ax) * (1 - ay)) ++ frame ix1 iy (ax * (1 - ay)) ++ frame ix iy1 ((1 - ax) * ay) ++ frame ix1 iy1 (ax * ay)

/-- The source index that tap index t reads, or none for 0 (R61). -/
def tapIndex (o : Osc) (e : WaveEntry) (t : Int) : Option Nat :=
  let s : Int := e.loopStart
  let en : Int := e.loopEnd
  let fwd := o.looping && e.loop = 1
  let alt := o.looping && e.loop = 2
  let t' :=
    if fwd && en ≤ t then t - (en - s)
    else if fwd && o.inloop && t < s then t + (en - s)
    else if alt && en - 1 < t then 2 * (en - 1) - t
    else if alt && o.inloop && t < s then 2 * s - t
    else t
  if t' < 0 || (e.length : Int) ≤ t' then none else some t'.toNat

/-- Address of sample t of a sample entry (R57). -/
def sampleAddr (c : VCtx) (e : WaveEntry) (t : Nat) : Nat := c.wave + e.data + (if e.kind = 2 then 2 * t else 3 * t)

/-- Sample t as Q1.23. -/
def readSample (c : VCtx) (e : WaveEntry) (t : Nat) : Int :=
  let a := sampleAddr c e t
  if e.kind = 2 then readW16 c a else sx 24 (leNat [c.rd a, c.rd (a + 1), c.rd (a + 2)])

/-- The eight taps of one sample: source index and coefficient (R59). -/
def sampleTaps (o : Osc) (e : WaveEntry) : List (Option Nat × Rat) :=
  let i := sarI o.pos 32
  let f := ux 32 o.pos
  let ph := f >>> 24
  let w := mkRat (bits f 23 16) 256
  (List.range 8).map (fun (j : Nat) =>
    (tapIndex o e (i - 3 + (j : Int)), (1 - w) * kernelTap ph j + w * kernelTap (ph + 1) j))

/-! ### Saw, pulse and triangle (R63 to R65), Q4.30 -/

/-- bstep: φ and Δ in units of 2^-32. -/
def bstep (p d : Nat) : Int :=
  let sq (x : Int) : Int := rneI (x * x) 30
  if p < d then sq (2 ^ 30 - rneQ (mkRat (p * 2 ^ 30) d))
  else if 2 ^ 32 - d < p then -(sq (2 ^ 30 + rneQ (mkRat (((p : Int) - 2 ^ 32) * 2 ^ 30) d)))
  else 0

/-- bramp. -/
def bramp (p d : Nat) : Int :=
  let third (x : Int) : Int := rneQ (mkRat (rneI (rneI (x * x) 30 * x) 30) 3)
  if p < d then third (2 ^ 30 - rneQ (mkRat (p * 2 ^ 30) d))
  else if 2 ^ 32 - d < p then third (2 ^ 30 + rneQ (mkRat (((p : Int) - 2 ^ 32) * 2 ^ 30) d))
  else 0

/-- saw(φ). -/
def sawWave (p d : Nat) : Int := rneI p 1 - 2 ^ 30 + bstep p d

/-- The pulse width in units of 2^-32 (R64). -/
def pulseWidth (shape d : Nat) : Nat :=
  if 2 ^ 30 < 2 * d then 2 ^ 31 else clampN (2 * d) (2 ^ 32 - 2 * d) (shape * 2 ^ 16)

/-- pulse(φ). -/
def pulseWave (p d shape : Nat) : Int :=
  let w := pulseWidth shape d
  sawWave p d - sawWave ((p + w) % 2 ^ 32) d + rneI w 1 - 2 ^ 30

/-- tri(φ). -/
def triWave (p d : Nat) : Int :=
  let t0 : Int := if p < 2 ^ 31 then (p : Int) - 2 ^ 30 else 3 * 2 ^ 30 - p
  t0 + rneI ((d : Int) * (bramp p d - bramp ((p + 2 ^ 31) % 2 ^ 32) d)) 30

/-! ### One sample of an oscillator -/

/-- The offset of R66 in units of 2^-32: depth in Q1.15, m in Q1.23. DEDUCED (log 68, not safe). -/
def pmOffset (dep m : Int) : Nat := ux 32 (rneI (2 * dep * m) 6)

/-- The Basin bytes that an oscillator reads in this sample: address and length. -/
def Osc.reads (o : Osc) (c : VCtx) (modeWord phase inc : Nat) : List (Nat × Nat) :=
  match o.entry with
  | none => []
  | some e =>
    if oscMode modeWord = 1 && e.kind = 1 then (wtPoints c e phase inc o.morphA o.morphB).map (fun p => (p.1, 2))
    else if oscMode modeWord = 2 && e.kind ≠ 1 && !o.ended then
      (sampleTaps o e).filterMap (fun t => t.1.map (fun i => (sampleAddr c e i, if e.kind = 2 then 2 else 3)))
    else []

/-- The output of R56, S24: phase is φ_eff, inc the increment in force, width the SHAPEA value of this sample. -/
def Osc.output (o : Osc) (c : VCtx) (modeWord phase inc width : Nat) : Int :=
  let m := oscMode modeWord
  if m = 1 then
    match o.entry with
    | some e =>
      if e.kind = 1 then
        satS 24 (rneQ ((wtPoints c e phase inc o.morphA o.morphB).foldl (fun a p => a + p.2 * (readW16 c p.1 : Rat)) 0))
      else 0
    | none => 0
  else if m = 2 then
    match o.entry with
    | some e =>
      if e.kind = 1 || o.ended then 0
      else satS 24 (rneQ ((sampleTaps o e).foldl (fun a t =>
        match t.1 with
        | some i => a + t.2 * (readSample c e i : Rat)
        | none => a) 0))
    | none => 0
  else if m = 3 then satS 24 (rneI (sawWave phase inc) 7)
  else if m = 4 then satS 24 (rneI (pulseWave phase inc width) 7)
  else if m = 5 then satS 24 (rneI (triWave phase inc) 7)
  else if m = 6 then o.held
  else 0

end Sys2Proof.Machine
end

