-- ==== Sys2Proof/Machine/VoiceRender.lean ====
section
/-!
DEFINITION. One rendered sample of one voice (chapters 02 to 04): glides, fades and crossfades, oscillators and mix, filters, envelopes, LFOs,
modulation matrix, amplitude, spatial gain, sends and light value; intermediate values as Table VS-15 holds them.
-/
namespace Sys2Proof.Machine

/-! ### Envelopes (R93 to R98) -/

/-- The target level of a SEGL word, Q2.30 (Table VM-3). -/
def segTarget (segl : Nat) : Nat := (rhuQ (mkRat (bits segl 12 0 * 2 ^ 30) 8191)).toNat

/-- The envelope enters segment k (R96, R97): a segment of N = 0 ends as it is entered; LOOP segments are followed before the
release phase and passed over in it; a RELEASE segment reached in sequence waits for the release phase. The first argument
bounds the segments passed. -/
def Env.enter (rc : Nat) (g : Nat → Nat) (e : Nat) : Nat → Env → Nat → Env
  | 0, v, k => { v with seg := k, hold := true, i := 0, n := 0 }
  | fuel + 1, v, k =>
    if 8 ≤ k then { v with seg := 8, hold := true, i := 0, n := 0 }
    else
      let t := g (e + 2 * k)
      let l := g (e + 2 * k + 1)
      let kind := bits l 15 13
      let n := timeCode rc (bits t 13 0)
      let here : Env := { v with seg := k, segt := t, segl := l, l0 := v.level, i := 0, n := n, hold := false }
      if kind = 5 then
        if v.rel then Env.enter rc g e fuel v (k + 1) else Env.enter rc g e fuel v (bits l 2 0)
      else if kind = 0 || 6 ≤ kind then { here with hold := true, n := 0 }
      else if kind = 4 && !v.rel then { here with hold := true, n := 0 }
      else
        let here := if kind = 4 then { here with entered := true } else here
        if n ≠ 0 then here
        else
          let done : Env := if kind = 2 then here else { here with level := segTarget l }
          if kind = 3 && !v.rel then { done with hold := true }
          else Env.enter rc g e fuel done (k + 1)

/-- Bound on the segments passed at one entry. -/
def envFuel : Nat := 24

/-- u(x) in Q1.31 (R94, R484). -/
def envCurve (curve x : Nat) : Nat :=
  let one := 2 ^ 31
  let mul (a b : Nat) : Nat := (rneI ((a * b : Nat) : Int) 31).toNat
  if curve = 1 then let a := one - x; one - mul (mul a a) a
  else if curve = 2 then mul (mul x x) x
  else x

/-- An envelope whose count has reached N enters its next segment, for the following sample; a SUSTAIN segment holds until the release
phase (R96). DESIGN CHOICE (log 121, not safe). -/
def Env.segmentEnd (rc : Nat) (g : Nat → Nat) (e : Nat) (v : Env) : Env :=
  if v.hold || v.i < v.n then v
  else if bits v.segl 15 13 = 3 && !v.rel then { v with hold := true }
  else Env.enter rc g e envFuel v (v.seg + 1)

/-- One rendered sample of an envelope (R96). -/
def Env.sample (rc : Nat) (g : Nat → Nat) (e : Nat) (v : Env) : Env :=
  let v := v.segmentEnd rc g e
  if v.hold then v
  else
    let i := v.i + 1
    let kind := bits v.segl 15 13
    let target := segTarget v.segl
    let level :=
      if kind = 2 then v.l0
      else if v.n ≤ i then target
      else
        let x := (rneQ (mkRat (i * 2 ^ 31) v.n)).toNat
        ((v.l0 : Int) + rneI (((target : Int) - v.l0) * envCurve (bits v.segt 15 14) x) 31).toNat
    { v with i := i, level := level }

/-- The segment of a kind in the envelope at base e. -/
def segOfKind (g : Nat → Nat) (e kind : Nat) : Option Nat := segs.find? (fun s => segKind g e s = kind)

/-- The release phase begins for an envelope (R97). -/
def Env.release (rc : Nat) (g : Nat → Nat) (e : Nat) (norel : Bool) (v : Env) : Env :=
  if norel then v
  else
    let v := { v with rel := true }
    match segOfKind g e 4 with
    | some k => if v.entered then v else Env.enter rc g e envFuel v k
    | none =>
      if bits v.segl 15 13 = 3 && v.seg < 8 then Env.enter rc g e envFuel v (v.seg + 1) else v

/-- A retrigger of an envelope (R98). -/
def Env.retrigger (rc : Nat) (g : Nat → Nat) (e rtmode : Nat) (v : Env) : Env :=
  let fresh := { v with rel := false, entered := false }
  if rtmode = 0 then Env.enter rc g e envFuel fresh 0
  else if rtmode = 1 && v.rel then
    let k := match segOfKind g e 3, segOfKind g e 5 with
      | some k, _ => k
      | none, some k => bits (g (e + 2 * k + 1)) 2 0
      | none, none => 0
    Env.enter rc g e envFuel fresh k
  else v

/-- The envelope holds at END or after its segment 7 with level 0 (R100). -/
def Env.finished (v : Env) : Bool := v.hold && v.level = 0 && (8 ≤ v.seg || bits v.segl 15 13 = 0)

/-! ### Fields in use -/

/-- Field f of word w under threshold u of a crossfade: the new value where u lies below its samples done (R82). -/
def VRun.fieldAt (r : VRun) (g : Nat → Nat) (w f hi lo u : Nat) : Nat :=
  match Sp.find r.xfades (4 * w + f) with
  | some x => if u < x.i then x.new else x.old
  | none => bits (g w) hi lo

/-- Whether any field of word w is crossfading. -/
def VRun.fading (r : VRun) (w : Nat) : Bool := (List.range 4).any (fun f => (Sp.find r.xfades (4 * w + f)).isSome)

/-- The crossfaded value of R82 times 32: the weights i/32 and 1 - i/32 as 32 thresholds; without a crossfade, 32 times the
value. Fields that began to crossfade together change together. -/
def VRun.mix32 (r : VRun) (w : Nat) (f : Nat → Int) : Int :=
  if r.fading w then (List.range 32).foldl (fun a u => a + f u) 0 else 32 * f 0

/-- An F word in force (R48). -/
def VRun.inForce (r : VRun) (g : Nat → Nat) (w : Nat) : Nat := (Sp.find r.fHold w).getD (g w)

/-- A G word in use. -/
def VRun.useG (r : VRun) (g : Nat → Nat) (w : Nat) : Int := glideUse r.glides w (wordInt w (g w))

/-- Matrix sum for destination d, formed in the sample before (R108). -/
def VRun.sum (r : VRun) (d : Nat) : Int := r.sums.getD d 0

/-! ### LFOs (R102 to R104) -/

/-- Output of an LFO shape before saturation, S24. -/
def lfoShape (l : Lfo) (shape : Nat) : Int :=
  let p : Int := l.phase
  let one : Int := 2 ^ 23
  let q : Int :=
    if shape = 0 then
      let i := l.phase >>> 20
      let w := mkRat (l.phase % 2 ^ 20) (2 ^ 20)
      rneQ (((1 - w) * sinePoint i + w * sinePoint (i + 1)) * (one : Rat))
    else if shape = 1 then (if l.phase < 2 ^ 31 then rneI (4 * p) 9 - one else 3 * one - rneI (4 * p) 9)
    else if shape = 2 then rneI (2 * p) 9 - one
    else if shape = 3 then one - rneI (2 * p) 9
    else if shape = 4 then (if l.phase < 2 ^ 31 then one else -one)
    else if shape = 5 then l.v1
    else rneQ ((l.v0 : Rat) + ((l.v1 - l.v0 : Int) : Rat) * mkRat p (2 ^ 32))
  satS 24 q

/-- The fade gain of an LFO in its present sample, Q1.23 (R102). -/
def Lfo.gain (l : Lfo) : Int := if l.fadeN ≤ l.k then 2 ^ 23 else rneQ (mkRat (l.k * 2 ^ 23) l.fadeN)

/-- A phase past 1 wraps, and the generator draws (R102). -/
def Lfo.wrap (l : Lfo) : Lfo :=
  if 2 ^ 32 ≤ l.phase then
    let s := lcg l.gen
    { l with phase := l.phase % 2 ^ 32, gen := s, v0 := l.v1, v1 := drawS24 s }
  else l

/-- One sample of LFO j: output, then the phase advances. DEDUCED (log 68, not safe). -/
def VRun.lfoSample (r : VRun) (rc : Nat) (g : Nat → Nat) (j : Nat) (l : Lfo) : Lfo :=
  let b := 0x50 + 4 * j
  let l := { l.wrap with k := l.k + 1 }
  let y (u : Nat) : Int :=
    let a := lfoShape l (r.fieldAt g b 0 2 0 u)
    let a := if r.fieldAt g b 1 5 5 u = 1 then satS 24 (rneI (a + 2 ^ 23) 1) else a
    satS 24 (rneI (a * l.gain) 23)
  let rate := clampI 0 65535 (r.useG g (b + 1) + r.sum (20 + j))
  { l with out := rneI (r.mix32 b y) 5, phase := l.phase + incLfo rc rate }

/-! ### Filters (R89 to R92) -/

/-- A filter state as Q4.28: rounded toward 0, saturated, small magnitudes to 0 (R91). DEDUCED (log 72, not safe). -/
def filterState (x : Rat) : Int :=
  let q := satS 32 (Int.tdiv (x.num * 2 ^ 28) x.den)
  if q.natAbs < 2 then 0 else q

/-- A held state as a number. -/
def stateVal (s : Int) : Rat := mkRat s (2 ^ 28)

/-- One stage (R90): output and the two states. -/
def svf (type : Nat) (gc k : Rat) (x : Rat) (s1 s2 : Int) : Rat × Int × Int :=
  let ic1 := stateVal s1
  let ic2 := stateVal s2
  let a1 := 1 / (1 + gc * (gc + k))
  let a2 := gc * a1
  let a3 := gc * a2
  let v3 := x - ic2
  let v1 := a1 * ic1 + a2 * v3
  let v2 := ic2 + a2 * ic1 + a3 * v3
  let out :=
    if type = 0 then v2 else if type = 1 then x - k * v1 - v2 else if type = 2 then k * v1
    else if type = 3 then x - k * v1 else x
  (out, filterState (2 * v1 - ic1), filterState (2 * v2 - ic2))

/-- An S24 code as a number. -/
def s24Val (x : Int) : Rat := mkRat x (2 ^ 23)

/-- A number rounded and saturated to S24. -/
def toS24 (x : Rat) : Int := satS 24 (rneQ (x * ((2 ^ 23 : Nat) : Rat)))

/-- Gain of a fade applied to an S24 value (R48). -/
def fadeGain (f : Option SFade) (x : Int) : Int :=
  match f with
  | some f => rneI (x * f.gain) 5
  | none => x

/-- The main filter: output S24 and the states of both stages. -/
def VRun.filter (r : VRun) (rc : Nat) (g : Nat → Nat) (x : Int) : Int × List Int :=
  let mode := r.inForce g 0x18
  let type := bits mode 2 0
  let key := r.useG g 0x80
  let cp := clampI 0 65535 (r.useG g 0x19 + sarI (r.useG g 0x1A * (key - 15360)) 14 + r.sum 12)
  let gc := tanPitch rc cp.toNat
  let k := resoK (clampI 0 65535 (r.useG g 0x1B + r.sum 13)).toNat
  let s1 := svf type gc k (s24Val x) (r.ic.getD 0 0) (r.ic.getD 1 0)
  if bit mode 3 then
    let s2 := svf type gc rootTwo s1.1 (r.ic.getD 2 0) (r.ic.getD 3 0)
    (toS24 s2.1, [s1.2.1, s1.2.2, s2.2.1, s2.2.2])
  else (toS24 s1.1, [s1.2.1, s1.2.2, 0, 0])

/-- The tilt filter (R92): output and state. -/
def VRun.tilt (r : VRun) (rc : Nat) (g : Nat → Nat) (x : Int) : Int × Int :=
  let gt := tanPitch rc (r.useG g 0x1C).toNat
  let t := clampI (-32768) 32767 (r.useG g 0x1D + r.sum 14)
  let s := stateVal (r.ic.getD 4 0)
  let xv := s24Val x
  let v := (xv - s) * gt / (1 + gt)
  let lp := v + s
  let s' := filterState (lp + v)
  (if t = 0 then x else toS24 (tiltGain (-t) * lp + tiltGain t * (xv - lp)), s')

/-! ### Modulation matrix (R106 to R108) -/

/-- The scale S of a destination (Table VM-10). -/
def dstScale (d : Nat) : Int :=
  if d = 1 || d = 2 || d = 3 || d = 12 then 12288
  else if (6 ≤ d && d ≤ 9) || d = 13 then 65536
  else if d = 20 || d = 21 then 16384
  else 32768

/-- A source value as S24 (Table VM-9, R107). -/
def VRun.source (r : VRun) (g : Nat → Nat) (env : List Env) (lfo : List Lfo) (c : Nat) : Int :=
  satS 24 (
    if c = 1 || c = 2 || c = 3 then rneI (((env.getD (c - 1) Env.idle).level : Nat) : Int) 7
    else if c = 4 || c = 5 then (lfo.getD (c - 4) Lfo.idle).out
    else if c = 6 then r.useG g 0x81 * 128
    else if c = 7 then r.useG g 0x82 * 128
    else if c = 8 then r.useG g 0x83 * 128
    else if c = 9 then (r.useG g 0x80 - 16384) * 512
    else if c = 10 then r.useG g 0x88 * 256
    else if 11 ≤ c && c ≤ 14 then r.useG g (0x84 + (c - 11)) * 256
    else if c = 15 then 2 ^ 23
    else if c = 16 then r.osc1.out
    else if c = 17 then r.osc2.out
    else 0)

/-- The contribution of route k to destination d (R82, R107): r holds the oscillator outputs of the sample before (R108). -/
def VRun.route (r : VRun) (g : Nat → Nat) (env : List Env) (lfo : List Lfo) (k d : Nat) : Int :=
  let w := 0x58 + 2 * k
  let dep := r.useG g (w + 1)
  let f (u : Nat) : Int :=
    let src := r.fieldAt g w 0 4 0 u
    let via := r.fieldAt g w 1 9 5 u
    if src = 0 || r.fieldAt g w 2 15 10 u ≠ d then 0
    else r.source g env lfo src * (if via = 0 then 2 ^ 23 else r.source g env lfo via) * dep * dstScale d
  rneI (r.mix32 w f) 66

/-- The sums by destination for the next sample. -/
def VRun.matrix (r : VRun) (g : Nat → Nat) (env : List Env) (lfo : List Lfo) : List Int :=
  (List.range 22).map (fun d =>
    if d = 0 then 0 else (List.range 12).foldl (fun a k => a + r.route g env lfo k d) 0)

/-! ### Spatial gain (R136), Q1.30 -/

/-- The law and directivity in one setting, Q1.23. -/
def spatialGain (node : Int × Int × Int) (valid : Bool) (use : Nat → Int) (law : Nat) (dir : Bool) : Int :=
  let one : Int := 2 ^ 30
  let q (x : Rat) : Int := rneQ (x * (one : Rat))
  let dx := node.1 - use 0x90
  let dy := node.2.1 - use 0x91
  let dz := node.2.2 - use 0x92
  let d2 : Rat := ((dx * dx + dy * dy + dz * dz : Int) : Rat)
  let d := relErr (sqrtQ d2) (Config.sqrtErr d2)
  let r0 : Rat := (use 0x94 : Int)
  let rr : Rat := (use 0x95 : Int)
  let ratio : Int := if d ≤ r0 then one else min one (q (relErr (r0 / d) (Config.divErr r0 d)))
  let dist : Int :=
    if law = 0 then one
    else if law = 1 then ratio
    else if law = 2 then
      let x := mkRat ratio (2 ^ 30)
      if ratio = one then one else min one (q (relErr (sqrtQ x) (Config.sqrtErr x)))
    else if d ≤ r0 then one
    else if d < rr then min one (q (relErr ((rr - d) / (rr - r0)) (Config.divErr (rr - d) (rr - r0))))
    else 0
  let dist := if law = 0 then dist else max dist (use 0x98 * 2 ^ 14)
  let gain :=
    if dir && (dx ≠ 0 || dy ≠ 0) then
      let h := sqrtQ ((dx * dx + dy * dy : Int) : Rat)
      let az := mkRat (use 0x96) 65536
      let c := ((dx : Rat) * cosT az + (dy : Rat) * sinT az) / h
      let c := clampQ (-1) 1 (relErr c (Config.cosErr dx dy (use 0x96).toNat))
      let a := use 0x97 * 2 ^ 14
      let half := rneI (one + q c) 1
      let factor := (one - a) + rneI (a * half) 30
      rneI (dist * factor) 30
    else dist
  if law ≠ 0 && !valid then 0 else clampI 0 (2 ^ 23) (rneI gain 7)

/-! ### One sample -/

/-- What one voice gives in one sample. -/
structure Rendered where
  run : VRun
  /-- Bus contributions, Q12.23. -/
  sends : List (Nat × Int)
  /-- Light contributions by channel, Q2.30. -/
  lights : List (Nat × Int)
  /-- Basin bytes read: address and length. -/
  reads : List (Nat × Nat)

/-- Spatial gain with the crossfade of SPMODE (R82, R136). -/
def VRun.gs (r : VRun) (c : VCtx) : Int :=
  rneI (r.mix32 0x93 (fun u => spatialGain c.node c.nodeValid (r.useG c.g)
    (r.fieldAt c.g 0x93 0 1 0 u) (r.fieldAt c.g 0x93 1 2 2 u = 1))) 5

/-- The four sends of an output ys (R110). -/
def VRun.sendsOf (r : VRun) (c : VCtx) (ys : Int) : List (Nat × Int) :=
  (List.range 4).flatMap (fun k =>
    let w := 0x72 + k / 2
    let f := k % 2
    let ls := clampI (-32768) 32767 (r.useG c.g (0x74 + k) + r.sum (16 + k))
    match Sp.find r.xfades (4 * w + f) with
    | some x => [(x.old, rneI (ys * ls * (32 - x.i)) 20), (x.new, rneI (ys * ls * x.i) 20)]
    | none => [(bits (c.g w) (5 * f + 4) (5 * f), rneI (ys * ls) 15)])

/-- The light contributions of a value l by channel: val gives the value under a LEVEL (R137, R138). -/
def VRun.lightsOf (r : VRun) (c : VCtx) (val : Nat → Int) (gain : Int) : List (Nat × Int) :=
  let at_ (u ch : Nat) : Int :=
    let f := r.fieldAt c.g 0x7C 0 3 0 u
    let ch' := if f = 8 then c.lch else f
    if r.fieldAt c.g 0x7C 1 4 4 u = 1 && ch' = ch then val (r.fieldAt c.g 0x7C 2 15 8 u) else 0
  (List.range 8).filterMap (fun ch =>
    let enabled := (List.range 32).any (fun u =>
      let f := r.fieldAt c.g 0x7C 0 3 0 u
      r.fieldAt c.g 0x7C 1 4 4 u = 1 && (if f = 8 then c.lch else f) = ch)
    if enabled then some (ch, rneI (rneI (r.mix32 0x7C (fun u => at_ u ch)) 5 * gain) 6) else none)

/-- What leaves a voice for an output y and a light law: after spatial gain (R110, R136, R138). gain is the steal or retirement
factor in 1/64. -/
def VRun.emit (r : VRun) (c : VCtx) (y : Int) (val : Nat → Int) (gain : Int) (reads : List (Nat × Nat)) : Rendered :=
  let ys := satS 24 (rneI (y * r.gs c) 23)
  { run := r, sends := r.sendsOf c ys, lights := r.lightsOf c val gain, reads := reads }

/-- Fades of one unit advance by one sample; true where the gain has reached zero (R48). -/
def stepFade : Option SFade → Option SFade × Bool
  | none => (none, false)
  | some f =>
    if f.falling then
      let gn := f.gain - 1
      if gn = 0 then (some ⟨0, false⟩, true) else (some ⟨gn, true⟩, false)
    else if 31 ≤ f.gain then (none, false) else (some ⟨f.gain + 1, false⟩, false)

/-- The oscillator words at base b that a zero point puts in force name a new mode or a new entry (R48, R74). -/
def VRun.latches (r : VRun) (g : Nat → Nat) (b : Nat) : Bool :=
  oscMode (r.inForce g b) ≠ oscMode (g b) || r.inForce g (b + 1) ≠ g (b + 1)

/-- The seed of the generator of the oscillator at base b (R68). -/
def VRun.oscSeed (r : VRun) (b : Nat) : Nat := if b = 0x08 then r.seed else r.seed ^^^ 0x9E3779B9

/-- An oscillator latches an entry in a running voice: an invalid one leaves it silent until the next start (R74). -/
def Osc.take (o : Osc) (l : Latched) : Osc := { o with entry := l.entry, entryNo := l.no, badwave := o.badwave || l.bad }

/-- The oscillator at base b restarts from the start state of a new mode or entry. latch resolves an entry for a mode and an index. -/
def VRun.restart (r : VRun) (g : Nat → Nat) (latch : Nat → Nat → Latched) (o : Osc) (b : Nat) : Osc :=
  if r.latches g b then
    (o.take (latch (oscMode (g b)) (bits (g (b + 1)) 11 0))).load g (g b) b (r.oscSeed b) r.released
  else o

/-- The held F changes of a unit are applied at its zero point (R48, R88): the new MODE and WAVE reach the oscillator, which restarts
from its start state where its mode or entry is new. -/
def VRun.applyHeld (r : VRun) (g : Nat → Nat) (latch : Nat → Nat → Latched) (u : FadeUnit) : VRun :=
  let r' := match u with
    | .osc1 => { r with osc1 := r.restart g latch r.osc1 0x08 }
    | .osc2 => { r with osc2 := r.restart g latch r.osc2 0x10 }
    | .mix => r
    | .filter => { r with ic := [0, 0, 0, 0] ++ r.ic.drop 4 }
  { r' with fHold := (fadeWords u).foldl Sp.del r'.fHold }

/-- One unit's fade advances and, at zero, applies what it holds. -/
def VRun.stepUnit (r : VRun) (g : Nat → Nat) (latch : Nat → Nat → Latched) (u : FadeUnit) : VRun :=
  let f := stepFade (r.fade u)
  let r := r.setFade u f.1
  if f.2 then r.applyHeld g latch u else r

/-- A crossfade that has run 32 samples ends; a change that waits in the word begins its own (R82). DEDUCED (log 67, not safe). -/
def endXFade (g : Nat → Nat) (p : Nat × XFade) : Option (Nat × XFade) :=
  let f := (wordXFields (p.1 / 4)).getD (p.1 % 4) (0, 0)
  let now := bits (g (p.1 / 4)) f.1 f.2
  if p.2.i < 32 then some p else if now = p.2.new then none else some (p.1, ⟨p.2.new, now, 0⟩)

/-- Crossfades end or advance by one sample. -/
def VRun.stepXFades (r : VRun) (g : Nat → Nat) : VRun :=
  { r with xfades := (r.xfades.filterMap (endXFade g)).map (fun p => (p.1, { p.2 with i := p.2.i + 1 })) }

/-- The pitch sum of an oscillator with MODE word m (R42). -/
def VRun.pitch (r : VRun) (g : Nat → Nat) (m b d : Nat) : Int :=
  let key := if bit m 12 then r.useG g 0x80 else 15360
  clampI 0 65535 (key + Int.tdiv (r.useG g 0x88 * r.useG g 0x02) 32768 + r.useG g 0x01 + r.useG g (b + 2) + r.sum 1 + r.sum d)

/-- One sample of oscillator j (0 or 1): the oscillator after it, its output, and its reads. other is the other oscillator's output of the
sample before. An oscillator that a switch fade has restarted keeps the increment, depth and morph values of the sample before.
DESIGN CHOICE (log 115, not safe). -/
def VRun.oscSample (r : VRun) (c : VCtx) (j : Nat) (o : Osc) (own other : Int) : Osc × List (Nat × Nat) :=
  let b := 0x08 + 8 * j
  let m := r.inForce c.g b
  let mode := oscMode m
  let o := o.advance m
  let p := r.pitch c.g m b (2 + j)
  let inc :=
    if mode = 0 then 0
    else if mode = 2 then (match o.entry with | some e => incSample c.rc p e.root e.srate | none => 0)
    else incPitch c.rc p
  let morph (w d : Nat) : Nat := (clampI 0 65535 (r.useG c.g w + r.sum d)).toNat
  let a := morph (b + 4) (6 + 2 * j)
  let bb := morph (b + 5) (7 + 2 * j)
  let dep := clampI (-32768) 32767 (r.useG c.g (b + 6) + r.sum (10 + j))
  let o := if r.first then { o with morphA := a, morphB := bb, pmDep := 0 } else o
  let used := if r.first then inc else o.inc
  let src := bits m 10 9
  let mIn : Int := if src = 1 then other else if src = 2 then own else if src = 3 then c.bus.getD (bits m 8 4) 0 else 0
  let phase := if mode = 2 then 0 else ((o.pos.toNat + pmOffset o.pmDep mIn) % 2 ^ 32)
  let silent := r.badpatch || o.badwave
  let out := if silent then 0 else o.output c m phase used a
  let reads := if silent then [] else o.reads c m phase used
  ({ o with inc := inc, morphA := a, morphB := bb, pmDep := dep, out := out }, reads)

/-- The oscillator mix (R67), S24. A switch fade scales an oscillator here, and not its output as a modulation source.
DESIGN CHOICE (log 114, not safe). -/
def VRun.mixOf (r : VRun) (g : Nat → Nat) (o1 o2 : Osc) : Int :=
  let hdr := r.inForce g 0x00
  let lv (b d : Nat) : Rat := mkRat (clampI (-32768) 32767 (r.useG g (b + 3) + r.sum d)) 32768
  let gain (f : Option SFade) : Rat := match f with | some f => mkRat f.gain 32 | none => 1
  let x1 := s24Val o1.out * gain o1.fade
  let x2 := s24Val o2.out * gain o2.fade
  let t1 := if bit hdr 11 then x1 * lv 0x08 4 else 0
  let t2 := if bit hdr 10 then (if bit hdr 9 then x1 * x2 else x2) * lv 0x10 5 else 0
  fadeGain r.mixFade (toS24 (t1 + t2))

/-- One rendered sample of a sounding voice that is not in a retirement fade. DEDUCED (log 72, not safe). -/
def VRun.renderLive (r : VRun) (c : VCtx) (latch : Nat → Nat → Latched) : Rendered :=
  let g := c.g
  -- glides and portamento, crossfades, switch fades
  let r := { r with glides := stepGlides r.glides }
  let r := r.stepXFades g
  let r : VRun := [FadeUnit.osc1, .osc2, .mix, .filter].foldl (fun (r : VRun) u => r.stepUnit g latch u) r
  -- oscillators, from the outputs of the sample before
  let y1 := r.osc1.out
  let y2 := r.osc2.out
  let o1 := r.oscSample c 0 r.osc1 y1 y2
  let o2 := r.oscSample c 1 r.osc2 y2 y1
  let x := r.mixOf g o1.1 o2.1
  let fl := r.filter c.rc g x
  let tl := r.tilt c.rc g (fadeGain r.filtFade fl.1)
  -- envelopes, LFOs, matrix
  let env := [0, 1, 2].map (fun j => (r.env.getD j Env.idle).sample c.rc g (0x20 + 16 * j))
  let lfo := [0, 1].map (fun j => r.lfoSample c.rc g j (r.lfo.getD j Lfo.idle))
  let sums := r.matrix g env lfo
  -- amplitude (R109)
  let e0 : Nat := (env.getD 0 Env.idle).level
  let vg : Rat := 1 - mkRat (r.useG g 0x71) 65536 * (1 - mkRat (r.useG g 0x81) 65536)
  let ag : Rat := mkRat (clampI 0 65535 (r.useG g 0x70 + r.sum 15)) 32768
  let amp : Rat := if r.badpatch then 0 else mkRat e0 (2 ^ 30) * vg * ag
  let y := toS24 (s24Val tl.1 * amp)
  let loudX := amp * 65536
  let loudF := loudX.floor
  let loud := if (loudF : Rat) = loudX || !Config.roundUp amp then loudF else loudF + 1
  let ramp : Int := if r.st = 3 then 64 - (r.rampK + 1 : Nat) else 64
  let y' := rneI (y * ramp) 6
  -- light value (R138)
  let q (x : Rat) : Rat := mkRat (rneQ (x * ((2 ^ 30 : Nat) : Rat))) (2 ^ 30)
  let gsv : Rat := mkRat (r.gs c) (2 ^ 23)
  let lv := q (q (q (mkRat e0 (2 ^ 30) * vg) * ag) * gsv)
  let val (level : Nat) : Int :=
    if r.badpatch then 0 else clampI 0 (2 ^ 30) (rneQ (lv * mkRat level 128 * ((2 ^ 30 : Nat) : Rat)))
  let out := r.emit c y' val ramp (o1.2 ++ o2.2)
  { out with run := { r with
      osc1 := o1.1, osc2 := o2.1, ic := fl.2 ++ [tl.2], env := env, lfo := lfo, sums := sums, first := false,
      y := y', light := (rneI (val (bits (g 0x7C) 15 8) * ramp) 6).toNat, loud := Nat.min 65535 loud.toNat,
      rampK := if r.st = 3 then r.rampK + 1 else r.rampK,
      fin := r.st ≠ 3 && (env.getD 0 Env.idle).finished } }

/-- One rendered sample of a voice (R114, R115): a retirement fade lets the held output and light value fall, while spatial gain, sends and
light send go on as usual, their glides and crossfades too. -/
def VRun.render (r : VRun) (c : VCtx) (latch : Nat → Nat → Latched) : Rendered :=
  match r.retire with
  | some (y, l) =>
    let ramp : Int := 64 - (r.rampK + 1 : Nat)
    let y' := rneI (y * ramp) 6
    let r := { r with
      glides := stepGlides r.glides, rampK := r.rampK + 1, y := y', light := (rneI (l * ramp) 6).toNat }
    (r.stepXFades c.g).emit c y' (fun _ => l) ramp []
  | none => r.renderLive c latch

/-- A failed residue check (R114): the previous output and light value are repeated; the state stays, but for the count of a ramp or of a
retirement fade. -/
def VRun.repeatLast (r : VRun) (c : VCtx) : Rendered :=
  let out := r.emit c r.y (fun _ => r.light) 64 []
  { out with run := { r with rampK := if r.st = 3 then r.rampK + 1 else r.rampK } }

end Sys2Proof.Machine
end

