-- ==== Sys2Proof/Machine/VoiceAlloc.lean ====
section
/-!
DEFINITION. Allocation (chapter 04): notices, starts, retriggers, ramps, ends, the voice events, writes to parameter blocks, slices, the
content hash, and the two sample-locked stages of the Voice Array: intake and render.
-/
namespace Sys2Proof.Machine

/-! ### Notices (R128) -/

/-- A notice of a code for a group and voice (0xFF: none), if its bit in VOICE_NOTICEEN is set. -/
def State.notice (s : State) (code group voice detail arg time : Nat) : State :=
  if s.flag Adr.VOICE_NOTICEEN code then
    let r := s.offer 4 (natLE 1 code ++ natLE 1 group ++ natLE 1 voice ++ natLE 1 detail ++ natLE 2 arg ++ [0, 0] ++ natLE 8 time)
    if r.1 = .full then r.2.count Adr.VOICE_NOTICELOST else r.2
  else s

/-- A notice about voice index v. -/
def State.noticeV (s : State) (code v detail arg time : Nat) : State := s.notice code (v / 16) (v % 16) detail arg time

/-- A starting event is dropped: counted, and reported by ALLOC_FAIL (R121, Table VA-7). -/
def State.dropStart (s : State) (group voice cause time : Nat) : State :=
  (s.count Adr.VOICE_DROPPED).notice 1 group voice cause 0 time

/-- MIRRORED is lost or was never gained, with its cause (Table VA-8). -/
def State.mirrorBreak (s : State) (v cause time : Nat) : State :=
  let s := s.setVRun v { s.vRun v with mirrored := false }
  (s.count Adr.VOICE_MIRRORBRK).noticeV 7 v cause 0 time

/-- What a source that reaches voice v breaks (R131): LOCAL, NODE or LATE. DEDUCED (log 28, not safe). -/
def VSrc.breaks (x : VSrc) (mzone : Nat) : Option Nat :=
  match x with
  | .localWrite => some 1
  | .trailWrite _ => some 2
  | .event z zd late => if !zd || (z ≠ mzone && z ≠ 63) then some 2 else if late then some 3 else none

/-- A source reaches voice v. -/
def State.reach (s : State) (v : Nat) (x : VSrc) (time : Nat) : State :=
  if (s.vRun v).mirrored then
    match x.breaks (s.vRun v).mzone with
    | some c => s.mirrorBreak v c time
    | none => s
  else s

/-! ### Reading content -/

/-- First byte of the wave region. -/
def State.waveBase (s : State) : Nat := s.fld Adr.VOICE_WAVEBASE 23 12 * 4096
/-- Size of the wave region in bytes. -/
def State.waveSize (s : State) : Nat := s.fld Adr.VOICE_WAVESIZE 23 12 * 4096
/-- First byte of the patch region. -/
def State.patchBase (s : State) : Nat := s.fld Adr.VOICE_PATCHBASE 23 16 * 65536

/-- The 32 bytes of directory entry n (R71), or none where a word of it cannot be corrected. DEDUCED (log 70, not safe). -/
def State.waveEntry (s : State) (n : Nat) : Option (List Byte) :=
  let a := s.waveBase + 32 * n
  if (touchedWords a 32).any (fun w => s.eccOf w = some true) then none else some (s.memBytes a 32)

/-- The entry that an oscillator of voice v latches for a mode and an index (R73, R74). -/
def State.latch (s : State) (v mode idx : Nat) : Latched :=
  latchEntry s.waveEntry s.waveSize mode idx (s.vWord v 0x80 / 256)

/-- The directory entries that a latch reads: the one named, and those that a key map names (R73, R74). -/
def State.latchNos (s : State) (mode idx : Nat) : List Nat :=
  if mode = 1 then [idx]
  else if mode = 2 then
    match s.waveEntry idx with
    | some b => if byteAt b 0 = 4 then idx :: ((keyMapZones b).getD []).map (·.2) else [idx]
    | none => [idx]
  else []

/-- The Basin reads of a latched entry, with their error detection (R244). -/
def State.latchReads (s : State) (mode idx : Nat) : State :=
  (s.latchNos mode idx).foldl (fun s n => (s.basinRead Master.voice (s.waveBase + 32 * n) 32).2) s

/-- An invalid entry is counted and reported (R74). DEDUCED (log 70, not safe). -/
def State.reportWave (s : State) (v osc idx : Nat) (l : Latched) (time : Nat) : State :=
  if l.bad then (s.count Adr.VOICE_BADWAVE).noticeV 4 v osc idx time else s

/-! ### Ends and ramps -/

/-- A voice becomes IDLE (R119, R123). -/
def VRun.toIdle (r : VRun) : VRun :=
  { r with
    st := 0, mirrored := false, fin := false, rampK := 0, released := false, retire := none, defer := none, deferWrites := [], glides := [],
    xfades := [], fHold := [], mixFade := none, filtFade := none, y := 0, light := 0, osc1 := { r.osc1 with fade := none },
    osc2 := { r.osc2 with fade := none } }

/-- Voice v becomes IDLE, with VOICE_END. -/
def State.endVoice (s : State) (v time : Nat) : State := (s.setVRun v (s.vRun v).toIdle).noticeV 3 v 0 0 time

/-- The steal ramp begins (R123). -/
def State.rampVoice (s : State) (v : Nat) : State :=
  s.setVRun v { s.vRun v with st := 3, rampK := 0, fin := false }

/-- The release phase of voice v begins at boundary time (R62, R97, R119). NOREL is read here: a change of it in the release phase waits for
the next one. DESIGN CHOICE (log 122, not safe). -/
def State.releaseVoice (s : State) (v time : Nat) : State :=
  let r := s.vRun v
  let g := s.vWord v
  let leave (o : Osc) (b : Nat) : Osc :=
    let m := r.inForce g b
    if oscMode m = 2 && !bit m 2 then { o with looping := false, inloop := false } else o
  s.setVRun v { r with
    st := 2, released := true, reltime := time, osc1 := leave r.osc1 0x08, osc2 := leave r.osc2 0x10,
    env := [0, 1, 2].map (fun j =>
      (r.env.getD j Env.idle).release s.rateCode g (0x20 + 16 * j) (bit (g (0x78 + j)) 2)) }

/-! ### Writes that take effect -/

/-- One word of voice v takes a value (R25, R48, R82, R86). -/
def State.applyWord (s : State) (v w x : Nat) (own : Option (Nat × Nat)) : State :=
  let old := s.vWord v w
  let s := s.setVWord v w x
  let r := s.vRun v
  if r.sounding then s.setVRun v (r.wordChanged s.rateCode (s.vWord v) w old x own) else s

/-- A run of words of voice v takes values. -/
def State.applyWords (s : State) (v w : Nat) (own : Option (Nat × Nat)) : List Nat → State
  | [] => s
  | x :: xs => (s.applyWord v w x own).applyWords v (w + 1) own xs

/-- Words that act only after y (R131). -/
def wordAfterY (w : Nat) : Bool := (0x72 ≤ w && w ≤ 0x77) || w = 0x7C || (0x90 ≤ w && w ≤ 0xAF)

/-- Whether a MODE word of the block names a mix bus as its phase-modulation source. -/
def busPm (g : Nat → Nat) : Bool := bits (g 0x08) 10 9 = 3 || bits (g 0x10) 10 9 = 3

/-- A run of words reaches voice v from a source, for MIRRORED (R131). -/
def State.reachWords (s : State) (v w n : Nat) (x : VSrc) (time : Nat) : State :=
  let s := if (List.range n).all (fun i => wordAfterY (w + i)) then s else s.reach v x time
  if (s.vRun v).mirrored && busPm (s.vWord v) then s.mirrorBreak v 6 time else s

/-- The values of a held write. -/
def HeldWrite.nats (h : HeldWrite) : List Nat := h.values.map (·.toNat)

/-- A held write is checked again and applied, or discarded; counter counts a discarded one (R25, R124). -/
def State.applyHeldWrite (s : State) (h : HeldWrite) (counter time : Nat) : State :=
  if (runStatus (s.vWord h.voice) h.word h.nats).1 ≠ 0 then s.count counter
  else (s.applyWords h.voice h.word h.glide h.nats).reachWords h.voice h.word h.values.length h.src time

/-! ### Starts (R49, R81, R100 to R104, R121) -/

/-- An LFO at a voice start (R102 to R104). -/
def Lfo.start (rc : Nat) (g : Nat → Nat) (j seed sample : Nat) : Lfo :=
  let b := 0x50 + 4 * j
  let g0 := seed ^^^ (if j = 0 then 0x85EBCA6B else 0xC2B2AE35)
  let a := lcg g0
  let c := lcg a
  let p0 := g (b + 3) * 2 ^ 16
  let p := if bits (g b) 4 3 = 2 then (sample * incLfo rc (g (b + 1)) + p0) % 2 ^ 32 else p0
  { phase := p, gen := c, v0 := drawS24 a, v1 := drawS24 c, k := 0, fadeN := timeCode rc (bits (g (b + 2)) 13 0), out := 0 }

/-- The deferred writes of a start: those applied, and the state. One that now fails is discarded whole: events count in TRAIL_BADMSG, other
writes in VOICE_HELDDROP (R124). They act without glides or fades. -/
def State.startWrites (s : State) (v : Nat) : List HeldWrite → List HeldWrite × State
  | [] => ([], s)
  | h :: hs =>
    if (runStatus (s.vWord v) h.word h.nats).1 ≠ 0 then
      (match h.src with
        | .event _ _ _ => s.count Adr.TRAIL_BADMSG
        | _ => s.count Adr.VOICE_HELDDROP).startWrites v hs
    else
      let r := (s.setVWords v h.word h.nats).startWrites v hs
      (h :: r.1, r.2)

/-- The content's part in R130 and R131: STALE, or a hash that differs from the reference. -/
def State.contentCause (s : State) : Option Nat :=
  if s.flag Adr.VOICE_HASHCTL 2 then some 10
  else if s.reg Adr.VOICE_HASHLO = s.reg Adr.VOICE_REFHASHLO && s.reg Adr.VOICE_HASHHI = s.reg Adr.VOICE_REFHASHHI then none
  else some 9

/-- The cause that keeps a directed start from MIRRORED, if any (R130): late, deferred without its voice having been mirrored, a bus
as modulation source of the patch image, or content that no longer matches. -/
def DStart.notMirrored (d : DStart) (deferred pm : Bool) (content : Option Nat) : Option Nat :=
  if d.late then some 3 else if deferred && !d.mirrorOk then some 4 else if pm then some 6 else content

/-- Voice v starts at boundary time (R81, R121). A patch that is refused keeps its words, and its oscillators latch their entries; one that
cannot be read leaves the words of the block. DEDUCED (log 27, not safe). DESIGN CHOICE (log 118, not safe). DESIGN CHOICE (log 119, not safe). -/
def State.startVoice (s : State) (v : Nat) (d : DStart) (deferred : Bool) (writes : List HeldWrite) (time : Nat) : State :=
  -- the patch copy
  let rd := s.basinRead Master.voice (s.patchBase + 256 * d.patch) 256
  let s := rd.2
  let img := rd.1.getD []
  let gp (w : Nat) : Nat := leAt img (2 * w) 2
  let good := rd.1.isSome && crc16 (img.take 254) = leAt img 254 2 && patchValid gp
  let s := if rd.1.isSome then s.setVWords v 0 ((List.range 128).map gp) else s
  let s := if good then s else (s.count Adr.VOICE_BADPATCH).noticeV 5 v 0 d.patch time
  -- the event's own words
  let s := s.setVWords v 0x80 [d.key, d.vel]
  let s := s.setVWords v 0x8A [d.seed % 65536, d.seed / 65536]
  let held := s.startWrites v writes
  let s := held.2
  let g := s.vWord v
  let rc := s.rateCode
  -- SEED as the event and the held writes leave it (R68, R103, R124)
  let seed := g 0x8A + 65536 * g 0x8B
  let m1 := oscMode (g 0x08)
  let m2 := oscMode (g 0x10)
  let l1 := s.latch v m1 (bits (g 0x09) 11 0)
  let l2 := s.latch v m2 (bits (g 0x11) 11 0)
  let s := if good then
      (((s.latchReads m1 (bits (g 0x09) 11 0)).latchReads m2 (bits (g 0x11) 11 0)).reportWave v 1 (bits (g 0x09) 11 0) l1 time
        ).reportWave v 2 (bits (g 0x11) 11 0) l2 time
    else s
  let osc (l : Latched) (b seed : Nat) : Osc :=
    (Osc.idle.take l).load g (g b) b seed false
  let why := d.notMirrored deferred (busPm gp) s.contentCause
  let mirrored := d.directed && d.zoneDirected && why.isNone
  let run : VRun := { VRun.idle with
    st := 1, directed := d.directed, mirrored := mirrored, prio := d.prio, mzone := if d.directed && d.zoneDirected then d.zone else 0,
    patchno := d.patch, notekey := d.key / 256, start := time, seed := seed, first := true, badpatch := !good,
    osc1 := osc l1 0x08 seed, osc2 := osc l2 0x10 (seed ^^^ 0x9E3779B9),
    env := [0, 1, 2].map (fun j => Env.enter rc g (0x20 + 16 * j) envFuel Env.idle 0),
    lfo := [0, 1].map (fun j => Lfo.start rc g j seed (time / s.spt)),
    sums := List.replicate 22 0 }
  let s := s.setVRun v run
  if d.directed && d.zoneDirected then
    match why with
    | some c => s.mirrorBreak v c time
    | none => held.1.foldl (fun s h => s.reachWords v h.word h.values.length h.src time) s
  else s

/-- Entries that an oscillator latches as its unit's held changes come into force are read, and an invalid one is reported (R74). -/
def State.latched (s : State) (v : Nat) (r : VRun) (b k time : Nat) : State :=
  let g := s.vWord v
  if r.latches g b then
    let i := bits (g (b + 1)) 11 0
    (s.latchReads (oscMode (g b)) i).reportWave v k i (s.latch v (oscMode (g b)) i) time
  else s

/-- A retrigger with PHRST = 1 reloads the oscillator at base b: held changes come into force, no switch fade goes on, and the start state is
loaded (R49). -/
def VRun.reload (r : VRun) (g : Nat → Nat) (latch : Nat → Nat → Latched) (u : FadeUnit) (b : Nat) : VRun :=
  if bit (g b) 11 then
    let r := (r.applyHeld g latch u).setFade u none
    match u with
    | .osc1 => { r with osc1 := r.osc1.load g (g b) b (r.oscSeed b) r.released }
    | .osc2 => { r with osc2 := r.osc2.load g (g b) b (r.oscSeed b) r.released }
    | _ => r
  else r

/-- A retrigger: R49 for the oscillators, R98 for the envelopes, R104 for the LFOs; KEY and VEL are written (R121). DEDUCED (log 69, not safe). -/
def State.retriggerVoice (s : State) (v key vel prio time : Nat) : State :=
  let s := (s.applyWord v 0x80 key none).applyWord v 0x81 vel none
  let g := s.vWord v
  let s := if bit (g 0x08) 11 then s.latched v (s.vRun v) 0x08 1 time else s
  let s := if bit (g 0x10) 11 then s.latched v (s.vRun v) 0x10 2 time else s
  let r := s.vRun v
  let rc := s.rateCode
  -- whether the release phase of ENV0 ends (R98, R119)
  let ends := bits (g 0x78) 1 0 ≤ 1 && (r.env.getD 0 Env.idle).rel
  let r := { r with released := r.released && !ends }
  let r := (r.reload g (s.latch v) .osc1 0x08).reload g (s.latch v) .osc2 0x10
  let lfo (j : Nat) : Lfo :=
    let l := r.lfo.getD j Lfo.idle
    let b := 0x50 + 4 * j
    if bits (g b) 4 3 = 1 then
      { l with phase := g (b + 3) * 2 ^ 16, k := 0, fadeN := timeCode rc (bits (g (b + 2)) 13 0) } else l
  let rt (j : Nat) : Nat := bits (g (0x78 + j)) 1 0
  s.setVRun v { r with
    prio := prio,
    env := [0, 1, 2].map (fun j => (r.env.getD j Env.idle).retrigger rc g (0x20 + 16 * j) (rt j)),
    lfo := [0, 1].map lfo,
    st := if ends then 1 else r.st, fin := false }

/-! ### The allocator (R121 to R126) -/

/-- Whether group g is lost (R116). -/
def State.groupLost (s : State) (g : Nat) : Bool := s.fld (Adr.VOICE_GRPSLICE g) 5 0 = 0x3F

/-- The configuration of group g in force (R126). -/
def State.groupCfg (s : State) (g : Nat) : Nat := Sp.get (fun _ => 0) s.voice.cfgs g

/-- Voices of group g that are neither pinned nor in RAMP. -/
def State.cand (s : State) (g : Nat) : List Nat :=
  let pins := Sp.get (fun _ => 0) s.voice.pins g
  ((List.range s.groupVoices).filter (fun i => !bit pins i && (s.vRun (16 * g + i)).st ≠ 3)).map (16 * g + ·)

/-- Lexicographic order of keys. -/
def lexLt : List Nat → List Nat → Bool
  | a :: as, b :: bs => a < b || (a = b && lexLt as bs)
  | _, _ => false

/-- The element with the least key; the first of equals. -/
def leastBy (key : Nat → List Nat) : List Nat → Option Nat
  | [] => none
  | x :: xs => some (xs.foldl (fun m y => if lexLt (key y) (key m) then y else m) x)

/-- The victim of a policy among cand, or the cause of the drop (R122). -/
def State.victim (s : State) (policy prio : Nat) (cand : List Nat) : Except Nat Nat :=
  let r (v : Nat) : VRun := s.vRun v
  let rel (v : Nat) : Nat := if (r v).st = 2 then 0 else 1
  if policy = 1 then
    match leastBy (fun v => [(r v).loudWas, (r v).start]) cand with | some v => .ok v | none => .error 1
  else if policy = 2 then
    match leastBy (fun v => [(r v).prio, rel v, (r v).start]) cand with
    | some v => if prio < (r v).prio then .error 2 else .ok v
    | none => .error 1
  else
    match leastBy (fun v => [rel v, if (r v).st = 2 then (r v).reltime else (r v).start, (r v).start]) cand with
    | some v => .ok v
    | none => .error 1

/-- The voice was started earlier in this intake (R125). -/
def State.justStarted (s : State) (v time : Nat) : Bool :=
  (s.vRun v).first && (s.vRun v).start = time && (s.vRun v).st ≠ 0 && (s.vRun v).st ≠ 3

/-- A ramp that gives voice v to another start: counted and noticed (R123), the start deferred. -/
def State.steal (s : State) (v : Nat) (d : DStart) (time : Nat) : State :=
  let s := (s.rampVoice v).count Adr.VOICE_STEALS
  let s := s.noticeV 2 v 0 d.patch time
  s.setVRun v { s.vRun v with defer := some d, deferWrites := [] }

/-- NOTE_ON (R70, R121). -/
def State.noteOn (s : State) (g key vel prio : Nat) (patch seed : Option Nat) (src : VSrc) (time : Nat) : State :=
  if s.groupLost g then s.dropStart g 0xFF 3 time
  else
    let policy := bits (s.groupCfg g) 1 0
    let cand := s.cand g
    let same := cand.find? (fun v =>
      let r := s.vRun v
      (r.st = 1 || r.st = 2) && !r.directed && r.notekey = key / 256)
    match (if policy = 3 then same else none) with
    | some v => s.retriggerVoice v key vel prio time
    | none =>
      let sd := seed.getD (s.reg Adr.VOICE_SEEDGEN)
      let late := match src with | .event _ _ l => l | _ => false
      let d : DStart :=
        { patch := patch.getD (bits (s.groupCfg g) 19 8), seed := sd, key := key, vel := vel, prio := prio, directed := false,
          zone := 0, zoneDirected := false, late := late, mirrorOk := false }
      let take (s : State) : State := if seed.isNone then s.setReg Adr.VOICE_SEEDGEN (lcg sd) else s
      match cand.find? (fun v => (s.vRun v).st = 0) with
      | some v => (take s).startVoice v d false [] time
      | none =>
        match s.victim policy prio cand with
        | .error c => s.dropStart g 0xFF c time
        | .ok v =>
          let s := if (s.vRun v).mirrored then s.mirrorBreak v 5 time else s
          if s.justStarted v time then (take s).startVoice v d false [] time else (take s).steal v d time

/-- NOTE_OFF (Table VA-3). -/
def State.noteOff (s : State) (g keyno relvel time : Nat) : State :=
  ((List.range s.groupVoices).map (16 * g + ·)).foldl (fun s v =>
    let r := s.vRun v
    let s := if r.st = 1 && !r.directed && r.notekey = keyno then
        (s.applyWord v 0x82 relvel none).releaseVoice v time else s
    match r.defer with
    | some d => if !d.directed && d.key / 256 = keyno then
        s.setVRun v { s.vRun v with defer := none, deferWrites := [] } else s
    | none => s) s

/-- VOICE_STOP (Table VA-3). -/
def State.voiceStop (s : State) (v : Nat) : State :=
  let r := s.vRun v
  let s := if r.st = 1 || r.st = 2 then s.rampVoice v else s
  s.setVRun v { s.vRun v with defer := none, deferWrites := [] }

/-- VOICE_HASHCTL.MATCH (R133). -/
def State.hashMatch (s : State) : Bool :=
  s.reg Adr.VOICE_HASHLO = s.reg Adr.VOICE_REFHASHLO && s.reg Adr.VOICE_HASHHI = s.reg Adr.VOICE_REFHASHHI &&
  !s.flag Adr.VOICE_HASHCTL 2 && !s.flag Adr.VOICE_HASHCTL 1

/-- A start in the same intake replaces the earlier one of voice v entirely (R125): a mirrored voice so taken by a message that is
node-directed or of another zone is broken; a start that does not gain MIRRORED reports that itself. -/
def State.replace (s : State) (v : Nat) (src : VSrc) (time : Nat) : State :=
  if (s.vRun v).mirrored && src.breaks (s.vRun v).mzone = some 2 then s.mirrorBreak v 2 time else s

/-- DIRECTED_START (R127, R130, R133). DEDUCED (log 28, not safe). -/
def State.directedStart (s : State) (v key vel prio : Nat) (legato : Bool) (patch seed : Nat) (src : VSrc) (time : Nat) : State :=
  let (z, zd, late) : Nat × Bool × Bool := match src with | .event z zd l => (z, zd, l) | _ => (0, false, false)
  if zd && !s.hashMatch then
    let cause := if s.flag Adr.VOICE_HASHCTL 2 || s.flag Adr.VOICE_HASHCTL 1 then 10 else 9
    (s.count Adr.VOICE_MIRRORBRK).noticeV 6 v cause 0 time
  else
    let r := s.vRun v
    let zone := if zd then z else 0
    let d : DStart :=
      { patch := patch, seed := seed, key := key, vel := vel, prio := prio, directed := true, zone := zone, zoneDirected := zd,
        late := late, mirrorOk := r.mirrored && zd && r.mzone = z }
    if r.st = 0 || s.justStarted v time then (s.replace v src time).startVoice v d false [] time
    else if r.st = 3 then
      let s := s.reach v src time
      s.setVRun v { s.vRun v with defer := some d }
    else if legato && r.patchno = patch then
      let s := if !zd then s.reach v src time
        else if late then s.mirrorBreak v 3 time
        else if d.mirrorOk then s else s.mirrorBreak v 4 time
      let s := s.retriggerVoice v key vel prio time
      s.setVRun v { s.vRun v with directed := true, mzone := zone }
    else
      let s := s.reach v src time
      s.steal v d time

/-- PARAM_SET (R24, R84, R124): false where the engine refuses it (R305). -/
def State.paramSet (s : State) (v word value : Nat) (glide : Option (Nat × Nat)) (src : VSrc) (time : Nat) : Bool × State :=
  let h : HeldWrite := ⟨src, v, word, [BitVec.ofNat 16 value], glide⟩
  let r := s.vRun v
  if (runStatus (s.vWord v) word [value]).1 ≠ 0 || (match glide with | some (_, sh) => 2 ≤ sh | none => false) then (false, s)
  else if r.defer.isSome then (true, s.setVRun v { r with deferWrites := r.deferWrites ++ [h] })
  else (true, (s.applyWords v word glide [value]).reachWords v word 1 src time)

/-- A voice event at an intake for the sample whose boundary is time (R120): false where the engine refuses it. -/
def State.voiceEvent (s : State) (e : VEvent) (src : VSrc) (time : Nat) : Bool × State :=
  let bad (g v : Nat) : Bool := 32 ≤ g || s.groupVoices ≤ v
  match e with
  | .noteOn g key vel prio patch seed =>
    if 32 ≤ g then (true, s.dropStart g 0xFF 4 time)
    else if 32767 < key then (false, s)
    else (true, s.noteOn g key vel prio patch seed src time)
  | .noteOff g keyno relvel =>
    if 32 ≤ g then (true, s.dropStart g 0xFF 4 time) else (true, s.noteOff g keyno relvel time)
  | .directed g v key vel prio legato patch seed =>
    if bad g v then (true, s.dropStart g v 4 time)
    else if 32767 < key then (false, s)
    else if s.groupLost g then (true, s.dropStart g v 3 time)
    else (true, s.directedStart (16 * g + v) key vel prio legato patch seed src time)
  | .voiceOff g v relvel =>
    if bad g v then (true, s.dropStart g v 4 time)
    else
      let i := 16 * g + v
      if (s.vRun i).st = 1 then (true, (((s.applyWord i 0x82 relvel none).reach i src time).releaseVoice i time)) else (true, s)
  | .voiceStop g v =>
    if bad g v then (true, s.dropStart g v 4 time)
    else (true, ((s.reach (16 * g + v) src time).voiceStop (16 * g + v)))
  | .groupStop g =>
    if 32 ≤ g then (true, s.dropStart g 0xFF 4 time)
    else (true, ((List.range s.groupVoices).map (16 * g + ·)).foldl (fun s v => (s.reach v src time).voiceStop v) s)
  | .paramSet g v word value glide =>
    if bad g v then (true, s.dropStart g v 4 time) else s.paramSet (16 * g + v) word value glide src time

/-! ### Local writes (R25, R33, R34) -/

/-- The status of a write of a run of words to voice v when it is accepted (R33, R34, R38, R458). -/
def State.blockStatus (s : State) (v word : Nat) (vals : List Nat) : Nat :=
  if 512 ≤ v || s.groupVoices ≤ v % 16 || 0x400 < word + vals.length then St.noaddr
  else (runStatus (s.vWord v) word vals).1

/-- An accepted write waits for the next intake. DEDUCED (log 18, not safe). -/
def State.holdWrite (s : State) (src : VSrc) (v word : Nat) (vals : List Half) : State :=
  { s with voice := { s.voice with held := s.voice.held ++ [⟨src, v, word, vals, none⟩] } }

/-- Adjoining runs of words of one voice become one write. DEDUCED (log 21, not safe). -/
def joinHeld (l : List HeldWrite) : List HeldWrite :=
  l.foldr (fun h (r : List HeldWrite) => match r with
    | [] => [h]
    | n :: t =>
      if h.voice = n.voice && h.word + h.values.length = n.word then { h with values := h.values ++ n.values } :: t else h :: r) []

/-- The writes that one command has added to the held writes are held as whole runs, since they are checked again as a whole (R25).
DEDUCED (log 21, not safe). -/
def State.joinNewHeld (s : State) (before : Nat) : State :=
  { s with voice := { s.voice with held := s.voice.held.take before ++ joinHeld (s.voice.held.drop before) } }

/-- The held writes at an intake, in the order of acceptance; those of a voice with DEFER set wait for its start (R25, R124). -/
def State.applyHeldWrites (s : State) (time : Nat) : State :=
  let hs := s.voice.held
  hs.foldl (fun s h =>
    let r := s.vRun h.voice
    if r.defer.isSome then s.setVRun h.voice { r with deferWrites := r.deferWrites ++ [h] }
    else s.applyHeldWrite h Adr.VOICE_HELDDROP time) { s with voice := { s.voice with held := [] } }

/-! ### Slices (R112, R115 to R117) -/

/-- Whether slice k is retired (VOICE_SLICESTAT). -/
def State.sliceRetired (s : State) (k : Nat) : Bool :=
  if k < 32 then s.flag Adr.VOICE_SLICESTAT0 k else s.flag Adr.VOICE_SLICESTAT1 (k - 32)

/-- The lowest-numbered slice that is neither retired nor in use. -/
def State.spareSlice (s : State) : Option Nat :=
  (List.range 34).find? (fun k => !s.sliceRetired k && (List.range 32).all (fun g => s.fld (Adr.VOICE_GRPSLICE g) 5 0 ≠ k))

/-- Groups that the next intake moves: those of a retired slice, and lost ones (R115, R117). -/
def State.groupsToMove (s : State) : List Nat :=
  (List.range 32).filter (fun g => s.groupLost g || s.sliceRetired (s.fld (Adr.VOICE_GRPSLICE g) 5 0))

/-- Voice v of a group whose slice was retired is stopped: the held output falls over 64 samples (R115). -/
def State.retireVoice (s : State) (v time : Nat) : State :=
  let s := if (s.vRun v).mirrored then s.mirrorBreak v 7 time else s
  let r := s.vRun v
  s.setVRun v { r with st := 3, rampK := 0, retire := some (r.y, r.light), defer := none, deferWrites := [], fin := false }

/-- Group g moves off a retired slice, is lost, or takes a re-admitted slice (R115 to R117). -/
def State.moveGroup (s : State) (time g : Nat) : State :=
  let old := s.fld (Adr.VOICE_GRPSLICE g) 5 0
  let voices := s.sounding.filter (fun v => v / 16 = g)
  if old = 0x3F then
    match s.spareSlice with
    | some k => s.setFld (Adr.VOICE_GRPSLICE g) 5 0 k
    | none => s
  else if s.sliceRetired old then
    match s.spareSlice with
    | some k =>
      let s := voices.foldl (fun s v => s.retireVoice v time) (s.setFld (Adr.VOICE_GRPSLICE g) 5 0 k)
      s.notice 8 g 0xFF old k time
    | none =>
      let s := voices.foldl (fun s v =>
        let s := if (s.vRun v).mirrored then s.mirrorBreak v 7 time else s
        s.endVoice v time) (s.setFld (Adr.VOICE_GRPSLICE g) 5 0 0x3F)
      s.notice 8 g 0xFF old 0x3F time
  else s

/-! ### Intake (R20, R25, R100, R119, R123) -/

/-- Voice v, at the end of its 64-sample ramp, takes its deferred start or becomes IDLE (R123). -/
def State.endRamp (s : State) (v time : Nat) : State :=
  let r := s.vRun v
  if r.st = 3 && 64 ≤ r.rampK then
    match r.defer with
    | some d => s.startVoice v d true r.deferWrites time
    | none => s.endVoice v time
  else s

/-- Voice v's release phase has lasted N(RELMAX) samples: the steal ramp begins (R100). -/
def State.limitRelease (s : State) (v time : Nat) : State :=
  let r := s.vRun v
  let c := bits (s.vWord v 0x7B) 13 0
  if r.st = 2 && c ≠ 0 && r.reltime + timeCode s.rateCode c * s.spt ≤ time then s.rampVoice v else s

/-- Content that is STALE ends MIRRORED (R131). -/
def State.staleVoices (s : State) (time : Nat) : State :=
  if s.flag Adr.VOICE_HASHCTL 2 then
    s.sounding.foldl (fun s v => if (s.vRun v).mirrored then s.mirrorBreak v 10 time else s) s
  else s

/-- The ends that an intake brings before its events: stale content, slices (their groups in moves), finished voices (shown in fins), ramps
and release limits. -/
def State.intakeEnds (s : State) (moves fins : List Nat) (time : Nat) : State :=
  let s := moves.foldl (fun s g => s.moveGroup time g) (s.staleVoices time)
  let s := fins.foldl (fun s v => if (s.vRun v).fin then s.endVoice v time else s) s
  s.sounding.foldl (fun s v => (s.endRamp v time).limitRelease v time) s

/-- The ends of an intake after its events: held writes, then pins and group configurations (R126). DEDUCED (log 18, not safe). -/
def State.intakeWrites (s : State) (time : Nat) : State :=
  let s := s.applyHeldWrites time
  let nz (f : Nat → Nat) : List (Nat × Nat) :=
    (List.range 32).filterMap (fun g => if f g = 0 then none else some (g, f g))
  { s with voice := { s.voice with
    pins := nz (fun g => s.reg (Adr.VOICE_PIN g))
    cfgs := nz (fun g => s.reg (Adr.VOICE_GRPCFG g)) } }

/-! ### Render (R20, R111, R114, R138) -/

/-- The node position in use: coordinate j of X, Y, Z in whole centimetres (R135). DEDUCED (log 22, not safe). -/
def State.nodePos (s : State) (j : Nat) : Int :=
  let reg := if j = 0 then s.fld Adr.VOICE_NODEPOSXY 15 0 else if j = 1 then s.fld Adr.VOICE_NODEPOSXY 31 16
    else s.fld Adr.VOICE_NODEPOSZ 15 0
  glideUse s.voice.nodeGlide j (sx 16 reg)

/-- What voice v reads in this sample. -/
def State.voiceCtx (s : State) (v : Nat) : VCtx :=
  { rc := s.rateCode, wave := s.waveBase, waveSize := s.waveSize, rd := s.memByte, bus := s.voice.bus, g := s.vWord v,
    node := (s.nodePos 0, s.nodePos 1, s.nodePos 2), nodeValid := s.flag Adr.VOICE_NODEPOSZ 16,
    lch := bits (s.groupCfg (v / 16)) 6 4 }

/-- The entries that the oscillators of voice v, r before this sample, latch at a zero point in it (R48, R74). -/
def State.fadeLatches (s : State) (v : Nat) (r : VRun) (time : Nat) : State :=
  let s := if (stepFade r.osc1.fade).2 then s.latched v r 0x08 1 time else s
  if (stepFade r.osc2.fade).2 then s.latched v r 0x10 2 time else s

/-- Sums of one sample: buses in Q12.23, light channels. -/
structure Sums where
  bus : List Int
  light : List (List Int)

/-- Adds one voice's sends and lights. -/
def Sums.add (t : Sums) (r : Rendered) : Sums :=
  { bus := r.sends.foldl (fun b p => b.set p.1 (b.getD p.1 0 + p.2)) t.bus
    light := r.lights.foldl (fun b p => b.set p.1 (p.2 :: b.getD p.1 [])) t.light }

/-- One voice renders one sample. A read of a word that cannot be corrected counts as a failed check, charged to the row; a failed
check (residue) is a fault of the slice (R114, Table BM-3). Until the intake that moves its group, a voice of a retired slice
repeats its last output. DESIGN CHOICE (log 123, not safe). -/
def State.renderVoice (s : State) (residue : List Nat) (v time : Nat) (t : Sums) : State × Sums :=
  let r := s.vRun v
  let c := s.voiceCtx v
  let slice := s.fld (Adr.VOICE_GRPSLICE (v / 16)) 5 0
  let rep := r.repeatLast c
  if s.sliceRetired slice then (s.setVRun v rep.run, t.add rep)
  else
    let out := r.render c (fun mode idx => s.latch v mode idx)
    let chk := s.checkWords Master.voice (out.reads.flatMap (fun p => touchedWords p.1 p.2))
    let s := chk.2
    if !chk.1 || residue.contains v then
      let s := s.setVRun v rep.run
      let s := if residue.contains v then s.noteErr (22 + slice) else s
      (if r.mirrored then s.mirrorBreak v 8 time else s, t.add rep)
    else ((s.fadeLatches v r time).setVRun v out.run, t.add out)

/-- The code of a light channel (R138). -/
def lightCode (isMax : Bool) (l : List Int) : Nat :=
  let x : Int := if isMax then l.foldl max 0 else clampI 0 (2 ^ 30) (l.foldl (· + ·) 0)
  (rhuQ (mkRat (x * 65535) (2 ^ 30))).toNat

/-- The render stage of the sample whose boundary is time (R20, R111, R118, R138). -/
def State.renderVoices (s : State) (residue : List Nat) (time : Nat) : State :=
  let s := { s with voice := { s.voice with nodeGlide := stepGlides s.voice.nodeGlide } }
  let s := s.sounding.foldl (fun s v => s.setVRun v { s.vRun v with loudWas := (s.vRun v).loud }) s
  let z : Sums := ⟨List.replicate 32 0, List.replicate 8 []⟩
  let r := s.sounding.foldl (fun (p : State × Sums) v => p.1.renderVoice residue v time p.2) (s, z)
  let s := r.1
  let clip := maskOf ((List.range 32).filter (fun b => ovfS 24 (r.2.bus.getD b 0)))
  let s := s.setReg Adr.VOICE_BUSCLIP (s.reg Adr.VOICE_BUSCLIP ||| clip)
  { s with voice := { s.voice with
    bus := r.2.bus.map (satS 24)
    lightPrev := s.voice.light
    light := (List.range 8).map (fun ch => lightCode (s.flag Adr.VOICE_LIGHTCFG ch) (r.2.light.getD ch [])) } }

/-- The Voice Array stops (R401): every voice becomes IDLE without a ramp and without a notice. -/
def State.stopVoices (s : State) : State :=
  let s := s.sounding.foldl (fun s v => s.setVRun v (s.vRun v).toIdle) s
  { s with voice := { s.voice with bus := List.replicate 32 0, light := List.replicate 8 0, lightPrev := List.replicate 8 0 } }

/-! ### Content hash (R132) -/

/-- The node's content hash over the wave region and the patch region. -/
def State.contentHash (s : State) : List Byte :=
  (sha256 (s.memBytes s.waveBase s.waveSize ++ s.memBytes s.patchBase 0x100000)).take 8

/-- The words of the two regions that hold an error, which the reads of the hash meet. DESIGN CHOICE (log 124, not safe). -/
def State.contentErrors (s : State) : List Nat :=
  (s.basin.ecc.map (·.1)).filter (fun w =>
    (s.waveBase ≤ 4 * w && 4 * w < s.waveBase + s.waveSize) || (s.patchBase ≤ 4 * w && 4 * w < s.patchBase + 0x100000))

/-- The hash is stored; its reads come at the sweep's rank (R132). A word that cannot be corrected enters as it is stored.
DEDUCED (log 23, not safe). DESIGN CHOICE (log 124, not safe). -/
def State.storeHash (s : State) : State :=
  let h := s.contentHash
  let s := (s.checkWords Master.sweep s.contentErrors).2
  ((s.setReg Adr.VOICE_HASHLO (leAt h 0 4)).setReg Adr.VOICE_HASHHI (leAt h 4 4)).setFlag Adr.VOICE_HASHCTL 2 false

/-- RECALC starts a recalculation; E_BUSY while one runs (Table VA-10). -/
def State.recalcStart (s : State) : Nat × State :=
  if s.flag Adr.VOICE_HASHCTL 1 then (St.busy, s)
  else
    let s := s.setFlag Adr.VOICE_HASHCTL 1 true
    (0, { s with voice := { s.voice with dirtied := false } })

/-- The recalculation ends: BUSY clears, and STALE unless content was written meanwhile. -/
def State.recalcEnd (s : State) : State :=
  if s.flag Adr.VOICE_HASHCTL 1 then
    let s := s.storeHash
    (s.setFlag Adr.VOICE_HASHCTL 1 false).setFlag Adr.VOICE_HASHCTL 2 s.voice.dirtied
  else s

/-! ### Node position (R135) -/

/-- A written coordinate glides linearly over 1,024 samples from the position in use; what the pack loads at boot is in use at
once. DEDUCED (log 22, not safe). -/
def State.glideNode (s : State) (j : Nat) (old new : Int) : State :=
  if s.booting then { s with voice := { s.voice with nodeGlide := Sp.del s.voice.nodeGlide j } }
  else if old = new && (Sp.find s.voice.nodeGlide j).isNone then s
  else
    let v0 := glideState s.voice.nodeGlide j old
    { s with voice := { s.voice with nodeGlide := Sp.ins s.voice.nodeGlide j (Glide.new v0 new false 1024) } }

/-! ### Commands

SAMPLE_BOUNDARY brings these events itself; each row below is the same event on its own, and does nothing where it is not due. -/

/-- The boundary of the sample whose intake came last. -/
def State.lastIntake (s : State) : Nat := (s.time / s.spt + 3) * s.spt

/-- RAMP_END (R123). -/
def execRampEnd (v : Fin 512) (s : State) : Out := s.run fun s => (if s.inRun then s.endRamp v.val s.lastIntake else s)

/-- RELEASE_LIMIT (R100). -/
def execReleaseLimit (v : Fin 512) (s : State) : Out := s.run fun s => (if s.inRun then s.limitRelease v.val s.lastIntake else s)

/-- SWITCH_FADE_ZERO (R48): a fade that falls and is at zero applies what it holds, and the gain starts to rise. -/
def execSwitchFadeZero (v : Fin 512) (u : FadeUnit) (s : State) : Out := s.run fun s =>
  let r := s.vRun v.val
  if s.inRun && r.fade u = some ⟨0, true⟩ then
    let s := match u with
      | .osc1 => s.latched v.val r 0x08 1 s.lastIntake
      | .osc2 => s.latched v.val r 0x10 2 s.lastIntake
      | _ => s
    s.setVRun v.val ((r.setFade u (some ⟨0, false⟩)).applyHeld (s.vWord v.val) (s.latch v.val) u)
  else s

/-- CROSSFADE_END (R82): the crossfades of a word that have run 32 samples end, and a held change starts its own. -/
def execCrossfadeEnd (v : Fin 512) (word : Nat) (s : State) : Out := s.run fun s =>
  let r := s.vRun v.val
  let xs := r.xfades.filterMap (fun p => if p.1 / 4 = word then endXFade (s.vWord v.val) p else some p)
  (if s.inRun then s.setVRun v.val { r with xfades := xs } else s)

/-- GLIDE_END (R85): a glide that has reached its target ends. -/
def execGlideEnd (v : Fin 512) (word : Nat) (s : State) : Out := s.run fun s =>
  let r := s.vRun v.val
  (if s.inRun then
      s.setVRun v.val { r with glides := r.glides.filter (fun p => !(p.1 = word && p.2.done)) } else s)

/-- ENVELOPE_SEGMENT_END (R96): an envelope whose count has reached N enters its next segment. -/
def execEnvelopeSegmentEnd (v : Fin 512) (e : Fin 3) (s : State) : Out := s.run fun s =>
  let r := s.vRun v.val
  let x := (r.env.getD e.val Env.idle).segmentEnd s.rateCode (s.vWord v.val) (0x20 + 16 * e.val)
  (if s.inRun && r.sounding then s.setVRun v.val { r with env := r.env.set e.val x } else s)

/-- LFO_WRAP (R102): a phase past 1 wraps, and the generator draws a new value. -/
def execLfoWrap (v : Fin 512) (l : Fin 2) (s : State) : Out := s.run fun s =>
  let r := s.vRun v.val
  (if s.inRun && r.sounding then
      s.setVRun v.val { r with lfo := r.lfo.set l.val (r.lfo.getD l.val Lfo.idle).wrap } else s)

/-- SAMPLE_LOOP_POINT (R60): where the next move of a sample oscillator crosses a loop point, a reflection or LENGTH, it is made. -/
def execSampleLoopPoint (v : Fin 512) (o : Fin 2) (s : State) : Out := s.run fun s =>
  let r := s.vRun v.val
  let x := if o.val = 0 then r.osc1 else r.osc2
  let m := r.inForce (s.vWord v.val) (0x08 + 8 * o.val)
  match x.entry with
  | some e =>
    let y := x.moveSample e
    let crossed := y.ended ≠ x.ended || y.pos ≠ (if x.rev then x.pos - x.inc else x.pos + x.inc)
    if s.inRun && r.sounding && oscMode m = 2 && !x.loaded && crossed then
      let y := { y with loaded := true }
      (s.setVRun v.val (if o.val = 0 then { r with osc1 := y } else { r with osc2 := y }))
    else s
  | none => s

/-- RECALC_DONE (R132). -/
def execRecalcDone (s : State) : Out := s.run fun s => s.recalcEnd

end Sys2Proof.Machine
end

