-- ==== Sys2Proof/Machine/Fault.lean ====
section
/-!
DEFINITION. The fault rule (R440 to R448): error windows, retirement of each kind of unit, tests and re-admission.
-/
namespace Sys2Proof.Machine

/-! ### Units (Table FE-1) -/

/-- Engine code (Table SC-4) and index within its kind of unit u. -/
def unitOf (u : Nat) : Nat × Nat :=
  if u < 2 then (6, u)
  else if u < 10 then (7, u - 2)
  else if u < 14 then (8, u - 10)
  else if u < 22 then (9, u - 14)
  else if u < 56 then (1, u - 22)
  else (3, u - 56)

/-- A unit with a known-answer test: all but the Trail ports. -/
def hasTest (u : Nat) : Bool := 2 ≤ u

/-- The bit of unit u in FAULT_RETIRED0 and 1. -/
def State.setRetired (s : State) (u : Nat) (b : Bool) : State :=
  if u < 32 then s.setFlag Adr.FAULT_RETIRED0 u b else s.setFlag Adr.FAULT_RETIRED1 (u - 32) b

/-- The bit of slice k in VOICE_SLICESTAT0 and 1. -/
def State.setSliceStat (s : State) (k : Nat) (b : Bool) : State :=
  if k < 32 then s.setFlag Adr.VOICE_SLICESTAT0 k b else s.setFlag Adr.VOICE_SLICESTAT1 (k - 32) b

/-! ### Retirement (R444) -/

/-- What a unit's own chapter does at its retirement: Trail port (Table TL-1, R292), audio port (R341), outputs (R360), slice (R115), core
(R222). -/
def State.takeOut (s : State) (u : Nat) : State :=
  let i := (unitOf u).2
  if u < 2 then
    let s := s.portDown (if i = 0 then .a else .b) 4
    if s.retired 0 && s.retired 1 then { s with power := { s.power with bypassN := false } } else s
  else if u < 10 then
    let s := s.setAport i (fun _ => APort.reset)
    let s := ((s.setFlag (Adr.APORT_STAT i) 0 false).setFlag (Adr.APORT_STAT i) 5 true).raise Cause.aport
    s.apPost 0x07 i 0 0 0
  else if u < 14 then ((s.setDac i { s.dac i with opened := false, gain := 0 }).raise Cause.ana).anaPost 0x05 i 0 0
  else if u < 22 then
    (((s.setCout i Cout.off).setFlag (Adr.COUT_STAT i) 19 false).raise Cause.ana).anaPost 0x05 (8 + i) 0 0
  else if u < 56 then s.setSliceStat i true
  else s.cancelNoCore

/-- The cores that are not retired. -/
def State.liveCores (s : State) : List Nat := (List.range 8).filter (fun k => !s.coreRetired k)

/-- Unit u is retired for a cause of Table FE-2. The last core is never retired. -/
def State.retireNow (s : State) (u cause : Nat) : State :=
  let e := unitOf u
  if 56 ≤ u && s.liveCores = [u - 56] then s.logFault 0x06 e.1 St.mode e.2 0 cause
  else
    let s := (s.setRetired u true).takeOut u
    let d := s.drawStatus
    let s := d.2.logFault 0x06 e.1 d.1 e.2 0 cause
    let d := s.drawStatus
    d.2.postFault 0x05 e.1 d.1 cause e.2

/-- Retirement; that of a core that runs an item waits for the item's end. -/
def State.retireUnit (s : State) (u cause : Nat) : State :=
  if s.retired u then s
  else if 56 ≤ u && (s.coreAt (u - 56)).item.isSome then s.setCore (u - 56) { s.coreAt (u - 56) with retireAtEnd := some cause }
  else s.retireNow u cause

/-- An item of core k has ended: a retirement that waited takes effect. -/
def State.afterItem (s : State) (k : Nat) : State :=
  match (s.coreAt k).retireAtEnd with
  | some cause => (s.setCore k { s.coreAt k with retireAtEnd := none }).retireNow (56 + k) cause
  | none => s

/-! ### The window (R440, R441) -/

/-- One error of unit u counts; the THRESH-th of the last errors within WINDOW ms retires the unit. -/
def State.unitError (s : State) (u : Nat) : State :=
  if 64 ≤ u || s.retired u then s
  else
    let s := s.count (Adr.FAULT_ERR u)
    let l := (s.clk :: (Sp.find s.flt.times u).getD []).take 15
    let s := { s with flt := { s.flt with times := Sp.ins s.flt.times u l } }
    let thresh := s.fld Adr.FAULT_CFG 3 0
    match l[thresh - 1]? with
    | some t => if s.clk ≤ t + s.msTicks (s.fld Adr.FAULT_CFG 31 16) then s.retireUnit u 1 else s
    | none => s

/-- The node before a command that may meet unit errors: none has been met. -/
def State.clean (s : State) : State := { s with flt := { s.flt with errs := [] } }

/-- The errors met by the command being executed are charged to their units, in order. -/
def State.settle (s : State) : State :=
  let l := s.flt.errs
  l.foldl (fun s u => s.unitError u) { s with flt := { s.flt with errs := [] } }

/-! ### Tests and re-admission (R443, R446) -/

/-- The status of a TEST. -/
def State.testStatus (s : State) (u : Nat) : Nat :=
  firstFail [(!hasTest u, St.range), (s.mode ≠ 4, St.mode), (s.flt.testUnit.isSome, St.busy)]

/-- A test starts: TESTING; a core takes no item until it ends. -/
def State.testStart (s : State) (u : Nat) : State :=
  let s := { (s.setFlag Adr.FAULT_CMDRES 8 true) with flt := { s.flt with testUnit := some u } }
  if 56 ≤ u then s.setCore (u - 56) { s.coreAt (u - 56) with testing := true } else s

/-- The record of a test that ended, with its status (R443, R447). -/
def State.testRecord (s : State) (u st : Nat) : State := s.postFault 0x07 (unitOf u).1 st 0 (unitOf u).2

/-- A failed test counts against ports and channels whose chapters say so (R341, R358). -/
def State.chargeTest (s : State) (u : Nat) : State := if u < 22 && !s.retired u then s.count (Adr.FAULT_ERR u) else s

/-- The running test ends; a failure retires the unit with cause KAT. -/
def State.testEnd (s : State) (pass : Bool) : State :=
  match s.flt.testUnit with
  | none => s
  | some u =>
    if 56 ≤ u && (s.coreAt (u - 56)).item.isSome then s
    else
      let s := { (s.setFlag Adr.FAULT_CMDRES 8 false) with flt := { s.flt with testUnit := none } }
      let s := s.setFlag Adr.FAULT_CMDRES 9 pass
      let s := if 56 ≤ u then s.setCore (u - 56) { s.coreAt (u - 56) with testing := false } else s
      let d := s.drawStatus
      let s := (d.2.setFld Adr.FAULT_CMDRES 7 0 d.1).testRecord u d.1
      if pass then s else (s.chargeTest u).retireUnit u 2

/-- The status of a READMIT of unit u, before its test. -/
def State.readmitStatus (s : State) (u : Nat) : Nat :=
  if !s.retired u then 0
  else if u < 2 then (if s.inserted then 0 else St.mode)
  else firstFail [(s.mode ≠ 4, St.mode), (s.flt.testUnit.isSome, St.busy)]

/-- A unit returns in a stopped state. -/
def State.putBack (s : State) (u : Nat) : State :=
  let i := (unitOf u).2
  if u < 2 then
    let p := if i = 0 then Port.a else Port.b
    let s := (s.setPort p (fun _ => TPort.reset)).setLink p 0
    let leaving := (match s.power.trans with | some t => t.quiet = 2 | none => false) || s.power.resetAt.isSome
    if s.power.bypassN || leaving then s
    else { s with power := { s.power with bypassN := true, relayAt := some (s.clk + s.msTicks (s.fld Adr.TRAIL_RELAYT 4 0)) } }
  else if u < 10 then
    ((s.setFlag (Adr.APORT_CTL i) 0 false).setFlag (Adr.APORT_STAT i) 5 false).raise Cause.aport
  else if u < 14 then s.setFlag Adr.ADAC_CTL i true
  else if u < 22 then s.setFld (Adr.COUT_CTL i) 2 0 0
  else if u < 56 then s.setSliceStat i false
  else s

/-- READMIT of unit u, its test passing or not: the status, and the state. -/
def State.readmitOn (s : State) (u : Nat) (pass : Bool) : Nat × State :=
  let e := s.readmitStatus u
  if e ≠ 0 then (e, s)
  else if !s.retired u then (0, s)
  else
    let d := s.drawStatus
    let s := if hasTest u then (d.2.setFlag Adr.FAULT_CMDRES 9 pass).testRecord u d.1 else s
    if hasTest u && !pass then (St.retired, s)
    else
      let s := s.setRetired u false
      let s := { s with flt := { s.flt with times := Sp.del s.flt.times u } }
      let s := s.putBack u
      let k := unitOf u
      let d := s.drawStatus
      let s := d.2.logFault 0x07 k.1 d.1 k.2 0 0
      let d := s.drawStatus
      (0, d.2.postFault 0x06 k.1 d.1 0 k.2)

/-- FAULT_CMD (R443, R444, R446): the status, and the state. The outcome of a re-admission's test is pass. DESIGN CHOICE (log 15, safe). -/
def State.faultCmd (s : State) (op u : Nat) (pass : Bool) : Nat × State :=
  if op = 1 then
    let e := s.testStatus u
    if e ≠ 0 then (e, s) else (0, s.testStart u)
  else if op = 2 then (0, s.retireUnit u 4)
  else if op = 3 then s.readmitOn u pass
  else (0, s)

/-- TEST_DONE (R443). -/
def execTestDone (pass : Bool) (s : State) : Out := s.run fun s => (s.testEnd pass)

/-! ### Rows of earlier chapters that may charge a unit -/

/-- LOS (R264). -/
def execLos (p : Port) (s : State) : Out := s.run fun s => (s.clean.losOn p).settle
/-- TRAINING_FAILURE (R263). -/
def execTrainingFailure (p : Port) (s : State) : Out := s.run fun s => (s.clean.trainFail p).settle
/-- TRAINING_SET (R262). -/
def execTrainingSet (p : Port) (set : TrainSet) (s : State) : Out :=
  s.run fun s => (s.clean.trainOn p set.state.toNat set.codeErrors).settle
/-- FRAME_HEADER (R268). -/
def execFrameHeader (p : Port) (bytes : List Byte) (rx : Nat) (s : State) : Out :=
  if bytes.length ≠ 16 then .fault .illFormed
  else s.run fun s => if s.inserted && s.link p = 3 then (s.clean.headerOn p bytes rx).settle else s
/-- SAP_FRAME_RECEIVED (R326). -/
def execSapFrameReceived (p : Fin 6) (frame : PortFrame) (s : State) : Out := s.run fun s => (s.clean.sapFrame p.val frame).settle
/-- OUTPUT_SHORT (R358). -/
def execOutputShort (u : OutUnit) (s : State) : Out := s.run fun s => (s.clean.outputShort u).settle
/-- COMPL (R358). -/
def execCompl (c : Fin 8) (s : State) : Out := s.run fun s => (s.clean.complOn c.val).settle
/-- COMPL_PERSIST (R359). -/
def execComplPersist (c : Fin 8) (s : State) : Out :=
  s.run fun s => (if s.complLong c.val then s.retireUnit (14 + c.val) 3 else s)

end Sys2Proof.Machine
end

