-- ==== Sys2Proof/Machine/Pack.lean ====
section
/-!
DEFINITION. The pack and the flash (R420 to R439): layout, the rules of Table PK-5, record form, the update operations and the fault log's
writes. Applying a pack's records is Machine/Boot.lean.
-/
namespace Sys2Proof.Machine

/-! ### Flash (R420, R421) -/

/-- Flash size F. DESIGN CHOICE (log 42, not safe). -/
def State.flashSize (s : State) : Nat := 2 ^ s.pack.log2size

/-- Bank size S (R421). -/
def State.bankSize (s : State) : Nat := Nat.min 0x1800000 ((s.flashSize - 0x100000) / 2)

/-- First flash address of bank b. -/
def State.bankBase (s : State) (b : Nat) : Nat := b * s.bankSize

/-- First flash address of the fault log. -/
def State.logBase (s : State) : Nat := s.flashSize - 0x100000

/-- The byte of the flash at address a; an erased byte is 0xFF. -/
def State.flashByte (s : State) (a : Nat) : Byte := Sp.get (fun _ => (0xFF : Byte)) s.pack.flash a

/-- n bytes of the flash from address a. -/
def State.flashBytes (s : State) (a n : Nat) : List Byte := (List.range n).map (fun i => s.flashByte (a + i))

/-- The pack block changed. -/
def State.setPack (s : State) (f : Pack → Pack) : State := { s with pack := f s.pack }

/-- Bytes of the flash from address a set. -/
def flashPut (l : List Host.Cell) : Nat → List Byte → List Host.Cell
  | _, [] => l
  | a, b :: bs => flashPut (Sp.put (fun _ => (0xFF : Byte)) l a b) (a + 1) bs

/-- Programs bytes: a programmed bit cannot return to 1 without an erase. -/
def State.program (s : State) (a : Nat) (l : List Byte) : State :=
  s.setPack (fun p => { p with flash := flashPut p.flash a (l.zipWith (fun x y => x &&& y) (s.flashBytes a l.length)) })

/-- Erases n bytes from address a. -/
def State.erase (s : State) (a n : Nat) : State :=
  s.setPack (fun p => { p with flash := p.flash.filter (fun c => !(a ≤ c.1 && c.1 < a + n)) })

/-! ### Header and section table (R422, R423) -/

/-- The pack header of bank b. -/
def State.hdr (s : State) (b : Nat) : List Byte := s.flashBytes (s.bankBase b + 0x1000) 0x80

namespace Hdr
/-- NSECT. -/
def nsect (h : List Byte) : Nat := leAt h 6 2
/-- SEQ. -/
def seq (h : List Byte) : Nat := leAt h 8 4
/-- PACKLEN. -/
def packlen (h : List Byte) : Nat := leAt h 12 4
/-- SIGNED. -/
def signed (h : List Byte) : Bool := bit (byteAt h 0x13) 0
end Hdr

/-- n bytes of the pack of bank b from pack offset o. -/
def State.packBytes (s : State) (b o n : Nat) : List Byte := s.flashBytes (s.bankBase b + 0x1000 + o) n

/-- The section table of bank b as (TYPE, reserved bytes, OFFSET, LENGTH, SCRC). -/
def State.sections (s : State) (b : Nat) : List (Nat × Nat × Nat × Nat × Nat) :=
  (List.range (Hdr.nsect (s.hdr b))).map (fun i =>
    let e := s.packBytes b (0x80 + 16 * i) 16
    (byteAt e 0, leAt e 1 3, leAt e 4 4, leAt e 8 4, leAt e 12 4))

/-- A reserved section TYPE (Table PK-3). -/
def typeReserved (t : Nat) : Bool := t = 0 || 0x12 ≤ t

/-- Whether the table keeps R423. -/
def tableGood (packlen nsect : Nat) (l : List (Nat × Nat × Nat × Nat × Nat)) : Bool :=
  let first := 0x80 + 16 * nsect + 4
  let each := l.all (fun e => e.2.1 = 0 && e.2.2.1 % 4 = 0 && first ≤ e.2.2.1 && e.2.2.2.1 % 4 = 0 && e.2.2.1 + e.2.2.2.1 ≤ packlen)
  let rising := (l.zip l.tail).all (fun p => p.1.1 < p.2.1)
  let apart := (List.range l.length).all (fun i => (List.range i).all (fun j =>
    match l[i]?, l[j]? with
    | some x, some y => x.2.2.1 + x.2.2.2.1 ≤ y.2.2.1 || y.2.2.1 + y.2.2.2.1 ≤ x.2.2.1
    | _, _ => true))
  each && rising && apart && [1, 2, 3].all (fun t => l.any (fun e => e.1 = t))

/-- The fuses hold a key hash (R432). -/
def State.fused (s : State) : Bool := s.pack.fuses.any (fun b => b ≠ 0)

/-- Rule 1 of Table PK-5 for bank b: its commit record fits its header. -/
def State.commitGood (s : State) (b : Nat) : Bool :=
  let c := s.flashBytes (s.bankBase b) 32
  let h := s.hdr b
  leAt c 0 4 = 0x54494D43 && leAt c 28 4 = crc32 (c.take 28) && leAt c 4 4 = Hdr.seq h && leAt c 8 4 = Hdr.packlen h

/-- The first of rules 2 to 8 of Table PK-5 that bank b fails: status and step. DEDUCED (log 52, not safe). -/
def State.headFail (s : State) (b : Nat) : Option (Nat × Nat) :=
  let h := s.hdr b
  let n := Hdr.nsect h
  let len := Hdr.packlen h
  if leAt h 0 4 ≠ 0x4B434150 || leAt h 4 2 ≠ 1 then some (St.pack, 2)
  else if leAt h 0x3C 4 ≠ crc32 (h.take 0x3C) then some (St.crc, 3)
  else if bits (byteAt h 0x10) 7 2 ≠ 0 || bits (byteAt h 0x10) 1 0 = 3 || bits (byteAt h 0x12) 7 4 ≠ 0 || bits (byteAt h 0x13) 7 1 ≠ 0
      || leAt h 0x14 8 ≠ 0 then some (St.reserved, 4)
  else if n < 3 || 64 < n || Hdr.seq h = 0 || len < 0x84 + 16 * n || s.bankSize - 0x1000 < len || byteAt h 0x11 < 5 || 16 < byteAt h 0x11 then
    some (St.range, 5)
  else if leNat (s.packBytes b (0x80 + 16 * n) 4) ≠ crc32 (s.packBytes b 0x80 (16 * n)) then some (St.crc, 6)
  else if (s.sections b).any (fun e => typeReserved e.1) then some (St.reserved, 7)
  else if !tableGood len n (s.sections b) then some (St.pack, 7)
  else if s.fused && (!Hdr.signed h || sha256 ((h.drop 0x1C).take 32) ≠ s.pack.fuses) then some (St.auth, 8)
  else none

/-- The first of rules 1 to 8 that bank b fails (R427). -/
def State.bankFail (s : State) (b : Nat) : Option (Nat × Nat) :=
  if !s.commitGood b then some (St.pack, 1) else s.headFail b

/-- Bank b is a candidate (R428). -/
def State.candidate (s : State) (b : Nat) : Bool := (s.bankFail b).isNone

/-! ### Records (R424) -/

/-- The records of a section's bytes, and whether they end exactly at its end. -/
def splitRecs : Nat → List Byte → List (List Byte) × Bool
  | 0, l => ([], l.isEmpty)
  | fuel + 1, l =>
    if l.isEmpty then ([], true)
    else
      let n := leAt l 2 2
      if byteAt l 1 ≠ 0 || n < 8 || n % 4 ≠ 0 || l.length < n then ([], false)
      else
        let r := splitRecs fuel (l.drop n)
        (l.take n :: r.1, r.2)

/-- The kinds that a section accepts (Table PK-3). -/
def kindAccepted (type kind : Nat) : Bool :=
  if type = 1 || type = 5 || type = 6 || type = 9 || type = 0x11 then kind = 2
  else if type = 3 then kind = 6 || kind = 1
  else if type = 8 then kind = 7 || kind = 2 || kind = 1
  else if type = 0xA then kind = 3 || kind = 1
  else if type = 0xB then kind = 1 || kind = 5 || kind = 4
  else if type = 0xE then kind = 1 || kind = 2
  else kind = 1

/-- Whether a record's length and fixed bytes fit its KIND (Table PK-4). -/
def recGood (r : List Byte) : Bool :=
  let n := leAt r 2 2
  match byteAt r 0 with
  | 1 => n = 12
  | 2 => true
  | 3 => n = 36
  | 4 => n = 20
  | 5 => 1 ≤ byteAt r 5 && byteAt r 5 ≤ 128 && byteAt r 4 + byteAt r 5 ≤ 256 && leAt r 6 2 = 0 && n = (8 + 2 * byteAt r 5 + 3) / 4 * 4
      && (List.range (byteAt r 5)).all (fun i => bits (leAt r (8 + 2 * i) 2) 14 11 = 0)
  | 6 => n = 8 && 3 ≤ byteAt r 4 && byteAt r 4 ≤ 5 && leAt r 5 3 = 0
  | 7 => n = 8 && leAt r 6 2 = 0
  | _ => false

/-- A reserved KIND. -/
def kindReserved (k : Nat) : Bool := k = 0 || 8 ≤ k

/-- Kinds that a section may hold at most once. -/
def countKind (k : Nat) (l : List (List Byte)) : Nat := (l.filter (fun r => byteAt r 0 = k)).length

/-- The status of one record of a section by form (rule 10), 0 where it keeps it. -/
def recStatus (type : Nat) (r : List Byte) : Nat := firstFail [
  (kindReserved (byteAt r 0), St.reserved),
  (!kindAccepted type (byteAt r 0) || !recGood r, St.pack)]

/-- The rules over the whole of a section's records: they end where it ends, TARGET stands exactly once in a boot target section, KEY and
PROGLEN at most once. -/
def wholeStatus (type : Nat) (p : List (List Byte) × Bool) : Nat := firstFail [
  (!p.2, St.pack),
  (type = 3 && countKind 6 p.1 ≠ 1, St.pack),
  (1 < countKind 7 p.1 || 1 < countKind 4 p.1, St.pack)]

/-- The status of a section's records by form (rule 10): the first that fails, then the section's own rules. -/
def formStatus (type : Nat) (data : List Byte) : Nat :=
  let p := splitRecs (data.length / 8 + 1) data
  firstFail (p.1.map (fun r => (recStatus type r != 0, recStatus type r)) ++ [(wholeStatus type p != 0, wholeStatus type p)])

/-- The first section of bank b that fails rule 9 or, by form, rule 10. -/
def State.sectionsFail (s : State) (b : Nat) : List (Nat × Nat × Nat × Nat × Nat) → Option (Nat × Nat)
  | [] => none
  | (type, _, off, len, scrc) :: t =>
    let data := s.packBytes b off len
    if crc32 data ≠ scrc then some (St.crc, 9)
    else if formStatus type data ≠ 0 then some (formStatus type data, 10)
    else s.sectionsFail b t

/-- Rule 12: a signed pack's signature verifies under its PUBKEY. -/
def State.signatureGood (s : State) (b : Nat) : Bool :=
  let h := s.hdr b
  !Hdr.signed h
    || ed25519Verify ((h.drop 0x1C).take 32) (h.take 0x40 ++ s.packBytes b 0x80 (Hdr.packlen h - 0x80)) ((h.drop 0x40).take 64)

/-- The CRC-32 of the whole pack of bank b. -/
def State.packCrc (s : State) (b : Nat) : Nat := crc32 (s.packBytes b 0 (Hdr.packlen (s.hdr b)))

/-! ### Candidates in the registers (Table PK-9) -/

/-- CAND and PACK_SEQ0 and 1 show the candidates. -/
def State.showCandidates (s : State) : State :=
  let c (b : Nat) : Nat := b2n (s.candidate b)
  let q (b : Nat) : Nat := if s.candidate b then Hdr.seq (s.hdr b) else 0
  let v := c 0 + 2 * c 1
  let s0 := q 0
  let s1 := q 1
  ((s.setFld Adr.PACK_STAT 2 1 v).setReg Adr.PACK_SEQ0 s0).setReg Adr.PACK_SEQ1 s1

/-- The target bank: the one that did not boot; with no pack the one with the lower SEQ, or bank 0. -/
def State.targetBank (s : State) : Nat :=
  if s.flag Adr.PACK_STAT 3 then (if s.reg Adr.PACK_SEQ1 < s.reg Adr.PACK_SEQ0 then 1 else 0)
  else 1 - s.fld Adr.PACK_STAT 0 0

/-- SEQ of the active bank, 0 with no pack. -/
def State.activeSeq (s : State) : Nat :=
  if s.flag Adr.PACK_STAT 3 then 0 else s.reg (if s.flag Adr.PACK_STAT 0 then Adr.PACK_SEQ1 else Adr.PACK_SEQ0)

/-! ### Update operations (R432, R436) -/

/-- PACK_USTAT.STATE. -/
def State.ustate (s : State) : Nat := s.fld Adr.PACK_USTAT 2 0

/-- PACK_USTAT.STATE set; a change is an interrupt cause (Table HI-5). -/
def State.setUstate (s : State) (x : Nat) : State := if s.ustate = x then s else (s.setFld Adr.PACK_USTAT 2 0 x).raise Cause.pack

/-- PACK_USTAT.CODE set. -/
def State.packCode (s : State) (st : Nat) : State := s.setFld Adr.PACK_USTAT 23 16 st

/-- The cores are one source of update operations. -/
def ownerOf : Source → Source
  | .core _ => .core 0
  | x => x

/-- The session's owner set, with TRAILOWN and OWNNODE. -/
def State.setOwner (s : State) (o : Option Source) : State :=
  let v := match o with
    | some (.trail n) => 1 + 2 * n
    | _ => 0
  (s.setPack (fun p => { p with owner := o })).setFld Adr.PACK_USTAT 14 3 v

/-- A record on the PACK source (R436). -/
def State.packPost (s : State) (code bank status seq : Nat) : State :=
  s.post 11 (record16 code bank status 0 seq s.time)

/-- The updater in a fault-log record (Table PK-8). -/
def updater : Option Source → Nat
  | some (.trail n) => 0x8000 + n % 2048
  | _ => 0

/-- The flash can be reached (R410). -/
def State.flashReach (s : State) : Bool := s.flag Adr.PWR_SUPPLY 2

/-- The status of an update operation of a source (Table PK-6), with its offset and byte count. DEDUCED (log 53, not safe). -/
def State.packStatus (s : State) (src : Source) (op bank ofs count : Nat) : Nat :=
  let st := s.ustate
  let stranger := s.pack.owner.isSome && s.pack.owner ≠ some (ownerOf src) && op ≠ 0 && op ≠ 7 && !(op = 5 && src = .host)
  firstFail [
    (9 ≤ op || bank = 3, St.reserved),
    (stranger, St.locked),
    ((op = 1 || op = 2 || op = 3 || op = 4 || op = 7) && !s.flashReach, St.busy),
    (op = 1 && st ≠ 0 && st ≠ 5, St.busy),
    (op = 2 && (st = 1 || st = 3 || st = 6 || s.pack.work = .page), St.busy),
    (op = 2 && st ≠ 2, St.mode),
    (op = 2 && ofs ≠ s.reg Adr.PACK_UNEXT, St.seq),
    (op = 2 && s.bankSize - 0x1000 < ofs + count, St.range),
    (op = 3 && st ≠ 2, St.busy),
    (op = 4 && st ≠ 4, St.mode),
    (op = 5 && st = 0, St.mode),
    (op = 5 && st = 6, St.busy),
    (op = 6 && st ≠ 0, St.busy),
    (op = 6 && bank ≠ 0 && !s.flag Adr.PACK_STAT bank, St.pack),
    (op = 7 && s.flashSize < ofs + count, St.range),
    (op = 8 && src ≠ .host, St.role),
    (op = 8 && s.mode ≠ 4, St.mode),
    (op = 8 && s.fused, St.locked),
    (op = 8 && st ≠ 0, St.busy)]

/-- BEGIN: the target's commit sector is erased first. -/
def State.packBegin (s : State) (src : Source) : State :=
  let b := s.targetBank
  let s := (s.erase (s.bankBase b) 0x1000).showCandidates
  let s := ((s.setOwner (some (ownerOf src))).setUstate 1).setReg Adr.PACK_UNEXT 0
  s.setPack (fun p => { p with work := .erase })

/-- WRITE: programs the data at pack offset ofs. -/
def State.packProgram (s : State) (ofs : Nat) (data : List Byte) : State :=
  let s := s.program (s.bankBase s.targetBank + 0x1000 + ofs) data
  (s.setReg Adr.PACK_UNEXT (ofs + data.length)).setPack (fun p => { p with work := if data.isEmpty then p.work else .page })

/-- ABORT: the target is left without a commit. -/
def State.packAbort (s : State) : State :=
  ((s.setOwner none).setUstate 0).setPack (fun p => { p with work := if p.work = .page then .page else .idle })

/-- RELOAD: logged, then a commanded reset, 10 µs later (R415) or once BYPASSn has fallen after a trail cycle without inserts (R293, R434).
DEDUCED (log 111, not safe). -/
def State.packReload (s : State) (src : Source) (bank : Nat) : State :=
  let d := s.drawStatus
  let s := d.2.logFault 0x05 0 d.1 bank 0 (updater (some src))
  if s.inserted && s.power.bypassN then { s with power := { s.power with reloadQuiet := 1, reloadBank := bank } }
  else { s with power := { s.power with reloadQuiet := 3, resetAt := some (s.clk + s.usTicks 10), reloadBank := bank } }

/-- FUSE: the key hash is programmed. DESIGN CHOICE (log 55, not safe). -/
def State.packFuse (s : State) (hash : List Byte) : State :=
  (s.setPack (fun p => { p with fuses := hash })).setFlag Adr.PACK_STAT 5 true

/-- ERASE_DONE: the rest of the target bank is erased. -/
def State.eraseEnds (s : State) : State :=
  if s.ustate = 1 then
    let b := s.targetBank
    let s := (s.erase (s.bankBase b) s.bankSize).setUstate 2
    (s.setPack (fun p => { p with work := .idle })).packPost 0x01 b 0 0
  else s

/-- The result of VERIFY (Table PK-6). DEDUCED (log 52, not safe). -/
def State.verifyResult (s : State) : Nat :=
  let b := s.targetBank
  let h := s.hdr b
  match s.headFail b with
  | some f => f.1
  | none =>
    match s.sectionsFail b (s.sections b) with
    | some f => f.1
    | none => firstFail [
        (!s.signatureGood b, St.auth),
        (Hdr.seq h ≤ s.activeSeq, St.seq),
        (Hdr.packlen h ≠ s.reg Adr.PACK_UNEXT, St.pack)]

/-- VERIFY_DONE. -/
def State.verifyEnds (s : State) : State :=
  if s.ustate = 3 then
    let e := s.verifyResult
    let b := s.targetBank
    let q := Hdr.seq (s.hdr b)
    let s := ((s.setUstate (if e = 0 then 4 else 5)).packCode e).setPack (fun p => { p with work := .idle })
    s.packPost (if e = 0 then 0x02 else 0x03) b e q
  else s

/-- The commit record of the target bank (R426). -/
def State.commitRecord (s : State) : List Byte :=
  let b := s.targetBank
  let h := s.hdr b
  let r := natLE 4 0x54494D43 ++ natLE 4 (Hdr.seq h) ++ natLE 4 (Hdr.packlen h) ++ natLE 4 (s.packCrc b) ++ List.replicate 12 0
  r ++ natLE 4 (crc32 r)

/-- COMMIT_DONE: the commit record is programmed and read back. -/
def State.commitEnds (s : State) : State :=
  if s.ustate = 6 then
    let b := s.targetBank
    let q := Hdr.seq (s.hdr b)
    let who := updater s.pack.owner
    let s := (s.program (s.bankBase b) s.commitRecord).showCandidates
    let s := ((s.setOwner none).setUstate 0).setPack (fun p => { p with work := .idle })
    let d := s.drawStatus
    (d.2.logFault 0x04 0 d.1 b q who).packPost 0x04 b 0 q
  else s

/-- A reset while COMMIT is programming leaves a free part of the commit record in the flash (R433). DESIGN CHOICE (log 55, not safe). -/
def State.cutCommit (s : State) : State :=
  if s.ustate = 6 then
    let d := s.draw
    d.2.program (s.bankBase s.targetBank) (s.commitRecord.take (d.1 % 33))
  else s

/-- One operation on operands at hand: the status, the bytes read, and the state. DEDUCED (log 53, not safe). -/
def State.packOp (s : State) (src : Source) (op bank ofs : Nat) (data : List Byte) (count : Nat) : Nat × List Byte × State :=
  let e := s.packStatus src op bank ofs (if op = 2 then data.length else count)
  if e ≠ 0 then (e, [], s.packCode e)
  else
    let s' := if op = 0 then s else s.packCode 0
    match op with
    | 1 => (0, [], s'.packBegin src)
    | 2 => (0, [], s'.packProgram ofs data)
    | 3 => (0, [], (s'.setUstate 3).setPack (fun p => { p with work := .verify }))
    | 4 => (0, [], (s'.setUstate 6).setPack (fun p => { p with work := .commit }))
    | 5 => (0, [], s'.packAbort)
    | 6 => (0, [], s'.packReload src bank)
    | 7 => (0, s'.flashBytes ofs count, s')
    | 8 => (0, [], s'.packFuse data)
    | _ => (0, [], s')

/-- The data of READ go to the Basin; a dropped word answers E_BUSY (R242). -/
def State.unloadData (s : State) (adr : Nat) (l : List Byte) : Nat × State :=
  let w := s.basinWrite Master.host 0 adr l
  if w.1.lost then (St.busy, w.2.packCode St.busy) else (0, w.2)

/-- PACK_UCMD (R432, R435): the data of WRITE and FUSE come from the Basin at PACK_UADR, and those of READ go there. DEDUCED (log 54, not safe). -/
def State.packLocal (s : State) (src : Source) (op bank : Nat) : Nat × State :=
  let ofs := s.reg Adr.PACK_UOFS
  let adr := s.reg Adr.PACK_UADR
  let len := if op = 8 then 32 else s.reg Adr.PACK_ULEN
  let uses := op = 2 || op = 7 || op = 8
  let e := s.packStatus src op bank ofs len
  if e = St.reserved || e = St.locked || e = St.role then (e, s.packCode e)
  else if uses && !inBasin adr len then (St.range, s.packCode St.range)
  else if op = 2 || op = 8 then
    match s.basinRead Master.host adr len with
    | (some l, s) => let r := s.packOp src op bank ofs l len; (r.1, r.2.2)
    | (none, s) => (St.crc, s.packCode St.crc)
  else
    let r := s.packOp src op bank ofs [] len
    if op = 7 && r.1 = 0 then r.2.2.unloadData adr r.2.1 else (r.1, r.2.2)

/-- The status of a write to one of the block's RW registers (R439). -/
def packRegStatus (a v : Nat) : Nat :=
  if a = Adr.PACK_UADR then (if v % 4 ≠ 0 then St.align else 0)
  else if a = Adr.PACK_ULEN then firstFail [(v % 4 ≠ 0, St.align), (v < 4 || 4096 < v, St.range)]
  else 0

/-! ### Fault log (R437, R438) -/

/-- Record k of the log. DEDUCED (log 57, not safe). -/
def State.logRecord (s : State) (k : Nat) : List Byte := s.flashBytes (s.logBase + 32 * k) 32

/-- A complete record. -/
def sealed (r : List Byte) : Bool := byteAt r 31 = 0x5A

/-- The oldest queued record is programmed and sealed; before a new sector is used the sector after it is erased. -/
def State.logWrite (s : State) : State :=
  match s.pack.logq with
  | [] => s
  | r :: rest =>
    if !s.flashReach || !s.inserted || s.pack.work = .page || s.pack.work = .commit then s
    else
      let k := s.pack.logPos
      let s := if k % 128 = 0 then s.erase (s.logBase + (k / 128 + 1) % 256 * 0x1000) 0x1000 else s
      let q := s.reg Adr.PACK_LOGSEQ
      let b := r.take 4 ++ natLE 4 q ++ (r.drop 8).take 23 ++ [0x5A]
      let s := (s.program (s.logBase + 32 * k) b).setReg Adr.PACK_LOGSEQ (q + 1)
      s.setPack (fun p => { p with logq := rest, logPos := (k + 1) % 32768, work := if p.work = .idle then .log else p.work })

/-- The newest record of the log: its LSEQ and place (R437). -/
def State.newestLog (s : State) : Option (Nat × Nat) :=
  let heads := (List.range 256).filterMap (fun i =>
    let r := s.logRecord (128 * i)
    if sealed r then some (leAt r 4 4, i) else none)
  match heads.foldl (fun (m : Option (Nat × Nat)) e => match m with | some x => if x.1 < e.1 then some e else m | none => some e) none with
  | none => none
  | some (_, i) =>
    ((List.range 128).foldl (fun (m : Option (Nat × Nat)) j =>
      let r := s.logRecord (128 * i + j)
      if sealed r then some (leAt r 4 4, 128 * i + j) else m) none)

/-- The log is continued from its newest record (R437). DEDUCED (log 57, not safe). -/
def State.findLog (s : State) : State :=
  match s.newestLog with
  | some (q, k) => (s.setReg Adr.PACK_LOGSEQ (q + 1)).setPack (fun p => { p with logPos := (k + 1) % 32768 })
  | none => (s.setReg Adr.PACK_LOGSEQ 0).setPack (fun p => { p with logPos := 0 })

/-! ### Rows of this chapter that need no register access -/

/-- ERASE_DONE (R432). -/
def execEraseDone (s : State) : Out := s.run fun s => s.eraseEnds

/-- VERIFY_DONE (R432). -/
def execVerifyDone (s : State) : Out := s.run fun s => s.verifyEnds

/-- COMMIT_DONE (R432). -/
def execCommitDone (s : State) : Out := s.run fun s => s.commitEnds

/-- FAULT_LOG_WRITE (R437). -/
def execFaultLogWrite (s : State) : Out := s.run fun s => s.logWrite

/-- PAGE_PROGRAM_DONE (R432, R438). -/
def execPageProgramDone (s : State) : Out :=
  s.run fun s => (if s.pack.work = .page || s.pack.work = .log then s.setPack (fun p => { p with work := .idle }) else s)

end Sys2Proof.Machine
end

