-- ==== Sys2Proof/Machine/Serial.lean ====
section
/-!
DEFINITION. The asynchronous serial ports (R363 to R383): characters, queues, flow control, rate measurement, frame mode, DMX512 and RDM,
the slot map, and the registers' checks.
-/
namespace Sys2Proof.Machine

/-! ### Registers and records -/

/-- Port n beyond its registers. -/
def State.serp (s : State) (n : Nat) : SerPort := s.ser.getD n SerPort.reset

/-- Port n changed. -/
def State.setSerp (s : State) (n : Nat) (f : SerPort → SerPort) : State := { s with ser := s.ser.set n (f (s.serp n)) }

/-- MODE. -/
def State.serMode (s : State) (n : Nat) : Nat := s.fld (Adr.SER_CTL n) 2 0
/-- The port works: EN, in RELAY, SERVICE or RUN, with its balls supplied (R363). -/
def State.serOn (s : State) (n : Nat) : Bool := s.flag (Adr.SER_CTL n) 3 && s.inserted && s.flag Adr.PWR_SUPPLY 2
/-- Oversampling of a code of OS. -/
def osOf (c : Nat) : Nat := if c = 0 then 16 else if c = 1 then 8 else 3
/-- A bit time by the registers of port n, in 1/16 of a base-clock period (R366). -/
def State.bitUnit (s : State) (n : Nat) : Nat := osOf (s.fld (Adr.SER_FMT n) 9 8) * s.fld (Adr.SER_DIV n) 19 0

/-- Base-clock ticks of a time in tenths of a bit time. -/
def bitTicks (unit tenths : Nat) : Nat := unit * tenths / 160

/-! ### The form of a character (R365) -/

/-- Data bits of a character. -/
def State.dataBits (s : State) (n : Nat) : Nat := s.fld (Adr.SER_FMT n) 3 0
/-- 1 where the format has a parity bit. -/
def State.parBits (s : State) (n : Nat) : Nat := b2n (s.fld (Adr.SER_FMT n) 5 4 ≠ 0)
/-- The parity bit of x: even (PAR 1) or odd (PAR 2). -/
def State.parityOf (s : State) (n x : Nat) : Bool :=
  ((List.range (s.dataBits n)).filter (bit x)).length % 2 = (if s.fld (Adr.SER_FMT n) 5 4 = 2 then 0 else 1)
/-- Tenths of a bit time from the start edge to the end of the first stop bit. -/
def State.charTenths (s : State) (n : Nat) : Nat := 10 * (2 + s.dataBits n + s.parBits n)
/-- Tenths of a bit time of the stop bits: 1, 1.5 or 2 bits. -/
def State.stopTenths (s : State) (n : Nat) : Nat := 10 + 5 * s.fld (Adr.SER_FMT n) 7 6

/-- The bits that the line carries for character x: start bit, data least significant first, parity, first stop bit. -/
def State.charBits (s : State) (n x : Nat) : List Bool :=
  [false] ++ (List.range (s.dataBits n)).map (bit x) ++ List.replicate (s.parBits n) (s.parityOf n x) ++ [true]

/-- A break of len bit times, and one bit time of mark. -/
def breakBits (len : Nat) : List Bool := List.replicate len false ++ [true]

/-- A record of the general layout on the SER source (R382). -/
def State.serPost (s : State) (code n status b3 value : Nat) : State := s.post 7 (record16 code n status b3 value s.time)

/-- A FRAME record (R382). -/
def State.framePost (s : State) (n status id : Nat) (data : List Byte) : State :=
  s.post 7 ([0x05] ++ natLE 1 n ++ natLE 1 status ++ natLE 1 id ++ (data ++ List.replicate 8 0).take 8 ++ natLE 1 data.length ++ [0, 0, 0])

/-- A frame or an RDM send is in progress (R377, R381): in mode 5 a response, from its SEND to its end. -/
def State.serInUse (s : State) (n : Nat) : Bool := s.flag (Adr.SER_STAT n) 23 || (s.serMode n = 5 && s.clk < (s.serp n).ends)

/-- SER_STATn, with RXCOUNT, TXCOUNT, DIVPEND and BUSY. -/
def State.serStat (s : State) (n : Nat) : Nat :=
  let p := s.serp n
  let w := s.reg (Adr.SER_STAT n) / 2 ^ 16 * 2 ^ 16
  let w := putBit (putBit w 16 (p.pendTx || p.pendRx)) 23 (s.serInUse n)
  w + p.rx.length + 256 * p.tx.length

/-- BUSY of SER_STATn. -/
def State.serBusy (s : State) (n : Nat) (b : Bool) : State := s.setFlag (Adr.SER_STAT n) 23 b

/-! ### Transmitting characters (R365, R368, R370 to R374) -/

/-- Clock time at which a transmission that begins now sends its first bit: LEAD bit times after Sn_DE rises, where it was low (R374). -/
def State.startAt (s : State) (n : Nat) : Nat :=
  s.clk + (if (s.serp n).de then 0 else bitTicks (s.bitUnit n) (10 * s.fld (Adr.SER_DE n) 7 0))

/-- Character x, or a break of so many bit times, goes into the shifter: Sn_DE is high, and a written DIV is in force from its start bit
(R365, R368, R374). -/
def State.txLoad (s : State) (n x : Nat) (brk : Option Nat) : State :=
  let wire := match brk with
    | some len => breakBits len
    | none => s.charBits n x
  let tenths := match brk with
    | some len => 10 * (len + 1)
    | none => s.charTenths n - 10 + s.stopTenths n
  let word := if brk.isSome then x else x % 2 ^ s.dataBits n
  s.setSerp n (fun p => { p with
    shift := some word, wire := wire, done := s.startAt n + bitTicks (s.bitUnit n) tenths, de := true, pendTx := false,
    tbit := s.bitUnit n })

/-- The next character goes into an idle shifter: flow control ahead of the queue, the frame engine's bytes in modes 2 and 3 (256: its
break). DEDUCED (log 84, not safe). -/
def State.txNext (s : State) (n : Nat) : State :=
  let p := s.serp n
  if !s.serOn n || p.shift.isSome then s
  else
    match p.out, p.flow, p.tx with
    | x :: t, _, _ =>
      (s.setSerp n (fun p => { p with out := t })).txLoad n x (if x = 256 then some (s.fld (Adr.SER_CTL n) 12 8) else none)
    | [], some c, _ => (s.setSerp n (fun p => { p with flow := none })).txLoad n c none
    | [], none, x :: t =>
      if s.flag (Adr.SER_STAT n) 17 then s
      else
        let s := (s.setSerp n (fun p => { p with tx := t })).txLoad n x (if bit x 9 then some 13 else none)
        let thr := s.fld (Adr.SER_THR n) 13 8
        if thr ≠ 0 && t.length = thr then s.serPost 0x01 n 0 1 0 else s
    | [], none, [] => s

/-- A character or break is queued (R370). -/
def State.txPush (s : State) (n x : Nat) : State := (s.setSerp n (fun p => { p with tx := p.tx ++ [x % 1024] })).txNext n

/-- TAIL bit times after the last stop bit with nothing to send, Sn_DE falls (R374). -/
def State.tailOff (s : State) (n : Nat) : State :=
  let p := s.serp n
  let tail := bitTicks p.tbit (10 * s.fld (Adr.SER_DE n) 15 8)
  if p.de && p.shift.isNone && p.tx.isEmpty && p.out.isEmpty && p.flow.isNone && Nat.max p.done p.ends + tail ≤ s.clk then
    s.setSerp n (fun p => { p with de := false })
  else s

/-! ### Frame mode (R376, R377) -/

/-- The checksum of a response: the inverted sum with carries added back; enhanced adds the identifier byte. -/
def frameSum (pid : Nat) (enh : Bool) (data : List Byte) : Nat :=
  let t := data.foldl (fun (c : Nat) b => let x := c + b.toNat; if 256 ≤ x then x - 255 else x) (if enh then pid else 0)
  255 - t

/-- The protected identifier of an ID (R376). -/
def pidOf (id : Nat) : Nat :=
  let i (k : Nat) : Nat := b2n (bit id k)
  let p0 := (i 0 + i 1 + i 2 + i 4) % 2
  let p1 := (i 1 + i 3 + i 4 + i 5 + 1) % 2
  id % 64 + 64 * p0 + 128 * p1

/-- A frame ends: its record is posted and the port is free. -/
def State.frameEnd (s : State) (n status id : Nat) (data : List Byte) : State :=
  ((s.setSerp n (fun p => { p with frame := .idle, out := [] })).serBusy n false).framePost n status id data

/-- The identifier is complete: the entry of the ID is read and acted on (R377). -/
def State.frameAct (s : State) (n id : Nat) : State :=
  let r := s.basinRead Master.host (s.fld (Adr.SER_BUFBASE n) 23 0 + 16 * id) 16
  let s := (r.2.setSerp n (fun p => { p with since := s.clk }))
  let b := r.1.getD [3]
  let c := byteAt b 0
  let len := byteAt b 1
  let dir := bits c 1 0
  let enh := bit c 2 && id ≠ 60 && id ≠ 61
  if dir = 3 || bits c 7 3 ≠ 0 || len = 0 || 8 < len || leAt b 2 6 ≠ 0 then s.frameEnd n St.reserved id []
  else if dir = 0 then (s.setSerp n (fun p => { p with frame := .idle })).serBusy n false
  else if dir = 1 then s.setSerp n (fun p => { p with frame := .listen id len enh [] })
  else
    let data := (b.drop 8).take len
    let out := data.map (·.toNat) ++ [frameSum (pidOf id) enh data]
    ((s.setSerp n (fun p => { p with frame := .respond id data, out := out })).serBusy n true).txNext n

/-- SEND_HEADER (R377): the status of a header write, and its effect. -/
def State.sendHeaderStatus (s : State) (n : Nat) : Nat :=
  firstFail [(s.serMode n ≠ 2 || !s.serOn n, St.mode), (s.flag (Adr.SER_STAT n) 23, St.busy)]

/-- A header starts: break, sync byte, identifier. -/
def State.startHeader (s : State) (n id : Nat) : State :=
  ((s.setSerp n (fun p => { p with frame := .header id, out := [256, 0x55, pidOf id] })).serBusy n true).txNext n

/-- A response has not ended within 1.4 × (LEN + 1) × 10 bit times of the identifier's end (R377). -/
def State.frameTimeout (s : State) (n : Nat) : State :=
  let p := s.serp n
  let late (len : Nat) : Bool := p.since + bitTicks p.rbit (140 * (len + 1)) ≤ s.clk
  match p.frame with
  | .listen id len _ got => if late len then s.frameEnd n St.timeout id got else s
  | .respond id data => if late data.length then s.frameEnd n St.timeout id data else s
  | _ => s

/-- A character's stop time ends (R365): the next starts, and in frame mode the header or response moves on, or ends with E_BUSY after the byte in
which a bit read back wrong. -/
def State.txDone (s : State) (n : Nat) : State :=
  let p := s.serp n
  if p.shift.isNone || s.clk < p.done then s
  else
    let s := s.setSerp n (fun p => { p with shift := none })
    if p.out.isEmpty then
      match p.frame with
      | .header id => s.frameAct n id
      | .respond id data => s.frameEnd n 0 id data
      | .broken id data => s.frameEnd n St.busy id data
      | _ => s.txNext n
    else s.txNext n

/-! ### Rate measurement (R369) -/

/-- The measured rate sets DIV and OS, for the receiver at once and for the transmitter from its next start bit, or fails.
DESIGN CHOICE (log 80, safe). -/
def State.autoRate (s : State) (n : Nat) (c : RxChar) (bitsN : Nat) : State :=
  let div (os : Nat) : Nat := (2 * 16 * c.span + bitsN * os) / (2 * (bitsN * os))
  let code := if 16 ≤ div 16 then 0 else if 16 ≤ div 8 then 1 else 2
  let dv := div (osOf code)
  let rate := if c.span = 0 then 0 else s.baseHz * bitsN / c.span
  if c.edgesOk && 16 ≤ dv && dv < 2 ^ 20 && 300 ≤ rate && rate * 48 ≤ s.baseHz * 16 then
    let s := (s.setReg (Adr.SER_DIV n) dv).setFld (Adr.SER_FMT n) 9 8 code
    let s := s.setFlag (Adr.SER_CTL n) 5 false
    let s := s.setSerp n (fun p => { p with
      rbit := s.bitUnit n, pendRx := false, tbit := if p.shift.isSome then p.tbit else s.bitUnit n, pendTx := p.shift.isSome })
    s.serPost 0x02 n 0 0 (s.baseHz * 16 / (osOf code * dv))
  else
    let d := s.draw
    (d.2.setFlag (Adr.SER_STAT n) 21 true).serPost 0x02 n St.range 0 (d.1 % 2 ^ 32)

/-! ### Receiving characters (R367, R371 to R373) -/

/-- The value of a bit: the majority of its samples. -/
def majority (x : BitVec 3) : Bool := (x.getLsbD 0 && x.getLsbD 1) || (x.getLsbD 0 && x.getLsbD 2) || (x.getLsbD 1 && x.getLsbD 2)

/-- Bit i of a character, the start bit being bit 0; a bit that the list does not hold is high, as the idle line is. -/
def rxBit (c : RxChar) (i : Nat) : Bool := (c.bits[i]?.map majority).getD true

/-- Data bits of a received character. -/
def State.rxBits (s : State) (n : Nat) (c : RxChar) : Nat := maskOf ((List.range (s.dataBits n)).filter (fun i => rxBit c (i + 1)))

/-- The entry of a received character: DATA, FE [9], PE [10], BRK [11], NOISE [12]. -/
def State.rxEntry (s : State) (n : Nat) (c : RxChar) : Nat :=
  let data := s.rxBits n c
  let par := s.parBits n = 1
  let pbit := rxBit c (1 + s.dataBits n)
  let stop := rxBit c (1 + s.dataBits n + s.parBits n)
  let brk := data = 0 && !(par && pbit) && !stop
  let e := if brk then 0xA00 else data + 512 * b2n (!stop) + 1024 * b2n (par && pbit ≠ s.parityOf n data)
  e + 4096 * b2n ((c.bits.take (2 + s.dataBits n + s.parBits n)).any (fun x => x ≠ 0 && x ≠ 7))

/-- Errors of a received character count (R363). A break that opens a frame header is no error. DEDUCED (log 125, not safe). -/
def State.rxErrors (s : State) (n e : Nat) : State :=
  let s := if bit e 9 && (s.serMode n < 2 || !bit e 11) then s.count (Adr.SER_FERR n) else s
  let s := if bit e 10 then s.count (Adr.SER_PERR n) else s
  if bit e 12 then s.count (Adr.SER_NOISE n) else s

/-- A reception whose start bit came bits tenths of a bit time ago: a DIV written before that is in force for it (R368). -/
def State.rxStart (s : State) (n tenths : Nat) : State :=
  let p := s.serp n
  if p.pendRx && p.divAt + bitTicks p.rbit tenths ≤ s.clk then
    s.setSerp n (fun p => { p with rbit := s.bitUnit n, pendRx := false })
  else s

/-- A character enters the receive queue. -/
def State.rxPush (s : State) (n e : Nat) : State :=
  let p := s.serp n
  if 32 ≤ p.rx.length then
    (s.setSerp n (fun p => { p with rx := p.rx.set 31 (putBit (p.rx.getD 31 0) 13 true) })).count (Adr.SER_OVR n)
  else
    let k := p.rx.length + 1
    let s := s.setSerp n (fun p => { p with rx := p.rx ++ [e] })
    let thr := s.fld (Adr.SER_THR n) 5 0
    let s := if thr ≠ 0 && k = thr then s.serPost 0x01 n 0 0 0 else s
    if s.flag (Adr.SER_CTL n) 4 && k = 24 && !s.flag (Adr.SER_STAT n) 18 then
      ((s.setSerp n (fun p => { p with flow := some 0x13 })).setFlag (Adr.SER_STAT n) 18 true).txNext n
    else s

/-- The oldest receive entry is returned and removed (R370, R373). -/
def State.rxRead (s : State) (n : Nat) : Nat × State :=
  match (s.serp n).rx with
  | [] => (0, s)
  | e :: t =>
    let s := s.setSerp n (fun p => { p with rx := t })
    let s := if t.length = 8 && s.flag (Adr.SER_STAT n) 18 then
        ((s.setSerp n (fun p => { p with flow := some 0x11 })).setFlag (Adr.SER_STAT n) 18 false).txNext n
      else s
    (e + 2 ^ 15, s)

/-- A received character in modes 0 and 1. -/
def State.rxData (s : State) (n : Nat) (c : RxChar) (e : Nat) : State :=
  let data := e % 512
  let s := if s.flag (Adr.SER_CTL n) 5 then
      s.autoRate n c (if s.serMode n = 0 then 8 else 9)
    else s
  if s.flag (Adr.SER_CTL n) 4 && !bit e 11 && (data = 0x13 || data = 0x11) then
    (s.setFlag (Adr.SER_STAT n) 17 (data = 0x13)).txNext n
  else s.rxPush n e

/-- What the frame engine sends has read back wrong: nothing follows the present byte (R377). -/
def State.txBroken (s : State) (n : Nat) : State :=
  match (s.serp n).frame with
  | .header id => s.setSerp n (fun p => { p with frame := .broken id [], out := [] })
  | .respond id data => s.setSerp n (fun p => { p with frame := .broken id data, out := [] })
  | _ => s

/-- A received character in frame mode; while the port sends, the bits read back are compared with those sent. A break that opens a new header
ends a response under way. DEDUCED (log 79, not safe). -/
def State.rxFrame (s : State) (n : Nat) (c : RxChar) (e : Nat) : State :=
  let p := s.serp n
  let b := e % 256
  let brk := bit e 11
  let commander := s.serMode n = 2
  if p.shift.isSome then
    (if (p.wire.zip c.bits).any (fun q => q.1 ≠ majority q.2) then s.txBroken n else s)
  else match p.frame with
    | .listen id len enh got =>
      if brk && !commander then (s.frameEnd n St.timeout id got).setSerp n (fun p => { p with frame := .gotBreak })
      else if got.length < len then s.setSerp n (fun p => { p with frame := .listen id len enh (got ++ [BitVec.ofNat 8 b]) })
      else s.frameEnd n (if b = frameSum (pidOf id) enh got then 0 else St.crc) id got
    | .gotBreak =>
      if commander || brk then s
      else if b = 0x55 || c.edgesOk then (s.autoRate n c 8).setSerp n (fun p => { p with frame := .gotSync })
      else s.setSerp n (fun p => { p with frame := .idle })
    | .gotSync =>
      if brk then s.setSerp n (fun p => { p with frame := .gotBreak })
      else if b = pidOf (b % 64) then s.frameAct n (b % 64)
      else s.frameEnd n St.crc (b % 64) []
    | _ => if brk && !commander then s.setSerp n (fun p => { p with frame := .gotBreak }) else s

/-- RECEIVE_CHARACTER (R367): the receiver is armed, and hears the line (R374, R375). In modes 4 and 5 it tells of a line that goes low; the
packets have their own row. DEDUCED (log 84, not safe). -/
def State.rxChar (s : State) (n : Nat) (c : RxChar) : State :=
  let p := s.serp n
  let mode := s.serMode n
  let deaf := p.de && !s.flag (Adr.SER_CTL n) 6 && mode ≠ 2 && mode ≠ 3
  if !s.serOn n || s.flag (Adr.SER_STAT n) 19 || deaf then s
  else
    let s := s.rxStart n (s.charTenths n)
    let e := s.rxEntry n c
    let began := s.clk - bitTicks (s.serp n).rbit (s.charTenths n)
    let s := s.setSerp n (fun p => { p with lowAt := if bit e 11 then some began else none })
    if mode < 2 then (s.rxErrors n e).rxData n c e
    else if mode < 4 then (s.rxErrors n e).rxFrame n c e
    else s

/-! ### The slot map (R380) -/

/-- A map entry, read from the Basin. -/
structure MapEnt where
  slot : Nat
  wide : Bool
  signed : Bool
  fallback : Nat
  addr : Nat

/-- Entry i of the map. -/
def State.mapEnt (s : State) (n i : Nat) : MapEnt × State :=
  let r := s.basinRead Master.host (s.fld (Adr.SER_MAPBASE n) 23 0 + 16 * i) 16
  let b := r.1.getD []
  (⟨leAt b 0 2, bit (byteAt b 2) 0, bit (byteAt b 2) 1, leAt b 4 2, leAt b 8 8⟩, r.2)

/-- The status of the entries that MAPEN uses (R380). -/
def State.mapStatus (s : State) (n count : Nat) : Nat :=
  let bad (i : Nat) : Nat :=
    let a := s.fld (Adr.SER_MAPBASE n) 23 0 + 16 * i
    let b := s.memBytes a 16
    let x := leAt b 8 8
    let slot := leAt b 0 2
    firstFail [
      (bits (byteAt b 2) 7 2 ≠ 0 || byteAt b 3 ≠ 0 || leAt b 6 2 ≠ 0 || bits x 5 0 ≠ 0 || (bits x 47 42 ≠ 63 && bits x 41 31 ≠ 0) ||
        14 ≤ bits x 30 27, St.reserved),
      (slot = 0 || 512 < slot || (bit (byteAt b 2) 0 && slot = 512), St.range)]
  let l := (List.range count).map bad
  if l.contains St.reserved then St.reserved else if l.contains St.range then St.range else 0

/-- One entry delivers a value: whether it was delivered. The entry is judged by R5 and R9 here too, since it may have changed after MAPEN was
set. DEDUCED (log 79, not safe). -/
def State.deliver (s : State) (e : MapEnt) (value : Nat) (fade : Option Nat) : Bool × State :=
  let zoned := bits e.addr 47 42 ≠ 63
  let mine := !zoned && bits e.addr 41 31 = s.nodeNo && s.admitted
  if mine then
    let v := 16 * bits e.addr 26 22 + bits e.addr 21 18
    let word := bits e.addr 17 6
    if bits e.addr 63 48 = s.fld Adr.TRAIL_SYSID 15 0 && bits e.addr 5 0 = 0 && bits e.addr 30 27 = 1 && s.blockStatus v word [value] = 0 then
      (true, s.holdWrite .localWrite v word [BitVec.ofNat 16 value])
    else (true, s)
  else if !s.admitted then (false, s)
  else
    let stamp := (s.time + 511) / 512 * 512 + 512 * s.fld Adr.TRAIL_LEAD 8 0
    let f := match fade with
      | some ms => if bits e.addr 30 27 = 1 then (ms, 128) else (0, 0)
      | none => (0, 0)
    let b := natLE 1 28 ++ natLE 1 0x07 ++ natLE 2 (if zoned then 0x800 else 0) ++ natLE 2 0 ++ natLE 8 e.addr ++ natLE 8 stamp ++
      natLE 2 value ++ natLE 2 f.1 ++ natLE 1 f.2 ++ natLE 1 0
    let r := s.sendImage b false
    (r.1 = 0, r.2)

/-- One entry acts if its value differs from the one it last delivered; a send that fails is counted and acts again. -/
def State.mapAct (s : State) (n i value : Nat) (e : MapEnt) (fade : Option Nat) (always : Bool) : State :=
  if !always && Sp.find (s.serp n).last i = some value then s
  else
    let r := s.deliver e value fade
    if r.1 then r.2.setSerp n (fun p => { p with last := Sp.ins p.last i value })
    else r.2.count (Adr.SER_DMXUNSENT n)

/-- A valid packet is applied through the map. -/
def State.mapPacket (s : State) (n : Nat) (slots : List Byte) : State :=
  if !s.flag (Adr.SER_DMXCTL n) 9 || !s.inRun then s
  else (List.range (s.fld (Adr.SER_DMXCTL n) 8 0)).foldl (fun s i =>
    let r := s.mapEnt n i
    let e := r.1
    let v := if e.wide then byteAt slots e.slot * 256 + byteAt slots (e.slot + 1) else byteAt slots e.slot * 257
    let v := if e.signed then v ^^^ 0x8000 else v
    r.2.mapAct n i v e none false) s

/-- Signal loss begins (R379, R380). -/
def State.dmxLost (s : State) (n : Nat) : State :=
  if s.flag (Adr.SER_STAT n) 20 then s
  else
    let s := ((s.setFlag (Adr.SER_STAT n) 20 true).raise Cause.dmx).serPost 0x07 n 0 0 0
    if s.flag (Adr.SER_DMXCTL n) 9 && s.flag (Adr.SER_DMXCTL n) 10 && s.inRun then
      (List.range (s.fld (Adr.SER_DMXCTL n) 8 0)).foldl (fun s i =>
        let r := s.mapEnt n i
        r.2.mapAct n i r.1.fallback r.1 (some (s.fld (Adr.SER_DMXCTL n) 31 16)) true) s
    else s

/-- DMXLOSS (R379): 1,250 ms without a valid packet. -/
def State.dmxLossOn (s : State) (n : Nat) : State :=
  if s.serOn n && s.serMode n = 5 && s.elapsed (s.serp n).validAt (s.msTicks 1250) then s.dmxLost n else s

/-! ### Stuck line (R375) -/

/-- LINE_STUCK: the line, low since a break, has stayed so for STUCK_TIME. -/
def State.stuckOn (s : State) (n : Nat) : State :=
  let due := match (s.serp n).lowAt with
    | some t => t + s.msTicks (s.fld (Adr.SER_STUCK n) 12 0) ≤ s.clk
    | none => false
  if s.serOn n && due && !s.flag (Adr.SER_STAT n) 19 then
    let s := (s.setFlag (Adr.SER_STAT n) 19 true).serPost 0x03 n 0 0 0
    if s.serMode n = 5 then s.dmxLost n else s
  else s

/-- LINE_IDLE. -/
def State.stuckOff (s : State) (n : Nat) : State :=
  if s.flag (Adr.SER_STAT n) 19 then
    ((s.setFlag (Adr.SER_STAT n) 19 false).setSerp n (fun p => { p with lowAt := none })).serPost 0x04 n 0 0 0
  else s

/-! ### DMX and RDM (R378, R379, R381) -/

/-- Ticks that a DMX packet of len slots takes: break, mark and slots of 11 bit times. -/
def State.dmxTicks (s : State) (n len : Nat) (brk : Bool) : Nat :=
  (if brk then s.usTicks (s.fld (Adr.SER_DMXTIM n) 8 0 + s.fld (Adr.SER_DMXTIM n) 16 9) else 0) + bitTicks (s.bitUnit n) (110 * len)

/-- The packet in the transmit buffer: an entry of the layout of R379 without its time. DEDUCED (log 78, not safe). -/
def State.dmxBuffer (s : State) (n : Nat) : List Byte × State :=
  let a := s.fld (Adr.SER_BUFBASE n) 23 0 + 2176
  let r := s.basinRead Master.host a 2
  let len := Nat.min 513 (leNat (r.1.getD []))
  let q := r.2.basinRead Master.host (a + 16) len
  (q.1.getD [], q.2)

/-- DMX_TRANSMIT_PACKET (R378): PERIOD has passed, the last packet has ended, no RDM exchange runs. -/
def State.dmxSend (s : State) (n : Nat) : State :=
  let p := s.serp n
  let due := match p.started with
    | some t => t + s.msTicks (s.fld (Adr.SER_DMXTIM n) 24 17) ≤ s.clk && p.ends ≤ s.clk
    | none => true
  if s.serOn n && s.serMode n = 4 && due && p.rdm.isNone then
    let r := s.dmxBuffer n
    r.2.setSerp n (fun p => { p with
      started := some s.clk, ends := s.startAt n + s.dmxTicks n r.1.length true, line := r.1, de := true, pendTx := false, tbit := s.bitUnit n })
  else s

/-- An RDM exchange ends. -/
def State.rdmEnd (s : State) (n : Nat) : State := (s.setSerp n (fun p => { p with rdm := none })).serBusy n false

/-- DMX_RECEIVE_PACKET (R379): mode 5, or mode 4 while an RDM response is awaited. DEDUCED (log 78, not safe). -/
def State.dmxTake (s : State) (n : Nat) (pkt : DmxPacket) : State :=
  let p := s.serp n
  let mode := s.serMode n
  let heard := mode = 5 || (mode = 4 && p.rdm.isSome)
  let deaf := p.de && !s.flag (Adr.SER_CTL n) 6
  if !s.serOn n || !heard || s.flag (Adr.SER_STAT n) 19 || deaf then s
  else
    let slots := pkt.slots.take 513
    let s := ((s.rxStart n 110).countBy (Adr.SER_FERR n) pkt.fe).countBy (Adr.SER_NOISE n) pkt.noise
    let short := pkt.low < s.usTicks 88 || pkt.mark < s.usTicks 8
    let a := s.fld (Adr.SER_BUFBASE n) 23 0 + 544 * p.ring
    let entry := natLE 2 slots.length ++ natLE 1 (b2n short + 2 * b2n (pkt.fe ≠ 0)) ++ natLE 1 p.ring ++ natLE 8 pkt.breakEnd ++
      natLE 4 0 ++ slots
    let s := (s.basinWrite Master.host 0 a entry).2
    let s := s.setSerp n (fun p => { p with ring := (p.ring + 1) % 4, packetAt := s.clk, lowAt := none })
    let null := byteAt slots 0 = 0
    let s := if !null || s.flag (Adr.SER_CTL n) 7 then s.serPost 0x06 n 0 0 p.ring else s
    let s := if mode = 4 then s.rdmEnd n else s
    if mode = 5 && null && pkt.fe = 0 then
      let s := s.setSerp n (fun p => { p with validAt := s.clk })
      let s := if s.flag (Adr.SER_STAT n) 20 then
          ((s.setFlag (Adr.SER_STAT n) 20 false).raise Cause.dmx).serPost 0x08 n 0 0 0
        else s
      s.mapPacket n slots
    else s

/-- The status of a SEND of LEN bytes (R381). -/
def State.sendRdmStatus (s : State) (n len : Nat) : Nat :=
  firstFail [
    (len = 0 || 257 < len, St.range),
    ((s.serMode n ≠ 4 && s.serMode n ≠ 5) || !s.serOn n, St.mode),
    (s.serInUse n, St.busy)]

/-- An RDM packet is sent (R381): after the present packet in mode 4; in mode 5 from 176 µs after the request, if it can start within 2.0 ms
of its end, and otherwise it waits for RDM_TIMEOUT. -/
def State.startRdm (s : State) (n len : Nat) (noBreak : Bool) : State :=
  let r := s.basinRead Master.host (s.fld (Adr.SER_BUFBASE n) 23 0 + 2720) len
  let s := r.2.serBusy n true
  let b := r.1.getD []
  let p := s.serp n
  if s.serMode n = 4 then
    let ends := Nat.max (s.startAt n) p.ends + s.dmxTicks n len (!noBreak)
    let tail := bitTicks (s.bitUnit n) (10 * s.fld (Adr.SER_DE n) 15 8)
    s.setSerp n (fun p => { p with
      line := b, de := true, ends := ends, rdm := some (ends + tail + s.usTicks 2800), pendTx := false, tbit := s.bitUnit n })
  else
    let start := Nat.max (s.startAt n) (p.packetAt + s.usTicks 176)
    if start ≤ p.packetAt + s.msTicks 2 then (s.setSerp n (fun p => { p with
      line := b, de := true, ends := start + s.dmxTicks n len (!noBreak), pendTx := false, tbit := s.bitUnit n })).serBusy n false
  else s.setSerp n (fun p => { p with rdm := some (p.packetAt + s.msTicks 2) })

/-- RDM_TIMEOUT (R381). -/
def State.rdmTimeout (s : State) (n : Nat) : State :=
  match (s.serp n).rdm with
  | some t => if t ≤ s.clk then (s.rdmEnd n).serPost 0x09 n St.timeout 0 0 else s
  | none => s

/-! ### Register checks (R364, R365, R372, R373, R377, R378, R380, R383) -/

/-- Whether SER_FMTn holds the format that a mode requires (Table SE-1). -/
def serFormatOk (mode f : Nat) : Bool :=
  if mode < 2 then true
  else bits f 3 0 = 8 && bits f 5 4 = 0 && (if mode < 4 then bits f 7 6 = 0 else bits f 7 6 = 2)

/-- The status of a write of v to register o of port n, after the general checks. core: a core's write. -/
def State.serRegStatus (s : State) (n o v : Nat) (core : Bool) : Nat :=
  let c := s.reg (Adr.SER_CTL n)
  let f := s.reg (Adr.SER_FMT n)
  let en := bit c 3
  if o = 0x00 then
    let mode := bits v 2 0
    let db := bits f 3 0
    firstFail [
      (6 ≤ mode, St.reserved),
      (bits v 12 8 < 13 || 26 < bits v 12 8, St.range),
      (en && mode ≠ bits c 2 0, St.mode),
      (bit v 3 && !serFormatOk mode f, St.mode),
      (bit v 4 && (2 ≤ mode || (db ≠ 7 && db ≠ 8)), St.mode)]
  else if o = 0x04 then
    firstFail [
      (bits v 5 4 = 3 || bits v 7 6 = 3 || bits v 9 8 = 3, St.reserved),
      (bits v 3 0 < 5 || 9 < bits v 3 0, St.range),
      (en && bits v 9 0 ≠ bits f 9 0, St.mode)]
  else if o = 0x08 then firstFail [(v % 2 ^ 20 < 16, St.range)]
  else if o = 0x14 then firstFail [(!core && 32 ≤ (s.serp n).tx.length, St.full)]
  else if o = 0x1C then firstFail [(v % 8192 = 0 || 6553 < v % 8192, St.range)]
  else if o = 0x20 then firstFail [(32 < bits v 5 0 || 32 < bits v 13 8, St.range)]
  else if o = 0x24 then
    (if 256 < bits v 8 0 then St.range else if bit v 9 then s.mapStatus n (bits v 8 0) else 0)
  else if o = 0x28 then firstFail [(bits v 8 0 < 92 || 500 < bits v 8 0 || bits v 16 9 < 12, St.range)]
  else if o = 0x2C then
    firstFail [(v % 4 ≠ 0, St.align), (basinSize < v % 2 ^ 24 + 2977, St.range), (en && v % 2 ^ 24 ≠ s.fld (Adr.SER_BUFBASE n) 23 0, St.mode)]
  else if o = 0x30 then
    firstFail [(v % 4 ≠ 0, St.align), (basinSize < v % 2 ^ 24 + 4096, St.range), (en && v % 2 ^ 24 ≠ s.fld (Adr.SER_MAPBASE n) 23 0, St.mode)]
  else if o = 0x34 then
    (if bits v 7 6 = 0 then s.sendHeaderStatus n
    else if bits v 7 6 = 1 then s.sendRdmStatus n (bits v 17 9)
    else St.reserved)
  else 0

/-- A write of v to register o of port n takes effect. -/
def State.serRegWrite (s : State) (n o v : Nat) : State :=
  if o = 0x00 then
    let armed := s.flag (Adr.SER_CTL n) 5 || bit v 5
    let was := s.flag (Adr.SER_CTL n) 3
    let s := s.setReg (Adr.SER_CTL n) (putBit (v % 2 ^ 13) 5 armed)
    let s := if bit v 3 && !was then s.setSerp n (fun p => { p with
        validAt := s.clk, started := none, tbit := s.bitUnit n, rbit := s.bitUnit n, pendTx := false, pendRx := false, lowAt := none })
      else s
    s.txNext n
  else if o = 0x08 then
    let on := s.serOn n
    (s.setReg (Adr.SER_DIV n) (v % 2 ^ 20)).setSerp n (fun p => { p with pendTx := on, pendRx := on, divAt := s.clk })
  else if o = 0x24 then
    -- the entries judged are reads of the Basin (R244)
    let s := s.setReg (Adr.SER_CTL n + o) v
    (if bit v 9 then (s.basinRead Master.host (s.fld (Adr.SER_MAPBASE n) 23 0) (16 * bits v 8 0)).2 else s)
  else if o = 0x14 then
    if 32 ≤ (s.serp n).tx.length then s.setFlag (Adr.SER_STAT n) 22 true else s.txPush n v
  else if o = 0x34 then
    if bits v 7 6 = 0 then s.startHeader n (bits v 5 0) else s.startRdm n (bits v 17 9) (bit v 8)
  else s.setReg (Adr.SER_CTL n + o) v

/-! ### Rows that only the ports' own state decides -/

/-- RECEIVE_CHARACTER (R367). -/
def execReceiveCharacter (n : Fin 2) (ch : RxChar) (s : State) : Out := s.run fun s => (s.rxChar n.val ch)
/-- TRANSMIT_CHARACTER (R365). -/
def execTransmitCharacter (n : Fin 2) (s : State) : Out := s.run fun s => (s.txDone n.val)
/-- DE_TAIL (R374). -/
def execDeTail (n : Fin 2) (s : State) : Out := s.run fun s => (s.tailOff n.val)
/-- LINE_STUCK (R375). -/
def execLineStuck (n : Fin 2) (s : State) : Out := s.run fun s => (s.stuckOn n.val)
/-- LINE_IDLE (R375). -/
def execLineIdle (n : Fin 2) (s : State) : Out := s.run fun s => (s.stuckOff n.val)
/-- FRAME_RESPONSE_TIMEOUT (R377). -/
def execFrameResponseTimeout (n : Fin 2) (s : State) : Out := s.run fun s => (s.frameTimeout n.val)
/-- DMX_TRANSMIT_PACKET (R378). -/
def execDmxTransmitPacket (n : Fin 2) (s : State) : Out := s.run fun s => (s.dmxSend n.val)
/-- DMX_RECEIVE_PACKET (R379). -/
def execDmxReceivePacket (n : Fin 2) (pkt : DmxPacket) (s : State) : Out :=
  if pkt.slots.isEmpty then .fault .illFormed else s.run fun s => (s.dmxTake n.val pkt)
/-- DMXLOSS (R379). -/
def execDmxloss (n : Fin 2) (s : State) : Out := s.run fun s => (s.dmxLossOn n.val)
/-- RDM_TIMEOUT (R381). -/
def execRdmTimeout (n : Fin 2) (s : State) : Out := s.run fun s => (s.rdmTimeout n.val)

/-- The balls of the serial ports are high-impedance (R363): what was on the line is cut off, and a frame or RDM exchange with it.
DEDUCED (log 126, not safe). -/
def State.serialOff (s : State) : State :=
  (List.range 2).foldl (fun s n => (s.setSerp n (fun p => { p with
    de := false, shift := none, wire := [], out := [], frame := .idle, started := none, ends := 0, rdm := none, lowAt := none })).serBusy n false) s

/-- The ports run again: what waits in the transmit queues is sent. -/
def State.serialGo (s : State) : State := (List.range 2).foldl (fun s n => s.txNext n) s

end Sys2Proof.Machine
end

