-- ==== Sys2Proof/Machine/Timer.lean ====
section
/-!
DEFINITION. Timers and capture (R384 to R396): steps, wraps, compare matches, linked pairs, staged values, capture, events, stagger groups
and the registers' checks.
-/
namespace Sys2Proof.Machine

/-- Channel n. -/
def State.tch (s : State) (n : Nat) : Tmr := s.tmr.chans.getD n Tmr.reset

/-- Channel n changed. -/
def State.setTch (s : State) (n : Nat) (f : Tmr → Tmr) : State :=
  { s with tmr := { s.tmr with chans := s.tmr.chans.set n (f (s.tch n)) } }

/-- MODE of a channel. -/
def State.tmrMode (s : State) (n : Nat) : Nat := s.fld (Adr.TMR_CTL n) 1 0

/-- Channel n is the low word of a linked pair (R388). -/
def State.linkedLow (s : State) (n : Nat) : Bool := n % 2 = 0 && s.flag (Adr.TMR_CTL n) 2

/-- Channel n is the high word of a linked pair. -/
def State.linkedHigh (s : State) (n : Nat) : Bool := n % 2 = 1 && s.flag (Adr.TMR_CTL (n - 1)) 2

/-- The modulus of a channel (R391): PER in mode 1, 2^64 for a pair. -/
def State.tmrMod (s : State) (n : Nat) : Nat :=
  if s.linkedLow n then 2 ^ 64
  else if s.tmrMode n = 1 && (s.tch n).per ≠ 0 then (s.tch n).per else 2 ^ 32

/-- The whole count of a channel, 64 bits for a pair. -/
def State.tmrCount (s : State) (n : Nat) : Nat :=
  if s.linkedLow n then (s.tch n).cnt + 2 ^ 32 * (s.tch (n + 1)).cnt else (s.tch n).cnt

/-- Distance from count c forward to a compare value, none where it is never reached (R390). DEDUCED (log 81, not safe). -/
def matchDist (m c cmp : Nat) : Option Nat := if m ≤ cmp then none else some (if c < cmp then cmp - c else cmp + m - c)

/-- Steps of one tick up to the next event of channel n, a waiting jump included. -/
def State.tmrNext (s : State) (n : Nat) : Nat :=
  if s.linkedHigh n then 2 ^ 64
  else if (s.tch n).jump.isSome then 1
  else
    let m := s.tmrMod n
    let c := s.tmrCount n
    let w := m - c
    match matchDist m c (s.tch n).cmp with
    | some d => Nat.min d w
    | none => w

/-- Posts the events of a step (R394): one record in RELAY, SERVICE and RUN, which carries the events of the same step met before. -/
def State.tmrPost (s : State) (n events value : Nat) : State :=
  let t := s.tch n
  let same := t.evClk = s.clk
  let all := if same then t.evs ||| events else events
  let note (s : State) (sent : Bool) : State := s.setTch n (fun t => { t with evs := all, evClk := s.clk, sent := sent })
  let record := record16 all n 0 0 value s.time
  if same && t.sent && (s.ring 6).occupied.contains n then
    note (s.basinPut Master.disp 0 (s.ringAddr 6 n) record).2 true
  else if s.inserted && events &&& s.fld (Adr.TMR_CTL n) 21 19 ≠ 0 then
    let r := s.offerTmr n record
    note (if r.1 then r.2.setFlag (Adr.TMR_STAT n) 5 true else r.2) (!r.1 && s.flag (Adr.DSP_SRCCFG 6) 15)
  else note s false

/-- One step of channel n by k ticks (R387, R390 to R392). DEDUCED (log 81, not safe). -/
def State.tmrStep (s : State) (n k : Nat) : State :=
  if s.linkedHigh n then s
  else
    let t := s.tch n
    let put (s : State) (c : Nat) : State :=
      let s := s.setTch n (fun t => { t with cnt := c % 2 ^ 32 })
      if s.linkedLow n then s.setTch (n + 1) (fun t => { t with cnt := c / 2 ^ 32 % 2 ^ 32, jump := none }) else s
    match t.jump with
    | some v => (put s v).setTch n (fun t => { t with jump := none })
    | none =>
      let m := s.tmrMod n
      let c := s.tmrCount n
      let wraps := m ≤ c + k
      let pwm := s.tmrMode n = 1
      let s := if wraps && pwm then
          match t.staged with
          | some (a, b) => s.setTch n (fun t => { t with cmp := a, per := b, staged := none })
          | none => s
        else s
      let m' := s.tmrMod n
      let cmp := (s.tch n).cmp
      let hit : Bool := if wraps then decide (cmp < m') && (decide (cmp ≤ c + k - m) || (t.staged.isNone && decide (c < cmp)))
        else match matchDist m c cmp with | some d => d ≤ k | none => false
      let s := put s (if wraps then (c + k - m) % m' else c + k)
      let s := if hit then s.setFlag (Adr.TMR_STAT n) 0 true else s
      let s := if wraps then s.setFlag (Adr.TMR_STAT n) 1 true else s
      let s := if pwm then s.setTch n (fun t => { t with out := if hit then false else t.out || wraps }) else s
      if hit || wraps then s.tmrPost n (b2n hit + 2 * b2n wraps) (s.tch n).cnt else s

/-- Every channel makes a step of k ticks, which ends at the present time. DEDUCED (log 65, not safe). -/
def State.tmrStepAll (s : State) (k : Nat) : State := (List.range 16).foldl (fun s n => s.tmrStep n k) s

/-- Ticks to the next event of any channel, at most n. -/
def State.tmrChunk (s : State) (n : Nat) : Nat := (List.range 16).foldl (fun d c => Nat.min d (s.tmrNext c)) n

/-- n base-clock ticks pass: time, clock and channels advance, tick by tick where something happens. -/
def State.tmrRun : Nat → State → Nat → State
  | 0, s, _ => s
  | fuel + 1, s, n =>
    if n = 0 then s
    else
      let d := Nat.max 1 (s.tmrChunk n)
      let s := { s with time := s.time + d, clk := s.clk + d }
      State.tmrRun fuel (s.tmrStepAll d) (n - d)

/-- The length of the next period of the slow clock in ticks, and the fraction after it (Table TM-1). -/
def State.slowPeriod (s : State) : Nat × Nat :=
  if s.fam44 then ((11025 + s.tmr.frac) / 16, (11025 + s.tmr.frac) % 16) else (750, 0)

/-- The source that the mode asks for (Table TM-1): slow unless the node is inserted or boots on a locked base clock. -/
def State.wantSlow (s : State) : Bool := !(s.flag Adr.CLK_STAT 0 && s.flag Adr.CLK_STAT 1)

/-- n ticks pass while the slow clock drives the channels: they step at its edges, at the first of which a change of the source that waits is
made (R386). -/
def State.slowRun : Nat → State → Nat → State
  | 0, s, _ => s
  | fuel + 1, s, n =>
    let p := s.slowPeriod
    let rest := p.1 - s.tmr.acc
    if n < rest then { s with time := s.time + n, clk := s.clk + n, tmr := { s.tmr with acc := s.tmr.acc + n } }
    else
      let s := { s with time := s.time + rest, clk := s.clk + rest, tmr := { s.tmr with acc := 0, frac := p.2 } }
      let s := s.tmrStepAll p.1
      if s.tmr.change && !s.wantSlow then State.tmrRun (n - rest) { s with tmr := { s.tmr with slow := false, change := false } } (n - rest)
      else State.slowRun fuel s (n - rest)

/-- The base clock that drives the channels has stopped, and the slow clock has not yet taken over: no channel steps (R386). -/
def State.tmrStopped (s : State) : Bool := !s.tmr.slow && s.wantSlow

/-- n ticks pass for the timers, and with them time and clock. -/
def State.timePasses (s : State) (n : Nat) : State :=
  if s.tmr.slow then State.slowRun (n / 600 + 2) s n
  else if s.tmrStopped then { s with time := s.time + n, clk := s.clk + n }
  else State.tmrRun n s n

/-- TIMER_SOURCE_CHANGE (R386): the base clock takes over at the next edge of the slow clock, which may be now; the slow clock takes over at
an edge, which is now. -/
def State.sourceChange (s : State) : State :=
  if s.tmr.slow = s.wantSlow then s
  else if s.tmr.slow && s.tmr.acc ≠ 0 then { s with tmr := { s.tmr with change := true } }
  else { s with tmr := { s.tmr with slow := s.wantSlow, acc := 0, change := false } }

/-- The next step of channel n is a compare match (wrap = false) or a wrap. -/
def State.nextStepIs (s : State) (n : Nat) (wrap : Bool) : Bool :=
  if s.linkedHigh n || (s.tch n).jump.isSome || s.tmrStopped then false
  else
    let k := if s.tmr.slow then s.slowPeriod.1 else 1
    let m := s.tmrMod n
    let c := s.tmrCount n
    if wrap then m ≤ c + k else match matchDist m c (s.tch n).cmp with | some d => d ≤ k | none => false

/-! ### Capture (R393) -/

/-- Ticks between the present step and the first of the agreeing samples. -/
def State.filterTicks (s : State) (n : Nat) : Nat :=
  let k := s.fld (Adr.TMR_CTL n) 10 7
  if !s.tmr.slow then k else if s.fam44 then (11025 * k + 15 - s.tmr.frac) / 16 else 750 * k

/-- A qualified edge on TMRn. -/
def State.captureOn (s : State) (n : Nat) (rising : Bool) : State :=
  let e := s.fld (Adr.TMR_CTL n) 6 5
  let wanted := e = 2 || (if rising then e = 0 else e = 1)
  if s.tmrMode n ≠ 2 || !wanted || s.linkedHigh n || s.power.held || !s.power.vddao then s
  else
    let p := (s.tch n).presc + 1
    if p ≤ s.fld (Adr.TMR_CTL n) 18 11 then s.setTch n (fun t => { t with presc := p })
    else
      let s := s.setTch n (fun t => { t with presc := 0 })
      let m := if s.linkedLow n then 2 ^ 64 else 2 ^ 32
      let v := (s.tmrCount n + m - s.filterTicks n) % m
      let s := s.setReg (Adr.TMR_CAP n) (v % 2 ^ 32)
      let s := if s.linkedLow n then s.setReg (Adr.TMR_CAP (n + 1)) (v / 2 ^ 32) else s
      let s := if s.flag (Adr.TMR_STAT n) 2 then s.setFlag (Adr.TMR_STAT n) 3 true else s.setFlag (Adr.TMR_STAT n) 2 true
      s.tmrPost n 4 (v % 2 ^ 32)

/-! ### Stagger groups (R395) -/

/-- Members of a group in ascending order. -/
def State.members (s : State) (g : Nat) : List Nat := onesOf 16 (s.fld (Adr.TMR_GCTL g) 15 0)

/-- GTIME of a group. -/
def State.gtime (s : State) (g : Nat) : Nat := s.reg (Adr.TMR_GTIMELO g) + 2 ^ 32 * s.reg (Adr.TMR_GTIMEHI g)

/-- The status of a START with the members of mask and EXPL as written. DEDUCED (log 82, not safe). -/
def State.staggerStatus (s : State) (g mask : Nat) (expl : Bool) : Nat :=
  let l := onesOf 16 mask
  let m (n : Nat) : Nat := let p := (s.tch n).per; if p = 0 then 2 ^ 32 else p
  let differ := match l with | [] => false | a :: t => t.any (fun n => m n ≠ m a)
  firstFail [
    (if expl then l.any (fun n => m n ≤ s.reg (Adr.TMR_OFS n)) else differ, St.range),
    (l.any (fun n => s.tmrMode n ≠ 1 || s.linkedHigh n) || !s.inserted, St.mode),
    (s.flag (Adr.TMR_GCTL g) 18, St.busy)]

/-- The groups due at the boundary b: each member is loaded at the step that ends there. -/
def State.staggerLoad (s : State) (g b : Nat) : State :=
  if s.flag (Adr.TMR_GCTL g) 18 && (s.gtime g = 0 || s.gtime g ≤ b) && s.inserted then
    let l := s.members g
    let expl := s.flag (Adr.TMR_GCTL g) 16
    let late := s.tmr.late.contains g || (s.gtime g ≠ 0 && s.gtime g + s.spt ≤ b)
    let s := { s with tmr := { s.tmr with late := s.tmr.late.filter (· ≠ g) } }
    let s := (List.range l.length).foldl (fun s k =>
      let n := l.getD k 0
      let m := s.tmrMod n
      let d := if expl then s.reg (Adr.TMR_OFS n) else k * m / l.length
      let v := (m - d) % m
      s.setTch n (fun t => { t with jump := some v, out := decide (v < t.cmp) })) s
    let s := s.setFlag (Adr.TMR_GCTL g) 18 false
    if late then s.setFlag (Adr.TMR_GCTL g) 19 true else s
  else s

/-- The armed groups that start at boundary b. -/
def State.staggersAt (s : State) (b : Nat) : State := (List.range 4).foldl (fun s g => s.staggerLoad g b) s

/-- The level that ball TMRn is driven to, none where it is high-impedance (Table TM-3, R392): POL = 1 makes the active level low. -/
def State.tmrBall (s : State) (n : Nat) : Option Bool :=
  if s.power.vddao && s.tmrMode n = 1 && s.flag (Adr.TMR_CTL n) 3 && !s.linkedHigh n then some ((s.tch n).out != s.flag (Adr.TMR_CTL n) 4)
  else none

/-! ### Registers (R387 to R392, R396) -/

/-- TMR_STATn as read. -/
def State.tmrStat (s : State) (n : Nat) : Nat :=
  let t := s.tch n
  s.reg (Adr.TMR_STAT n) % 64 + 64 * b2n t.out + 128 * b2n t.staged.isSome + 256 * b2n s.tmr.slow

/-- A read of TMR_CNTn (R389). -/
def State.tmrRead (s : State) (n : Nat) : Nat × State :=
  if s.linkedHigh n then ((s.tch n).hold, s)
  else if s.linkedLow n then ((s.tch n).cnt, s.setTch (n + 1) (fun t => { t with hold := t.cnt }))
  else ((s.tch n).cnt, s)

/-- The status of a write of v to register o of channel n, after the general checks. -/
def State.tmrRegStatus (s : State) (n o v : Nat) : Nat :=
  if o = 0x00 then
    firstFail [
      (bits v 1 0 = 3 || bits v 6 5 = 3 || (n % 2 = 1 && bit v 2), St.reserved),
      (bit v 2 && bits v 1 0 = 1, St.mode)]
  else if o = 0x04 then
    firstFail [(s.tmrMode n = 1 && (s.tch n).per ≠ 0 && (s.tch n).per ≤ v % 2 ^ 32, St.range)]
  else 0

/-- A write of v to register o of channel n takes effect. -/
def State.tmrRegWrite (s : State) (n o v : Nat) : State :=
  if o = 0x00 then
    let changes := bits v 1 0 ≠ s.tmrMode n
    let s := s.setReg (Adr.TMR_CTL n) (v % 2 ^ 22)
    if changes then s.setTch n (fun t => { t with
      jump := some 0
      presc := 0
      cmp := match t.staged with | some p => p.1 | none => t.cmp
      per := match t.staged with | some p => p.2 | none => t.per
      staged := none })
    else s
  else if o = 0x04 then
    if s.linkedHigh n then s.setTch n (fun t => { t with held := some (v % 2 ^ 32) })
    else if s.linkedLow n then
      let hi := ((s.tch (n + 1)).held).getD (s.tch (n + 1)).cnt
      (s.setTch n (fun t => { t with jump := some (v % 2 ^ 32 + 2 ^ 32 * hi) })).setTch (n + 1) (fun t => { t with held := none })
    else s.setTch n (fun t => { t with jump := some (v % 2 ^ 32) })
  else if o = 0x08 || o = 0x0C then
    let s := s.setReg (Adr.TMR_CTL n + o) (v % 2 ^ 32)
    let cmp := s.reg (Adr.TMR_CMP n)
    let per := s.reg (Adr.TMR_PER n)
    if s.tmrMode n = 1 then s.setTch n (fun t => { t with staged := some (cmp, per) })
    else
      let late := o = 0x08 && s.tmrMode n = 0 && s.tmrCount n = cmp
      let s := s.setTch n (fun t => { t with cmp := cmp, per := per })
      if late then s.setFlag (Adr.TMR_STAT n) 4 true else s
  else s.setReg (Adr.TMR_CTL n + o) (v % 2 ^ 32)

/-- The status of a write of v to register o of group g. DEDUCED (log 82, not safe). -/
def State.groupRegStatus (s : State) (g o v : Nat) : Nat :=
  let c := s.reg (Adr.TMR_GCTL g)
  if o = 0 then
    if bit v 17 then s.staggerStatus g (bits v 15 0) (bit v 16)
    else if bit c 18 && v % 2 ^ 17 ≠ c % 2 ^ 17 then St.busy else 0
  else if bit c 18 then St.busy else 0

/-- A write of v to register o of group g takes effect. -/
def State.groupRegWrite (s : State) (g o v : Nat) : State :=
  if o = 0 then
    let c := s.reg (Adr.TMR_GCTL g)
    let pending := bit c 18 || bit v 17
    let late := bit c 19 && !bit v 19
    let past := bit v 17 && s.gtime g ≠ 0 && s.gtime g < s.time
    let s := if past then { s with tmr := { s.tmr with late := g :: s.tmr.late.filter (· ≠ g) } } else s
    s.setReg (Adr.TMR_GCTL g) (v % 2 ^ 17 + 2 ^ 18 * b2n pending + 2 ^ 19 * b2n late)
  else s.setReg (Adr.TMR_GCTL g + o) (v % 2 ^ 32)

/-- CAPTURE (R393). -/
def execCapture (n : Fin 16) (rising : Bool) (s : State) : Out := s.run fun s => (s.captureOn n.val rising)
/-- TIMER_SOURCE_CHANGE (R386). -/
def execTimerSourceChange (s : State) : Out := s.run fun s => s.sourceChange

end Sys2Proof.Machine
end

