-- ==== Sys2Proof/Machine/Power.lean ====
section
/-!
DEFINITION. Power modes, supplies, start-up and resets (R397 to R419): what a mode command may do, what a transition waits for, what a
mode entry does, what each reset keeps, wake bursts and the watchdog.
-/
namespace Sys2Proof.Machine

/-! ### Records and supplies (R407, R418) -/

/-- A record on the PWR source (R418). In OFF and LANTERN, and while a reset holds the device, there is no ring to take it. -/
def State.pwrPost (s : State) (code detail value : Nat) : State :=
  if s.power.held || !s.power.vddao || s.mode = 1 then s
  else s.post 10 (record16 code detail 0 0 value (if s.lock = 0 then 0 else s.time))

/-- The bit of a supply in PWR_SUPPLY (Table PW-7). -/
def supplyBit : Supply → Nat
  | .vddc => 0
  | .vddt => 1
  | .vddio1 => 2
  | .vddio2 => 3
  | .vdda => 4

/-- A supply is valid. -/
def State.supply (s : State) (u : Supply) : Bool := s.flag Adr.PWR_SUPPLY (supplyBit u)

/-- VDDT and VDDA are valid (R404). -/
def State.trailSupplies (s : State) : Bool := s.supply .vddt && s.supply .vdda

/-- The CLOCK record (Table PW-8): CLK_STAT has changed, or LXFAIL was set. -/
def State.clockRecord (s : State) : State := s.pwrPost 0x04 (b2n (s.flag Adr.PWR_STAT 8)) (s.reg Adr.CLK_STAT)

/-- WAITSUP follows the transition's wait, with its record when it changes (R404). -/
def State.setWaitsup (s : State) (b : Bool) : State :=
  if s.flag Adr.PWR_STAT 7 = b then s
  else (s.setFlag Adr.PWR_STAT 7 b).pwrPost 0x03 (s.fld Adr.PWR_STAT 6 4) (b2n b)

/-- A transition or the end of boot that needs VDDT and VDDA waits with WAITSUP set until both are valid (R404). -/
def State.judgeWait (s : State) (target : Nat) : State := s.setWaitsup (3 ≤ target && !s.trailSupplies)

/-! ### Commanding a mode (R399) -/

/-- Who may command a mode, a wake burst or a reset (R399): the local host, and node 0 over the Trail. The boot engine writes as the host (R425). -/
def powerRole : Source → Bool
  | .trail n => n = 0
  | .core _ => false
  | .host | .boot => true

/-- The status of a command of mode m, the write's role being checked before (R399). -/
def State.modeStatus (s : State) (m : Nat) : Nat := firstFail [
  (m = 0 || 6 ≤ m, St.reserved),
  (s.flag Adr.PWR_STAT 3 || s.booting || s.power.reloadQuiet ≠ 0 || s.power.reloadBank ≠ 0, St.busy),
  (m = s.mode, St.ok),
  (!(3 ≤ s.mode && s.mode ≤ 5), St.mode)]

/-- An accepted command of mode m (R400, R403): nothing when it is the present mode. -/
def State.acceptMode (s : State) (m : Nat) : State :=
  if m = s.mode then s
  else
    let run := s.mode = 5
    let s := (s.setFlag Adr.PWR_STAT 3 true).setFld Adr.PWR_STAT 6 4 m
    let s := { s with
      power := { s.power with trans := some ⟨s.mode, m, if run then 65 else 0, 0⟩ }
      disp := { s.disp with stopped := s.disp.stopped || (!run && m < 4) } }
    s.judgeWait m

/-! ### Leaving and entering a mode (R400 to R403) -/

/-- The node leaves the Trail: its ports are DOWN and its membership is over (R293, Table PW-6). DEDUCED (log 49, not safe). -/
def State.leaveTrail (s : State) : State :=
  let s := if s.isHead then s.stopHead else s
  let s := (((s.setRole 4 false).setNomap false).setReg Adr.TRAIL_NODE 0).setLock 0
  let s := (if s.retired 0 then s else s.setLink .a 0)
  let s := (if s.retired 1 then s else s.setLink .b 0)
  let s := (s.setFlag Adr.TRAIL_STAT 2 false).setFlag Adr.TRAIL_STAT 3 false
  s.setTrail (fun t => { t with
    a := TPort.reset, b := TPort.reset, win := [], missed := 0, steady := 0, errs := [], gotGood := false, needTime := false
    err := 0, diff := 0, offs := 0, timingPort := none, timed := [], late := [], commitFor := none
    buf := [], ins := [], relays := [], started := none, delay := 0, listenAt := none, heard := false, realign := 0, tapAt := none })

/-- The bypass relay is told to open, and the ports train TRAIL_RELAYT later (R293). It stays closed while both ports are retired (R292). -/
def State.openRelay (s : State) : State :=
  if s.retired 0 && s.retired 1 then s
  else { s with power := { s.power with bypassN := true, relayAt := some (s.clk + s.msTicks (s.fld Adr.TRAIL_RELAYT 4 0)) } }

/-- The node's Trail balls in REST and LANTERN: BYPASSn is low (R292). -/
def State.closeRelay (s : State) : State := { s with power := { s.power with bypassN := false, relayAt := none } }

/-- No item runs on any core. -/
def State.itemsIdle (s : State) : Bool := s.cores.all (fun c => c.item.isNone)

/-- Mode m is entered (R400): BUSY clears, the MODE record is posted, and a node that was bypassed opens its relay. -/
def State.enterMode (s : State) (old m : Nat) : State :=
  let s := { s with
    power := { s.power with trans := none, runAge := 0 }
    disp := { s.disp with stopped := m < 4 } }
  let s := s.setWaitsup false
  let s := ((s.setFld Adr.PWR_STAT 2 0 m).setFlag Adr.PWR_STAT 3 false).setFld Adr.PWR_STAT 6 4 0
  let s := if 3 ≤ m then ((if s.power.bypassN then s else s.openRelay).setTime8 s.time8).serialGo else s
  (s.pwrPost 0x01 old m).raise Cause.mode

/-- The Voice Array and the SPE stop at the boundary after the DAC fall (R401, R403). -/
def State.stopEngines (s : State) (t : Trans) : State :=
  let s := s.stopVoices
  { s with
    power := { s.power with runAge := 0, trans := some { t with fall := 0 } }
    disp := { s.disp with stopped := s.disp.stopped || t.target < 4 } }

/-- One trail cycle without inserts, then BYPASSn falls (R400 step 3). DEDUCED (log 111, not safe). -/
def State.quietStep (s : State) (t : Trans) : State :=
  if s.time % 512 ≠ 0 then s
  else if t.quiet = 0 then { s with power := { s.power with trans := some { t with quiet := 1 } } }
  else if t.quiet = 1 then
    { s with power := { s.power with trans := some { t with quiet := 2 }, bypassN := false } }
  else s

/-- The trail cycle without inserts of a RELOAD, after which BYPASSn falls and the reset asserts (R293, R434). -/
def State.reloadStep (s : State) : State :=
  if s.power.reloadQuiet = 0 || s.power.reloadQuiet = 3 || s.time % 512 ≠ 0 then s
  else if s.power.reloadQuiet = 1 then { s with power := { s.power with reloadQuiet := 2 } }
  else { s with power := { s.power with reloadQuiet := 3, bypassN := false, resetAt := some s.clk } }

/-- The work that holds a mode without cores back (R403, R229): no item runs, and no successor list is being read or record waits. -/
def State.coresIdle (s : State) : Bool := s.itemsIdle && s.disp.jobs.isEmpty && s.disp.recs.isEmpty

/-- What a transition does at a sample boundary (R400). -/
def State.transStep (s : State) (t : Trans) : State :=
  let s := s.judgeWait t.target
  if t.target < 3 then (if s.coresIdle then s.quietStep t else s)
  else if !s.trailSupplies then s
  else if t.target = 3 && !s.coresIdle then s
  else s.enterMode t.old t.target

/-- The transition, or the RELOAD, in progress at a sample boundary. -/
def State.powerBoundary (s : State) : State :=
  let s := s.reloadStep
  match s.power.trans with
  | none => s
  | some t =>
    if t.old = 2 then s
    else if 1 < t.fall then { s with power := { s.power with trans := some { t with fall := t.fall - 1 } } }
    else if t.fall = 1 then (s.stopEngines t).transStep { t with fall := 0 }
    else s.transStep t

/-! ### What resets keep (Table PW-6, Table BM-4, R445) -/

/-- Registers of the Lantern domain that hold a live condition or belong to it in every reset but a cold one. -/
def lanternKeeps (a : Nat) : Bool :=
  a = Adr.PWR_RSTCAUSE || a = Adr.PWR_WAKECFG || a = Adr.PWR_WDOG || a = Adr.PWR_SUPPLY

/-- Registers that a warm reset keeps: the Lantern domain's, the Basin's but for its control, the retirements and their error counts.
DEDUCED (log 44, not safe). -/
def warmKeeps (a : Nat) : Bool :=
  lanternKeeps a || (0x02004000 ≤ a && a < 0x02005000 && a ≠ Adr.BASIN_REPWIN && a ≠ Adr.BASIN_SWCTL)
    || a = Adr.FAULT_RETIRED0 || a = Adr.FAULT_RETIRED1 || (Adr.FAULT_ERR 0 ≤ a && a < Adr.FAULT_ERR 64)
    || a = Adr.VOICE_SLICESTAT0 || a = Adr.VOICE_SLICESTAT1

/-- The timer registers. -/
def timerReg (a : Nat) : Bool := 0x0200C000 ≤ a && a < 0x0200D000

/-- Retired units still read retired after a reset that keeps retirements. -/
def State.showRetired (s : State) : State :=
  let s := (List.range 8).foldl (fun s i => s.setFlag (Adr.APORT_STAT i) 5 (s.retired (2 + i))) s
  let s := if s.retired 0 then s.setFld (Adr.TRAIL_PSTAT 0) 2 0 4 else s
  if s.retired 1 then s.setFld (Adr.TRAIL_PSTAT 1) 2 0 4 else s

/-- The clock and crystal conditions that the Lantern domain still has, shown in registers of the core domain after its reset. -/
def State.showClocks (s : State) (osc lxfail : Bool) : State :=
  let s := s.setReg Adr.CLK_STAT (2 * b2n osc + 4 * b2n s.power.xtal)
  s.setFlag Adr.PWR_STAT 8 lxfail

/-- The core domain after its reset: warm keeps what Table PW-6 keeps of a warm reset; the timers are kept where keepTimers holds. Boot is next.
The flash, the fuses and the Lantern domain stay. DEDUCED (log 44, not safe). -/
def State.coreReset (s : State) (warm keepTimers : Bool) : State :=
  let z := State.reset
  let s := s.cutCommit
  let s := if warm then s.basin.copying.foldl (fun s _ => s.endCopy) s.returnRegion else s
  let osc := s.flag Adr.CLK_STAT 1
  let lx := s.flag Adr.PWR_STAT 8
  let regs := s.regs.filter (fun p => (if warm then warmKeeps p.1 else lanternKeeps p.1) || (keepTimers && timerReg p.1))
  let r : State :=
    { z with
      pending := s.pending
      fresh := s.fresh
      clk := s.clk
      regs := regs
      basin := if warm then { s.basin with sweepAt := 0, groups := [] } else z.basin
      lram := if warm then s.lram else []
      lramEcc := if warm then s.lramEcc else []
      voice := { z.voice with words := if warm then s.voice.words else [] }
      spe := { z.spe with
        prog := if warm then s.spe.prog else []
        stage := if warm then s.spe.stage else []
        coef := if warm then s.spe.coef else []
        shadow := if warm then s.spe.shadow else []
        temps := if warm then s.spe.temps else [] }
      ana := { z.ana with vdda28 := s.ana.vdda28 }
      tmr := if keepTimers then s.tmr else z.tmr
      power := { s.power with
        held := false, startup := 0, resetAt := none, trans := none, relayAt := none, bypassN := false, burstA := none, burstB := none
        runAge := 0, reloadQuiet := 0, reloadBank := 0, needClear := s.power.needClear || !warm
        wdog := s.msTicks (s.fld Adr.PWR_WDOG 15 0) }
      pack := { z.pack with
        log2size := s.pack.log2size, flash := s.pack.flash, fuses := s.pack.fuses, logPos := s.pack.logPos
        logq := if warm then s.pack.logq else [] } }
  (r.showClocks (osc && warm) lx).showRetired

/-- Reset causes: bits of PWR_RSTCAUSE. -/
def warmCauseBit : WarmCause → Nat
  | .pin => 1
  | .cmd => 2
  | .wdog => 3
  | .supply => 5

/-- A warm reset asserts (R414): start-up begins at the oscillator step, except from LANTERN, where the core domain powers up. -/
def State.warmReset (s : State) (c : WarmCause) : State :=
  if !s.power.vddao then s
  else
    let s := s.setFlag Adr.PWR_RSTCAUSE (warmCauseBit c) true
    if s.power.held then s
    else
      let lantern := s.mode = 1
      let bank := s.power.reloadBank
      let xtalReset := s.coreReset (!lantern) false
      let p := xtalReset.power
      { xtalReset with power := { p with
          held := c = .pin
          pwrenC := true
          startup := if !lantern && xtalReset.flag Adr.CLK_STAT 1 then 1 else 0
          reloadBank := if c = .cmd then bank else 0 } }

/-- VDDAO fails or the power-on reset asserts: everything but the flash and the fuses is at its reset value (R414). -/
def State.coldReset (s : State) : State :=
  let z := State.reset
  let s := s.cutCommit
  { z with
    pending := s.pending
    fresh := s.fresh
    pack := { z.pack with log2size := s.pack.log2size, flash := s.pack.flash, fuses := s.pack.fuses, logPos := s.pack.logPos } }

/-! ### Watchdog (R416) -/

/-- The watchdog counts n ticks, in SERVICE and RUN. DEDUCED (log 45, not safe). -/
def State.wdogRun (s : State) (n : Nat) : State :=
  if s.flag Adr.PWR_WDOG 16 && s.coresOn then { s with power := { s.power with wdog := s.power.wdog - n } } else s

/-- A write to PWR_WDOG (Table PW-7). -/
def State.wdogStatus (s : State) (v : Nat) : Nat := firstFail [
  (bits v 15 0 = 0, St.range),
  (s.flag Adr.PWR_WDOG 16 && bits v 15 0 ≠ s.fld Adr.PWR_WDOG 15 0, St.locked)]

/-- Its effect: EN loads the count. DEDUCED (log 45, not safe). -/
def State.wdogWrite (s : State) (v : Nat) : State :=
  let en := s.flag Adr.PWR_WDOG 16
  let s := s.setFld Adr.PWR_WDOG 15 0 (bits v 15 0)
  if bit v 16 && !en then { (s.setFlag Adr.PWR_WDOG 16 true) with power := { s.power with wdog := s.msTicks (bits v 15 0) } } else s

/-! ### Wake bursts (R406) -/

/-- The status of a write to PWR_WAKESEND, the role being checked before. -/
def State.wakesendStatus (s : State) (v : Nat) : Nat := firstFail [
  (!s.inserted, St.mode),
  ((bit v 0 && s.link .a ≠ 3) || (bit v 1 && s.link .b ≠ 3), St.mode)]

/-- A wake burst starts on each named port: 16 ms without frames. -/
def State.wakesend (s : State) (v : Nat) : State :=
  let t := s.clk + s.msTicks 16
  let s := if bit v 0 && s.power.burstA.isNone then
      { (s.setFlag Adr.PWR_WAKESEND 0 true) with power := { s.power with burstA := some t } } else s
  if bit v 1 && s.power.burstB.isNone then
    { (s.setFlag Adr.PWR_WAKESEND 1 true) with power := { s.power with burstB := some t } } else s

/-- A wake burst ends. -/
def State.burstEnd (s : State) (p : Port) : State :=
  let b := match p with | .a => s.power.burstA | .b => s.power.burstB
  match b with
  | some t =>
    if t ≤ s.clk then
      let s := s.setFlag Adr.PWR_WAKESEND (portIx p) false
      match p with
      | .a => { s with power := { s.power with burstA := none } }
      | .b => { s with power := { s.power with burstB := none } }
    else s
  | none => s

/-! ### Waking (R405) -/

/-- A node in REST starts towards WAKETGT; one in LANTERN powers its core domain up. -/
def State.wakeOn (s : State) : State :=
  if s.power.held || !s.power.vddao || s.power.trans.isSome then s
  else if s.mode = 2 then
    let m := s.fld Adr.PWR_WAKECFG 2 0
    let s := (s.setFlag Adr.PWR_STAT 3 true).setFld Adr.PWR_STAT 6 4 m
    ({ s with power := { s.power with trans := some ⟨2, m, 0, 0⟩ } } : State).judgeWait m
  else if s.mode = 1 then
    let r := (s.setFlag Adr.PWR_RSTCAUSE 7 true).coreReset false true
    { r with power := { r.power with pwrenC := true } }
  else s

/-! ### Completing a transition (R400) -/

/-- LANTERN is entered: the core domain loses its state (Table PW-1, Table PW-6). DEDUCED (log 47, not safe). -/
def State.enterLantern (s : State) (old : Nat) : State :=
  let s := s.enterMode old 1
  let lx := s.flag Adr.PWR_STAT 8
  let r := s.coreReset false true
  let r := ((r.setReg Adr.PWR_STAT 1).setFlag Adr.PWR_STAT 8 lx).setFlag Adr.HOST_STAT 0 false
  { r with power := { r.power with pwrenC := false } }

/-- The last steps of an entry to REST or LANTERN: the node leaves the Trail, the outputs are high-impedance, the PLL stops.
DEDUCED (log 49, not safe). -/
def State.enterLow (s : State) (t : Trans) : State :=
  let s := (s.leaveTrail.coutsOff).serialOff.closeRelay
  let s := { s with ana := { s.ana with dacs := List.replicate 4 Dac.closed } }
  if t.target = 1 then s.enterLantern t.old
  else ((s.setFlag Adr.CLK_STAT 0 false).clockRecord).enterMode t.old 2

/-- The transition completes where its waits have ended (MODE_ENTERED). DEDUCED (log 47, not safe). DEDUCED (log 51, not safe). -/
def State.modeDone (s : State) : State :=
  match s.power.trans with
  | none => s
  | some t =>
    if t.old = 2 then
      if s.flag Adr.CLK_STAT 0 && s.trailSupplies then s.enterMode 2 t.target else s
    else if t.target < 3 then
      if t.quiet = 2 && s.basin.copying.isEmpty && !s.borrowed && s.coresIdle then s.enterLow t else s
    else if s.time % s.spt = 0 then s.powerBoundary
    else s

/-! ### Rows of this chapter that need no register access -/

/-- MODE_ENTERED (R400). -/
def execModeEntered (s : State) : Out := s.run fun s => s.modeDone

/-- WAKE (R405). -/
def execWake (s : State) : Out := s.run fun s => s.wakeOn

/-- WAKE_BURST (R405, R406): heard with TWAKE = 1. -/
def execWakeBurst (s : State) : Out := s.run fun s => (if s.flag Adr.PWR_WAKECFG 3 then s.wakeOn else s)

/-- WAKE_BURST_END (R406). -/
def execWakeBurstEnd (p : Port) (s : State) : Out := s.run fun s => (s.burstEnd p)

/-- SUPPLY_INVALID (R410): VDDT or VDDA in RELAY, SERVICE or RUN is a supply reset; any other loss is recorded. -/
def execSupplyInvalid (u : Supply) (s : State) : Out := s.run fun s =>
  if !s.supply u then s
  else
    let s := s.setFlag Adr.PWR_SUPPLY (supplyBit u) false
    let s := if u = .vdda then { s with ana := { s.ana with vdda28 := false } } else s
    let s := if u = .vddio1 then s.serialOff else s
    if (u = .vddt || u = .vdda) && s.inserted then (s.warmReset .supply)
    else (s.pwrPost 0x02 0 (s.reg Adr.PWR_SUPPLY))

/-- SUPPLY_VALID (R404, R407, R409): whether VDDA has reached 2.8 V (R349) is free. DESIGN CHOICE (log 48, safe). -/
def execSupplyValid (u : Supply) (s : State) : Out := s.run fun s =>
  if s.supply u then s
  else
    let s := s.setFlag Adr.PWR_SUPPLY (supplyBit u) true
    let s := if u = .vdda then
        let d := s.draw
        { d.2 with ana := { d.2.ana with vdda28 := d.1 % 2 = 1 } }
      else s
    if !s.power.vddao then { s with power := { s.power with order := true } }
    else
      let s := s.pwrPost 0x02 0 (s.reg Adr.PWR_SUPPLY)
      let s := if u = .vddio1 then s.serialGo else s
      (if s.flag Adr.PWR_STAT 7 && s.trailSupplies then s.setWaitsup false else s)

/-- COLD_RESET (R414): the power-on reset on VDDAO holds the device until RESET_RELEASE; the other supplies are as they were, and ORDER tells of
one that was valid before VDDAO (R409). -/
def execColdReset (s : State) : Out := s.run fun s =>
  let r := (s.coldReset.setReg Adr.PWR_SUPPLY (s.reg Adr.PWR_SUPPLY)).setFlag Adr.PWR_RSTCAUSE 6 s.power.order
  { r with ana := { r.ana with vdda28 := s.ana.vdda28 } }

/-- POWER_OFF (R398): VDDAO is removed. -/
def execPowerOff (s : State) : Out := s.run fun s =>
  let r := s.coldReset.setReg Adr.PWR_STAT 0
  { r with power := { r.power with vddao := false } }

/-- WARM_RESET (R414): the RESETn ball at any time; the other causes where their own rule asks for it. -/
def execWarmReset (cause : WarmCause) (s : State) : Out := s.run fun s =>
  let due := match cause with
    | .pin => true
    | .cmd => (match s.power.resetAt with | some t => t ≤ s.clk | none => false)
    | .wdog => s.flag Adr.PWR_WDOG 16 && s.coresOn && s.power.wdog = 0
    | .supply => s.inserted && !s.trailSupplies
  (if due then s.warmReset cause else s)

/-- BROWNOUT (R410, R414): a cold reset of the core domain; the Lantern domain and the timers stay. -/
def execBrownout (s : State) : Out := s.run fun s =>
  if !s.power.vddao || s.mode = 1 then s
  else
    let s := (s.setFlag Adr.PWR_RSTCAUSE 4 true).setFlag Adr.PWR_SUPPLY 0 false
    if s.power.held then s else (s.coreReset false true)

/-- WATCHDOG_EXPIRY (R416): a WDOG record, then a warm reset. -/
def execWatchdogExpiry (s : State) : Out := s.run fun s =>
  if s.flag Adr.PWR_WDOG 16 && s.coresOn && s.power.wdog = 0 then
    let d := s.drawStatus
    ((d.2.logFault 0x0A 0 d.1 (s.fld Adr.PWR_WDOG 15 0) 0 0).warmReset .wdog)
  else s

/-- LXTAL (R411): the crystal qualifies within 1 s of its start. -/
def execLxtal (s : State) : Out := s.run fun s =>
  if !s.power.vddao || s.power.held || s.power.xtal || s.flag Adr.PWR_STAT 8 || s.elapsed s.power.xtalStart (s.msTicks 1000 + 1) then s
  else (({ s with power := { s.power with xtal := true } } : State).setFlag Adr.CLK_STAT 2 true).clockRecord

/-- LXFAIL (R411): it has not, 1 s after its start. -/
def execLxfail (s : State) : Out := s.run fun s =>
  if !s.power.vddao || s.power.held || s.power.xtal || s.flag Adr.PWR_STAT 8 || !s.elapsed s.power.xtalStart (s.msTicks 1000) then s
  else (s.setFlag Adr.PWR_STAT 8 true).clockRecord

/-- RESET_RELEASE (R412): after the power-on reset the Lantern domain starts; after RESETn, start-up goes on. Timers start from 0.
DEDUCED (log 97, safe). -/
def execResetRelease (s : State) : Out := s.run fun s =>
  if !s.power.held then s
  else
    let p := { s.power with held := false }
    (if s.power.coldHold then { s with power := { p with coldHold := false, pwrenC := true, xtalStart := s.clk } }
        else { s with power := p })

/-- OSCOK (R412): the 24.576 MHz source is qualified once VDDC, VDDT and VDDA are valid. DEDUCED (log 97, safe). -/
def execOscok (s : State) : Out := s.run fun s =>
  if s.power.held || !s.power.pwrenC || s.flag Adr.CLK_STAT 1 || !(s.supply .vddc && s.trailSupplies) then s
  else
    let s := s.setFlag Adr.CLK_STAT 1 true
    ({ s with power := { s.power with startup := Nat.max s.power.startup 1 } } : State).clockRecord

/-- PLL_LOCK (R412): FCLK runs; the Basin clear begins where the Basin lost its contents (R254). -/
def execPllLock (s : State) : Out := s.run fun s =>
  let wanted := s.mode = 6 || (s.mode = 2 && s.power.trans.isSome)
  if s.power.held || !s.flag Adr.CLK_STAT 1 || s.flag Adr.CLK_STAT 0 || !wanted then s
  else
    let s := s.setFlag Adr.CLK_STAT 0 true
    let s := if s.mode = 6 && s.power.startup = 1 then
        (if s.power.needClear then { (s.setFlag Adr.BASIN_STAT 0 true) with power := { s.power with startup := 2 } }
         else { s with power := { s.power with startup := 3 } })
      else s
    s.clockRecord

end Sys2Proof.Machine
end

