-- ==== Sys2Proof/Machine/Regs.lean ====
section
/-!
DEFINITION. Reads and writes of registers (R9, R31, R459): what a read shows and does, the checks of a write in the order of R459, and
what an accepted write does.
-/
namespace Sys2Proof.Machine

/-! ### Reads -/

/-- The place of address a in an array of n registers that starts at b with a stride. -/
def arrIx (a b stride n : Nat) : Option Nat :=
  if b ≤ a && (a - b) % stride = 0 && (a - b) / stride < n then some ((a - b) / stride) else none

/-- A read of TRAIL_TIMELO captures the high word of the same instant (R290). -/
def State.readTimeLo (s : State) : Nat × State :=
  (s.time % 2 ^ 32, s.setTrail (fun t => { t with hiHold := s.time / 2 ^ 32 % 2 ^ 32 }))

/-- A read of CLK_PHASE (R17): the read falls in one of the 16 FCLK cycles of the present tick. DESIGN CHOICE (log 109, safe). -/
def State.readPhase (s : State) : Nat × State :=
  if s.inserted then (let d := s.draw; (Nat.min (s.phase + d.1 % 16) (16 * s.spt - 1), d.2)) else (0, s)

/-- A read of HOST_STAT: the level of WAKEn is the ball's, which no command sets (R464). DESIGN CHOICE (log 46, safe). -/
def State.readHostStat (s : State) : Nat × State := let d := s.draw; (putBit (s.reg Adr.HOST_STAT) 1 (d.1 % 2 = 1), d.2)

/-- The registers whose value is formed when they are read, none for one that is simply stored. DEDUCED (log 89, safe). -/
def State.derivedReg (s : State) (a : Nat) : Option Nat :=
  let blk := a / 0x1000 % 16
  if blk = 0x3 then (if a = Adr.DSP_STAT then some s.dspStat else none)
  else if blk = 0x5 then
    (if a = Adr.VOICE_HASHCTL then some (s.reg a % 8 + 8 * b2n s.hashMatch) else none)
  else if blk = 0x6 then
    (if a = Adr.SPE_CSTAT then some s.speCstat else (arrIx a (Adr.SPE_DLWP 0) 4 64).map (fun j => (s.dline j).wp))
  else if blk = 0x7 then
    (if a = Adr.TRAIL_STAT then some (putBit (s.reg a) 7 s.dbl)
    else if a = Adr.TRAIL_TIMEHI then some s.trail.hiHold
    else if a = Adr.TRAIL_SERLO then some (Config.serial % 2 ^ 32)
    else if a = Adr.TRAIL_SERHI then some (Config.serial / 2 ^ 32 % 2 ^ 32)
    else none)
  else if blk = 0x8 then
    match arrIx a (Adr.APORT_STAT 0) 0x100 8 with
    | some p => some (putBits (s.reg a) 21 16 (s.aport p).fifo.length)
    | none => (arrIx a (Adr.APORT_RATE 0) 0x100 8).map (fun p =>
        if s.apSlave p then s.reg a else if s.flag (Adr.APORT_STAT p) 0 then s.rateHz else 0)
  else if blk = 0x9 then (if a = Adr.ADAC_STAT then some s.adacStat else none)
  else if blk = 0xA then
    (if a = Adr.COUT_CAP then some s.capNow else (arrIx a (Adr.COUT_STAT 0) 0x20 8).map s.coutStat)
  else if blk = 0xB then (arrIx a (Adr.SER_STAT 0) 0x100 2).map s.serStat
  else if blk = 0xC then (arrIx a (Adr.TMR_STAT 0) 0x20 16).map s.tmrStat
  else if blk = 0xD then
    match arrIx a (Adr.PACK_KEYHASH 0) 4 8 with
    | some k => some (leAt s.pack.fuses (4 * k) 4)
    | none => if a = Adr.PACK_STAT then some (putBit (s.reg a) 5 s.fused) else none
  else none

/-- A read of the register at address a: its value, and the state after the read's own effects (R290, R370, R389). An address that names
no register reads 0 (R31). -/
def State.regRead (s : State) (a : Nat) : Nat × State :=
  match regRow a with
  | none => (0, s)
  | some _ =>
    if a = Adr.TRAIL_TIMELO then s.readTimeLo
    else if a = Adr.CLK_PHASE then s.readPhase
    else if a = Adr.HOST_STAT then s.readHostStat
    else match arrIx a (Adr.SER_RXDATA 0) 0x100 2 with
    | some n => s.rxRead n
    | none => match arrIx a (Adr.TMR_CNT 0) 0x20 16 with
    | some n => s.tmrRead n
    | none => match s.derivedReg a with
    | some v => (v, s)
    | none => (s.reg a, s)

/-! ### Checks of a write (R459) -/

/-- Who writes: a control core. -/
def srcIsCore : Source → Bool
  | .core _ => true
  | _ => false

/-- The command registers that keep the status of every write in a CODE field (R459). -/
def codeReg (a : Nat) : Bool :=
  a = Adr.SPE_PCMD || a = Adr.SPE_CCMD || a = Adr.DSP_CMD || a = Adr.PACK_UCMD || a = Adr.FAULT_CMD || a = Adr.VOICE_EVCMD

/-- The status kept in the CODE field of a command register. -/
def State.setCode (s : State) (a st : Nat) : State :=
  if a = Adr.SPE_PCMD then s.spePcode st
  else if a = Adr.SPE_CCMD then s.speCcode st
  else if a = Adr.DSP_CMD then s.setFld Adr.DSP_CMDRES 23 16 st
  else if a = Adr.PACK_UCMD then s.packCode st
  else if a = Adr.FAULT_CMD then s.setFld Adr.FAULT_CMDRES 7 0 st
  else if a = Adr.VOICE_EVCMD then s.setFld Adr.VOICE_EVCMD 15 8 st
  else s

/-- A CANCEL written to SPE_PCMD leaves CODE unchanged (R171), which R459's general rule does not override. DEDUCED (log 7, not safe). -/
def keepsCode (a v : Nat) : Bool := a = Adr.SPE_PCMD && bits v 1 0 = 2

/-- The source and role rules (R232, R291, R339, R399, R406, R415, R446). DEDUCED (log 59, not safe). -/
def State.roleStatus (s : State) (src : Source) (a v : Nat) : Nat :=
  if a = Adr.PWR_MODECMD || a = Adr.PWR_WAKESEND || a = Adr.SYS_RESET then (if powerRole src then 0 else St.role)
  else if a = Adr.FAULT_CMD then (if srcIsCore src || powerRole src then 0 else St.role)
  else if a = Adr.DSP_CMD then (if srcIsCore src then St.role else 0)
  else if a = Adr.TRAIL_LEAD then (if s.isHead || src = .boot then 0 else St.role)
  else if a = Adr.APORT_LOOPCTL then (if bit v 0 && !s.isHead then St.role else 0)
  else 0

/-- Locks and keys (R415, Table PW-7). -/
def State.lockStatus (s : State) (a v : Nat) : Nat :=
  if a = Adr.SYS_RESET then (if bits v 15 0 = 0x5AFE then 0 else St.locked)
  else if a = Adr.PWR_WDOG then
    (if s.flag a 16 && bits v 15 0 ≠ s.fld a 15 0 then St.locked else 0)
  else 0

/-- A counter of entries consumed may not move backwards or beyond the counter of entries written. -/
def readBack (wr rd v : Nat) : Bool := ringGap wr rd < ringGap v rd

/-- The rules of DSP_SRCCFGq (R227): range checks first (R459). -/
def State.srcCfgStatus (s : State) (q v : Nat) : Nat :=
  let old := s.reg (Adr.DSP_SRCCFG q)
  let len := bits v 19 16
  let changed := bits v 9 0 ≠ bits old 9 0 || len ≠ bits old 19 16
  let opens := bit v 15 && !bit old 15
  firstFail [
    (len = 0 || 8 < len || (q = 6 && len ≠ 4), St.range),
    (opens && ((s.descAt (bits v 9 0)).st ≠ 1 || !inBasin (s.ringAddr q 0) (32 * 2 ^ len)), St.range),
    (changed && bit old 15, St.mode),
    (changed && !(s.ring q).occupied.isEmpty, St.busy)]

/-- The rules of DSP_SRCBASEq (R227). -/
def State.srcBaseStatus (s : State) (q v : Nat) : Nat :=
  let changed := bits v 23 5 ≠ s.fld (Adr.DSP_SRCBASE q) 23 5
  firstFail [
    (changed && s.flag (Adr.DSP_SRCCFG q) 15, St.mode),
    (changed && !(s.ring q).occupied.isEmpty, St.busy)]

/-- The rules of one register that its own chapter gives, for blocks that have no check function of their own. -/
def State.miscStatus (s : State) (a v : Nat) : Nat :=
  let live := s.liveItems ≠ 0
  let lead := bits v 8 0
  if a = Adr.PWR_MODECMD then s.modeStatus (bits v 2 0)
  else if a = Adr.PWR_WAKECFG then (if bits v 2 0 < 3 || 5 < bits v 2 0 then St.range else 0)
  else if a = Adr.PWR_WDOG then (if bits v 15 0 = 0 then St.range else 0)
  else if a = Adr.PWR_WAKESEND then s.wakesendStatus v
  else if a = Adr.DSP_CQBASE then (if s.mode ≠ 4 || live then St.mode else 0)
  else if a = Adr.DSP_CQCTL then
    firstFail [(bits v 3 0 < 6 || 12 < bits v 3 0, St.range), (s.mode ≠ 4 || live, St.mode)]
  else if a = Adr.DSP_CQRD then (if readBack (s.reg Adr.DSP_CQWR) (s.reg a) v then St.range else 0)
  else if (arrIx a (Adr.DSP_SRCCFG 0) 4 12).isSome then s.srcCfgStatus ((a - Adr.DSP_SRCCFG 0) / 4) v
  else if (arrIx a (Adr.DSP_SRCBASE 0) 4 12).isSome then s.srcBaseStatus ((a - Adr.DSP_SRCBASE 0) / 4) v
  else if a = Adr.BASIN_REPWIN then (if bits v 15 0 = 0 then St.range else 0)
  else if a = Adr.VOICE_WAVEBASE || a = Adr.VOICE_WAVESIZE || a = Adr.VOICE_PATCHBASE then (if s.mode ≠ 4 then St.mode else 0)
  else if a = Adr.VOICE_HASHCTL then (if bit v 0 && s.flag a 1 then St.busy else 0)
  else if (arrIx a (Adr.VOICE_PIN 0) 4 32).isSome then (if s.dbl && bits v 15 8 ≠ 0 then St.reserved else 0)
  else if a = Adr.TRAIL_LEAD then
    firstFail [(!s.leadOk lead, St.range), (s.mode ≠ 4, St.mode)]
  else if a = Adr.TRAIL_ROLE then firstFail [(bits v 1 0 = 3, St.reserved), (s.mode ≠ 4, St.mode)]
  else if a = Adr.TRAIL_SYSID then (if s.mode ≠ 4 then St.mode else 0)
  else if a = Adr.TRAIL_RELAYT then (if bits v 4 0 = 0 || 20 < bits v 4 0 then St.range else 0)
  else if a = Adr.TRAIL_CMDCFG then (if bits v 7 0 = 0 then St.range else 0)
  else if a = Adr.TRAIL_AUTHCTL then (if bits v 1 0 ≠ 0 && !s.flag a 2 then St.auth else 0)
  else if a = Adr.FAULT_CFG then (if bits v 3 0 = 0 || bits v 31 16 = 0 then St.range else 0)
  else if a = Adr.HOST_RPLBASE then (if s.flag Adr.HOST_RPLCTL 0 && v ≠ s.reg a then St.mode else 0)
  else if a = Adr.HOST_RPLCTL then
    firstFail [(4 < bits v 3 1, St.range), (s.flag a 0 && bits v 3 1 ≠ s.fld a 3 1, St.mode)]
  else if a = Adr.HOST_RPLRD then (if readBack (s.reg Adr.HOST_RPLWR) (s.reg a) v then St.range else 0)
  else 0

/-- The rules of one register's own chapter (R459, steps 2 to 4). -/
def State.ownStatus (s : State) (src : Source) (a v : Nat) : Nat :=
  let blk := a / 0x1000 % 16
  if blk = 0x6 then s.speRegStatus a v
  else if blk = 0x8 then
    (if a < 0x02008800 then s.apRegStatus ((a - 0x02008000) / 0x100) (a % 0x100) v
    else if a = Adr.APORT_LOOPCTL then s.loopStatus v else 0)
  else if blk = 0x9 then (if a = Adr.ADAC_CTL then s.adacStatus v else 0)
  else if blk = 0xA then
    match arrIx a (Adr.COUT_CTL 0) 0x20 8 with
    | some c => s.coutStatus c v
    | none => if (arrIx a (Adr.COUT_SLEW 0) 0x20 8).isSome && bits v 15 0 = 0 then St.range else 0
  else if blk = 0xB then s.serRegStatus ((a - 0x0200B000) / 0x100) (a % 0x100) v (srcIsCore src)
  else if blk = 0xC then
    (if a < 0x0200C200 then s.tmrRegStatus ((a - 0x0200C000) / 0x20) (a % 0x20) v
    else s.groupRegStatus ((a - 0x0200C200) / 0x10) (a % 0x10) v)
  else if blk = 0xD then packRegStatus a v
  else s.miscStatus a v

/-- The status of a write of v to the register at address a: the order of R459. DEDUCED (log 59, not safe). -/
def State.regStatus (s : State) (src : Source) (a v : Nat) : Nat :=
  match regRow a with
  | none => St.noaddr
  | some r =>
    let role := s.roleStatus src a v
    let lock := s.lockStatus a v
    if role ≠ 0 then role
    else if r.readOnly then St.readonly
    else if lock ≠ 0 then lock
    else if v &&& (0xFFFFFFFF - r.defined) ≠ 0 then St.reserved
    else if a = Adr.CLK_RATE then (if src = .boot then 0 else St.mode)
    else s.ownStatus src a v

/-! ### Rules over several registers (R458, second pass) -/

/-- Registers that a rule relates, the status of its failure, and whether it fails. -/
abbrev RegRule := List Nat × Nat × Bool

/-- Regions and rings that the chapters judge on the state a whole command leaves (R76, R232, R461). The limits of
VOICE_WAVESIZE are among them, so E_MODE comes before their E_RANGE: DEDUCED (log 60, not safe). DESIGN CHOICE (log 116, not safe). -/
def State.miscRules (s : State) : List RegRule :=
  let wb := s.waveBase
  let ws := s.waveSize
  let pb := s.patchBase
  let cq := s.fld Adr.DSP_CQBASE 23 4 * 16 + 16 * s.cqLen
  let rp := s.fld Adr.HOST_RPLBASE 23 8 * 256 + 256 * 2 ^ s.fld Adr.HOST_RPLCTL 3 1
  [([Adr.VOICE_WAVESIZE], St.range, ws < 0x20000 || 0xB00000 < ws),
   ([Adr.VOICE_WAVEBASE, Adr.VOICE_WAVESIZE], St.range, basinSize < wb + ws),
   ([Adr.VOICE_PATCHBASE], St.range, basinSize < pb + 0x100000),
   ([Adr.VOICE_WAVEBASE, Adr.VOICE_WAVESIZE, Adr.VOICE_PATCHBASE], St.range, overlaps wb ws pb 0x100000),
   ([Adr.DSP_CQBASE, Adr.DSP_CQCTL], St.range, basinSize < cq),
   ([Adr.HOST_RPLBASE, Adr.HOST_RPLCTL], St.range, basinSize < rp)]

/-- Every rule over several registers. -/
def State.regRules (s : State) : List RegRule :=
  s.miscRules ++ s.speRules.map (fun r => (r.1, r.2.1, !r.2.2)) ++ (List.range 8).flatMap s.apRules

/-- The first rule that fails among those that relate a written register: its status, and the lowest written register it relates. -/
def ruleFail (written : List Nat) (rules : List RegRule) : Option (Nat × Nat) :=
  rules.findSome? (fun r =>
    if !r.2.2 then none
    else match written.find? (fun a => r.1.contains a) with
      | some a => some (r.2.1, a)
      | none => none)

/-! ### Accepted writes -/

/-- The stored bits of a register after a write of v: RW bits take v, W1C bits written 1 clear, a counter's SAT clears its COUNT (Table
TL-12), every other bit stays. DEDUCED (log 26, not safe). -/
def State.storeReg (s : State) (r : RegRow) (a v : Nat) : State :=
  let old := s.reg a
  if r.isCounter then (if bit v 31 then s.setReg a 0 else s)
  else
    let kept := old &&& (0xFFFFFFFF - r.rw)
    let x := (v &&& r.rw) ||| (kept &&& (0xFFFFFFFF - (v &&& r.w1c)))
    s.setReg a x

/-- GO (R462): the status, and the state with the event queued. An image of another system is counted and not acted on (R4).
DEDUCED (log 110, not safe). -/
def State.goEvent (s : State) : Nat × State :=
  let a := s.fld Adr.VOICE_EVADR 23 0
  if !inBasin a 1 then (St.range, s)
  else
    let n := (s.memByte a).toNat
    if !inBasin a n then (St.range, s)
    else match s.basinRead Master.host a (Nat.max 1 n) with
      | (none, s) => (St.crc, s)
      | (some b, s) =>
        if (2 ≤ n && !Msg.isEvent (Msg.type b)) || Msg.src b ≠ 0 || Msg.seq b ≠ 0 || Msg.auth b then (St.reserved, s)
        else if msgMalformed b then (St.range, s)
        else if Msg.syschk b ≠ s.fld Adr.TRAIL_SYSID 15 0 then (0, s.count Adr.TRAIL_FOREIGN)
        else
          let r := s.queueEvent { queuedEvent b s.nodeNo true with zone := 0, zd := false }
          if r.1 then (0, r.2) else (St.full, s)

/-- SPE_PCMD (R169, R171): the status. DEDUCED (log 7, not safe). -/
def State.pcmd (s : State) (v : Nat) : Nat × State :=
  let op := bits v 1 0
  if op = 1 then s.speLoad (bits v 16 3) (bit v 2) (s.reg Adr.SPE_PTIMELO + 2 ^ 32 * s.reg Adr.SPE_PTIMEHI)
  else if op = 2 then s.speLoadCancel
  else (0, s)

/-- SPE_CCMD (R164, R167): the status. -/
def State.ccmd (s : State) (v : Nat) : Nat × State :=
  let op := bits v 1 0
  if op = 1 then s.speCommit (s.reg Adr.SPE_CTIMELO + 2 ^ 32 * s.reg Adr.SPE_CTIMEHI) (bit v 2)
  else if op = 2 then s.speCommitCancel
  else if op = 3 then s.speDiscard
  else (0, s)

/-- The LEAD event that a write of TRAIL_LEAD on the trailhead sends: to zone 63, stamped two old leads later (R306). -/
def State.sendLead (s : State) (periods : Nat) : State :=
  let t := s.time + 2 * 512 * s.fld Adr.TRAIL_LEAD 8 0
  s.enqueue (s.hardwareMsg 0x0B 63 0 6 true false false (natLE 8 t ++ natLE 2 periods)) true false

/-- An operation of a command register (R459): the status, and the state after it. pass is the outcome of the known-answer test that a
READMIT runs. DEDUCED (log 61, not safe). -/
def State.command (s : State) (src : Source) (a v : Nat) (pass : Bool) : Nat × State :=
  if a = Adr.SPE_PCMD then s.pcmd v
  else if a = Adr.SPE_CCMD then s.ccmd v
  else if a = Adr.DSP_CMD then s.dspCmd (bits v 1 0) (bits v 25 16)
  else if a = Adr.PACK_UCMD then s.packLocal src (bits v 3 0) (bits v 5 4)
  else if a = Adr.FAULT_CMD then s.faultCmd (bits v 1 0) (bits v 13 8) pass
  else if a = Adr.VOICE_EVCMD then (if bit v 0 then s.goEvent else (0, s))
  else (0, s)

/-- The bits of a coordinate of the node position (R135). -/
def State.coord (s : State) (j : Nat) : Int :=
  if j = 0 then sx 16 (s.fld Adr.VOICE_NODEPOSXY 15 0)
  else if j = 1 then sx 16 (s.fld Adr.VOICE_NODEPOSXY 31 16)
  else sx 16 (s.fld Adr.VOICE_NODEPOSZ 15 0)

/-- An accepted write of a register that holds more than its bits; the rest are stored (storeReg). DEDUCED (log 26, not safe).
DEDUCED (log 62, not safe). -/
def State.regApply (s : State) (r : RegRow) (a v : Nat) : State :=
  let stored := s.storeReg r a v
  let blk := a / 0x1000 % 16
  if a = Adr.SYS_RESET then
    (if s.power.resetAt.isSome then s
     else { s with power := { s.power with resetAt := some (s.clk + s.usTicks 10), reloadBank := 0 } })
  else if a = Adr.PWR_MODECMD then s.acceptMode (bits v 2 0)
  else if a = Adr.PWR_WDOG then s.wdogWrite v
  else if a = Adr.PWR_WAKESEND then s.wakesend v
  else if a = Adr.CLK_RATE then
    (if bit v 0 && !s.fam44 then ((stored.setReg Adr.TRAIL_LEAD 67).setFlag Adr.CLK_STAT 0 false).clockRecord else stored)
  else if a = Adr.DSP_DSEL then s.selectDesc (bits v 9 0)
  else if a = Adr.SPE_STAT then (if bit v 0 then stored.setFld Adr.SPE_STAT 28 16 0 else stored)
  else if a = Adr.VOICE_WAVEBASE || a = Adr.VOICE_WAVESIZE || a = Adr.VOICE_PATCHBASE then
    (if stored.reg a = s.reg a then s else stored.setStale)
  else if a = Adr.VOICE_HASHCTL then (if bit v 0 then s.recalcStart.2 else s)
  else if a = Adr.VOICE_NODEPOSXY then
    (stored.glideNode 0 (s.coord 0) (stored.coord 0)).glideNode 1 (s.coord 1) (stored.coord 1)
  else if a = Adr.VOICE_NODEPOSZ then stored.glideNode 2 (s.coord 2) (stored.coord 2)
  else if a = Adr.TRAIL_LEAD then (if s.booting then stored else s.sendLead (bits v 8 0))
  else if a = Adr.TRAIL_SNAPCTL then
    (if bit v 0 then (s.setReg Adr.TRAIL_SNAPLO (s.time % 2 ^ 32)).setReg Adr.TRAIL_SNAPHI (s.time / 2 ^ 32 % 2 ^ 32) else s)
  else if (arrIx a (Adr.SPE_DLCTL 0) 4 64).isSome then
    (if bit v 2 then stored.startClear ((a - Adr.SPE_DLCTL 0) / 4) else stored)
  else if (arrIx a (Adr.SPE_TAPCTL 0) 4 20).isSome then
    (if bit (s.reg a) 0 && !bit v 0 then stored.setSpe (fun p => { p with tapStop := p.tapStop ++ [(a - Adr.SPE_TAPCTL 0) / 4] }) else stored)
  else match arrIx a (Adr.APORT_CSCTL 0) 0x100 8 with
  | some p => if bit v 0 then stored.setAport p (fun q => { q with csPend := true }) else stored
  | none => match arrIx a (Adr.COUT_CTL 0) 0x20 8 with
  | some c => s.coutWrite c v
  | none => match arrIx a (Adr.COUT_CODE 0) 0x20 8 with
  | some c => s.coutCoded c v
  | none =>
    if blk = 0xB && (a % 0x100 = 0x00 || a % 0x100 = 0x08 || a % 0x100 = 0x14 || a % 0x100 = 0x24 || a % 0x100 = 0x34) then
      s.serRegWrite ((a - 0x0200B000) / 0x100) (a % 0x100) v
    else if blk = 0xC && a < 0x0200C200 && a % 0x20 < 0x10 then s.tmrRegWrite ((a - 0x0200C000) / 0x20) (a % 0x20) v
    else if blk = 0xC && 0x0200C200 ≤ a && a % 0x10 = 0 then s.groupRegWrite ((a - 0x0200C200) / 0x10) 0 v
    else stored

/-- The first pass over one register write (R458): its status by the rules that concern it alone, and the state that it leaves. A refused
write of a command register changes its CODE field alone. DEDUCED (log 61, not safe). -/
def State.regWrite1 (s : State) (src : Source) (a v : Nat) (pass : Bool) : Nat × State :=
  let e := s.regStatus src a v
  if e ≠ 0 then (e, if codeReg a && regRow a ≠ none then s.setCode a e else s)
  else if codeReg a then
    let r := s.command src a v pass
    (r.1, if keepsCode a v then r.2 else r.2.setCode a r.1)
  else match regRow a with
    | some row => (0, s.regApply row a v)
    | none => (St.noaddr, s)

end Sys2Proof.Machine
end

