-- ==== Sys2Proof/Machine/Bus.lean ====
section
/-!
DEFINITION. The address map (R29 to R36): local RAM, voice parameter space, the SPE window and the registers as the host, the Trail
and the cores reach them, and the two passes of a command that writes several words (R458).
-/
namespace Sys2Proof.Machine

/-! ### Places (Table NS-5) -/

/-- What lies at an address. -/
inductive Place where
  | basin
  /-- Local RAM of core k, byte offset; own: reached at 0x00F0_0000. -/
  | lram (k off : Nat) (own : Bool)
  /-- Parameter word of a voice that exists. -/
  | voice (v word : Nat)
  | spe
  | reg
  | unmapped
  deriving DecidableEq, Repr

/-- The place of address a; core: the core that makes the access. -/
def State.place (s : State) (core : Option Nat) (a : Nat) : Place :=
  if a < basinSize then .basin
  else if 0x00F00000 ≤ a && a < 0x00F10000 then
    match core with
    | some k => .lram k (a - 0x00F00000) true
    | none => .unmapped
  else if 0x00F80000 ≤ a && a < 0x01000000 then .lram ((a - 0x00F80000) / 0x10000) (a % 0x10000) false
  else if 0x01000000 ≤ a && a < 0x01100000 then
    let v := (a - 0x01000000) / 0x800
    if v % 16 < s.groupVoices then .voice v (a % 0x800 / 2) else .unmapped
  else if 0x01100000 ≤ a && a < 0x01128400 then .spe
  else if 0x02000000 ≤ a && a < 0x02010000 then .reg
  else .unmapped

/-- Whether the local RAM of core k may be reached from outside (R32). -/
def State.lramOpen (s : State) (k : Nat) : Bool := s.coreRetired k || s.mode = 4

/-- Byte key of local RAM. -/
def lramKey (k off : Nat) : Nat := 0x10000 * k + off

/-- Whether n bytes of local RAM hold an error that cannot be corrected (R181). DEDUCED (log 13, not safe). -/
def State.lramBad (s : State) (key n : Nat) : Bool :=
  (touchedWords key n).any (fun w => s.lramEcc.any (fun e => e.1 = w && e.2))

/-- Bytes of local RAM. -/
def State.lramBytes (s : State) (key n : Nat) : List Byte := (List.range n).map (fun i => Sp.get (fun _ => (0 : Byte)) s.lram (key + i))

/-- A single-bit error in local RAM word w is corrected and counted for the core whose RAM it is (R181). DEDUCED (log 13, not safe). -/
def State.correctRam (s : State) (w : Nat) : State :=
  if s.lramEcc.contains (w, false) then
    let k := w / 0x4000
    s.setCore k { s.coreAt k with ramErrs := (s.coreAt k).ramErrs + 1 }
  else s

/-- The single-bit errors in words of local RAM. -/
def State.correctRams (s : State) (ws : List Nat) : State := ws.foldl State.correctRam s

/-- Bytes stored in local RAM: a word written in full has valid check bits again, and so has one written in part that could be corrected. -/
def State.lramPut (s : State) (key : Nat) (l : List Byte) : State :=
  let fw := fullWords key l.length
  let tw := touchedWords key l.length
  let s := s.correctRams (tw.filter (fun w => !fw.contains w))
  { s with
    lram := putBytes s.lram key l
    lramEcc := s.lramEcc.filter (fun e => !(fw.contains e.1 || (tw.contains e.1 && !e.2))) }

/-! ### Word access by the host and the Trail -/

/-- Who writes a voice word (R131). -/
def vsrcOf : Source → VSrc
  | .trail n => .trailWrite n
  | _ => .localWrite

/-- The core of a source. -/
def coreOf : Source → Option Nat
  | .core k => some k.val
  | _ => none

/-- A read of the word at a multiple of 4 by the host or over the Trail: status, value, state. -/
def State.busRead (s : State) (a : Nat) : Nat × Nat × State :=
  match s.place none a with
  | .basin =>
    match s.basinRead Master.host a 4 with
    | (some b, s) => (0, leNat b, s)
    | (none, s) => (St.crc, 0, s)
  | .lram k off _ =>
    if !s.lramOpen k then (St.mode, 0, s)
    else if s.lramBad (lramKey k off) 4 then (St.crc, 0, s)
    else (0, leNat (s.lramBytes (lramKey k off) 4), s.correctRams (touchedWords (lramKey k off) 4))
  | .voice v w => (0, s.readVWord v w + 65536 * s.readVWord v (w + 1), s)
  | .spe => (0, s.speRead a, s.speHeld a)
  | .reg => let r := s.regRead a; (0, r.1, r.2)
  | .unmapped => (St.noaddr, 0, s)

/-- Reads of n words at ascending addresses, one access a word: the first failure gives the status and its address. -/
def State.busReads : Nat → State → Nat → List Nat → Nat × Nat × List Nat × State
  | 0, s, a, acc => (0, a, acc.reverse, s)
  | n + 1, s, a, acc =>
    match s.busRead a with
    | (0, v, s') => State.busReads n s' (a + 4) (v :: acc)
    | (e, _, s') => (e, a, [], s')

/-- Reads of n words from a, as a command makes them: one that an address rule refuses does nothing (R455); the accesses before a word that
cannot be corrected were made. The status, the address of a failure, the words and the state. -/
def State.readWords (s : State) (a n : Nat) : Nat × Nat × List Nat × State :=
  let r := State.busReads n s a []
  if r.1 = 0 || r.1 = St.crc then r else (r.1, r.2.1, [], s)

/-- The first pass over one word of a write (R458): the rules that concern it alone, and the state that it leaves. pass: the outcome of the
known-answer test that a READMIT runs. -/
def State.busWrite1 (s : State) (src : Source) (a v : Nat) (pass : Bool) : Nat × State :=
  match s.place (coreOf src) a with
  | .basin => let r := s.basinWrite Master.host 0 a (natLE 4 v); (if r.1.lost then St.busy else 0, r.2)
  | .lram k off _ =>
    if coreOf src = some k || s.lramOpen k then (0, s.lramPut (lramKey k off) (natLE 4 v)) else (St.mode, s)
  | .voice n w =>
    let lo := v % 65536
    let hi := v / 65536 % 65536
    let e := firstFail [(wordStatus w lo ≠ 0, wordStatus w lo), (wordStatus (w + 1) hi ≠ 0, wordStatus (w + 1) hi)]
    if e ≠ 0 then (e, s) else (0, s.holdWrite (vsrcOf src) n w [BitVec.ofNat 16 lo, BitVec.ofNat 16 hi])
  | .spe =>
    let e := s.speWriteStatus (srcIsCore src) a v
    if e ≠ 0 then (e, s) else (0, s.speWrite a v)
  | .reg => s.regWrite1 src a v pass
  | .unmapped => (St.noaddr, s)

/-! ### The second pass (R458) -/

/-- The rules over several words of the voices that a command writes: the words it writes to each voice are judged together. -/
def State.voiceRulesFail (s : State) (writes : List (Nat × Nat)) : Option (Nat × Nat) :=
  let halves := writes.flatMap (fun p => match s.place none p.1 with
    | .voice v w => [(1024 * v + w, p.2 % 65536, p.1), (1024 * v + w + 1, p.2 / 65536 % 65536, p.1)]
    | _ => [])
  let voices := (halves.map (fun h => h.1 / 1024)).eraseDups
  voices.findSome? (fun v =>
    let mine := halves.filter (fun h => h.1 / 1024 = v)
    let g (w : Nat) : Nat := match mine.find? (fun h => h.1 = 1024 * v + w) with
      | some h => h.2.1
      | none => s.vWord v w
    match blockRuleFail g (mine.map (fun h => h.1 % 1024)) with
    | some w => (mine.find? (fun h => h.1 = 1024 * v + w)).map (fun h => (St.range, h.2.2))
    | none => none)

/-- The rules over several registers of the blocks that a command writes. No such rule relates a command register. -/
def State.rulesFor (s : State) (writes : List Nat) : List RegRule :=
  if writes.all codeReg then [] else
  let has (b : Nat) : Bool := writes.any (fun a => a / 0x1000 = 0x2000 + b)
  (if has 3 || has 5 || has 15 then s.miscRules else []) ++
  (if has 6 then s.speRules.map (fun r => (r.1, r.2.1, !r.2.2)) else []) ++
  (if has 8 then (List.range 8).flatMap s.apRules else [])

/-- E_BUSY at a Basin address: the word was dropped in a collision (R242), and the command goes on. -/
def wordDropped (status a : Nat) : Bool := status = St.busy && a < basinSize

/-- The first pass over the words of a write, each on the state that the earlier ones would leave: status, address, state. A dropped Basin
word refuses nothing; the first one is named where no word is refused. DEDUCED (log 96, not safe). -/
def State.pass1 (src : Source) (pass : Bool) : State → List (Nat × Nat) → Nat × Nat × State
  | s, [] => (0, 0, s)
  | s, (a, v) :: t =>
    let r := s.busWrite1 src a v pass
    if r.1 = 0 then State.pass1 src pass r.2 t
    else if wordDropped r.1 a then
      let q := State.pass1 src pass r.2 t
      if q.1 = 0 || wordDropped q.1 q.2.1 then (r.1, a, q.2.2) else q
    else (r.1, a, r.2)

/-- Words written at ascending addresses from a, all or none (R458): the status, the address that a failure is charged to, and the state. A
refused write changes the CODE field of the command register that refused it, and nothing else (R459); one that drops a Basin word stores the
others and answers E_BUSY. DEDUCED (log 96, not safe). -/
def State.busWrites (s : State) (src : Source) (a : Nat) (vs : List Nat) (pass : Bool) : Nat × Nat × State :=
  let writes := (List.range vs.length).map (fun i => (a + 4 * i, vs.getD i 0))
  let r := State.pass1 src pass s writes
  let refuse (e at_ : Nat) : Nat × Nat × State := (e, at_, if codeReg at_ && e ≠ 0 then s.setCode at_ e else s)
  let lost := wordDropped r.1 r.2.1
  if r.1 ≠ 0 && !lost then (if codeReg r.2.1 && vs.length = 1 then (r.1, r.2.1, r.2.2) else refuse r.1 r.2.1)
  else match s.voiceRulesFail writes with
  | some (e, at_) => refuse e at_
  | none =>
    match ruleFail (writes.map (·.1)) (r.2.2.rulesFor (writes.map (·.1))) with
    | some (e, at_) => refuse e at_
    | none => (r.1, if lost then r.2.1 else a, if vs.length ≤ 1 then r.2.2 else r.2.2.joinNewHeld s.voice.held.length)

end Sys2Proof.Machine
end

