-- ==== Sys2Proof/Machine/CoreDecode.lean ====
section
/-!
DEFINITION. The encoding of control-core instructions (chapter 06): operand specifiers (Table CC-5), the opcode map's shapes (Table
CC-6), a decoder that reads bytes in order and stops at the first byte that makes the encoding illegal (R187), and an encoder.
-/
namespace Sys2Proof.Machine

/-- Bytes of a size code (Table CC-3). -/
def sizeBytes (c : Nat) : Nat := if c = 4 then 8 else c + 1

/-- Bits used by a size code (Table CC-3). -/
def sizeBits (c : Nat) : Nat := if c = 4 then 56 else 8 * (c + 1)

/-- One operand specifier (Table CC-5). -/
inductive Spec where
  /-- 0x0, short literal. -/
  | lit (v : BitVec 4)
  /-- 0x1, WP + disp8. -/
  | wp8 (d : BitVec 8)
  /-- 0x2, WP + disp16. -/
  | wp16 (d : BitVec 16)
  /-- 0x3, (An). -/
  | ind (n : Fin 4)
  /-- 0x4, (An)+. -/
  | postInc (n : Fin 4)
  /-- 0x5, −(An). -/
  | preDec (n : Fin 4)
  /-- 0x6, disp16(An). -/
  | disp (n : Fin 4) (d : BitVec 16)
  /-- 0x7, disp16(An)[slot]: scale q and slot byte k. -/
  | idx (n q : Fin 4) (k : BitVec 8) (d : BitVec 16)
  /-- 0x8, circular (An): descriptor byte k. -/
  | circ (n : Fin 4) (k : BitVec 8)
  /-- 0x9, absolute. -/
  | abs (a : BitVec 32)
  /-- 0xA, immediate. -/
  | imm (b : List Byte)
  /-- 0xB, PC + disp16. -/
  | pcrel (d : BitVec 16)
  deriving DecidableEq, Repr

/-- How an instruction uses an operand: reads it, writes it, reads and writes it, uses its address, or reads it from
memory only (the x of MACM, R200). -/
inductive Role where
  | src
  | dst
  | rw
  | addr
  | srcMem
  deriving DecidableEq, Repr

/-- The size of an operand: the instruction's SIZE, DSIZE of MOVS and MOVZ, or fixed bytes. -/
inductive OpSize where
  | own
  | dsize
  | bytes (n : Nat)
  deriving DecidableEq, Repr

/-- Use of the fields [9:4] of the opcode word. -/
inductive OptKind where
  /-- Format G, OPT 0. -/
  | zero
  /-- Format G, OPT holds DSIZE. -/
  | dsize
  /-- Format G, OPT[4] holds U. -/
  | u
  /-- Format G, OPT[5:4] holds K. -/
  | k
  /-- Format G, OPT[5:4] holds RM. -/
  | rm
  /-- Format G, OPT[5:4] holds RM, 0 but for .W (R189). -/
  | rmW
  /-- Format N. -/
  | none
  /-- Format N, [6:4] holds P. -/
  | p
  /-- Format C. -/
  | cond
  deriving DecidableEq, Repr

/-- One row of the opcode map (Table CC-6): sizes allowed, use of OPT, operands, whether an extension word follows. -/
structure OpRow where
  sizes : List Nat
  opt : OptKind
  ops : List (Role × OpSize)
  ext : Bool
  deriving DecidableEq, Repr

/-- Operand lists that several rows share. -/
def opsAbD : List (Role × OpSize) := [(.src, .own), (.src, .own), (.dst, .own)]
/-- s, d. -/
def opsSD : List (Role × OpSize) := [(.src, .own), (.dst, .own)]
/-- a, n.B, d. -/
def opsShift : List (Role × OpSize) := [(.src, .own), (.src, .bytes 1), (.dst, .own)]
/-- a, b, acc.A. -/
def opsMac : List (Role × OpSize) := [(.src, .own), (.src, .own), (.rw, .bytes 8)]

/-- The opcode map (R188): none for a reserved MAJOR. -/
def opRow (major : Nat) : Option OpRow :=
  match major with
  | 0x01 => some ⟨[], .none, [], false⟩
  | 0x02 => some ⟨[0, 1, 2, 3, 4], .zero, opsSD, false⟩
  | 0x03 => some ⟨[0, 1, 2, 3], .dsize, [(.src, .own), (.dst, .dsize)], false⟩
  | 0x04 => some ⟨[0, 1, 2, 3], .dsize, [(.src, .own), (.dst, .dsize)], false⟩
  | 0x05 => some ⟨[0, 1, 2, 3, 4], .zero, [(.dst, .own)], false⟩
  | 0x06 => some ⟨[0, 1, 2, 3, 4], .zero, [(.addr, .own), (.dst, .bytes 4)], false⟩
  | 0x07 => some ⟨[], .p, [(.src, .bytes 4)], false⟩
  | 0x08 => some ⟨[], .p, [(.dst, .bytes 4)], false⟩
  | 0x09 => some ⟨[], .none, [(.src, .bytes 4)], false⟩
  | 0x0A => some ⟨[], .none, [(.dst, .bytes 4)], false⟩
  | 0x0B => some ⟨[3], .zero, [(.rw, .own), (.src, .own), (.rw, .own)], false⟩
  | 0x0C => some ⟨[3], .zero, [(.src, .own), (.rw, .own), (.dst, .own)], false⟩
  | 0x0D => some ⟨[0, 1, 2, 3, 4], .zero, opsAbD, false⟩
  | 0x0E => some ⟨[0, 1, 2, 3], .zero, opsAbD, false⟩
  | 0x0F => some ⟨[0, 1, 2, 3, 4], .zero, opsAbD, false⟩
  | 0x10 => some ⟨[0, 1, 2, 3], .zero, opsAbD, false⟩
  | 0x11 => some ⟨[0, 1, 2, 3], .zero, opsAbD, false⟩
  | 0x12 => some ⟨[0, 1, 2, 3], .zero, opsAbD, false⟩
  | 0x13 => some ⟨[0, 1, 2, 3, 4], .zero, opsSD, false⟩
  | 0x14 => some ⟨[0, 1, 2, 3, 4], .zero, opsSD, false⟩
  | 0x15 => some ⟨[0, 1, 2, 3, 4], .zero, [(.src, .own), (.src, .own)], false⟩
  | 0x16 => some ⟨[0, 1, 2, 3, 4], .zero, [(.src, .own)], false⟩
  | 0x17 => some ⟨[0, 1, 2, 3], .u, opsAbD, false⟩
  | 0x18 => some ⟨[0, 1, 2, 3], .u, opsAbD, false⟩
  | 0x19 => some ⟨[0, 1, 2, 3], .zero, opsAbD, false⟩
  | 0x1A => some ⟨[0, 1, 2, 3], .k, opsAbD, false⟩
  | 0x1B => some ⟨[0, 1, 2, 3], .zero, opsAbD, false⟩
  | 0x1C => some ⟨[0, 1, 2, 3], .zero, opsAbD, false⟩
  | 0x1D => some ⟨[0, 1, 2, 3], .zero, opsAbD, false⟩
  | 0x1E => some ⟨[0, 1, 2, 3], .zero, opsAbD, false⟩
  | 0x1F => some ⟨[0, 1, 2, 3], .zero, opsSD, false⟩
  | 0x20 => some ⟨[0, 1, 2, 3, 4], .zero, opsShift, false⟩
  | 0x21 => some ⟨[0, 1, 2, 3], .zero, opsShift, false⟩
  | 0x22 => some ⟨[0, 1, 2, 3, 4], .zero, opsShift, false⟩
  | 0x23 => some ⟨[0, 1, 2, 3], .zero, opsShift, false⟩
  | 0x24 => some ⟨[0, 1, 2, 3, 4], .zero, opsSD, true⟩
  | 0x25 => some ⟨[0, 1, 2, 3, 4], .zero, [(.src, .own), (.rw, .own)], true⟩
  | 0x26 => some ⟨[0, 1, 2, 3], .zero, [(.src, .own), (.dst, .bytes 1)], false⟩
  | 0x27 => some ⟨[0, 1, 2, 3, 4], .zero, [(.src, .own), (.dst, .bytes 1)], false⟩
  | 0x28 => some ⟨[3], .zero, opsAbD, true⟩
  | 0x29 => some ⟨[1, 2, 3], .zero, [(.src, .own), (.dst, .bytes 8)], false⟩
  | 0x2A => some ⟨[1, 2, 3], .rm, [(.src, .bytes 8), (.dst, .own)], false⟩
  | 0x2B => some ⟨[1, 2, 3], .rm, opsAbD, false⟩
  | 0x2C => some ⟨[1, 2, 3], .rmW, opsMac, false⟩
  | 0x2D => some ⟨[1, 2, 3], .rmW, opsMac, false⟩
  | 0x2E => some ⟨[1, 2, 3], .rmW, [(.src, .own), (.srcMem, .own), (.rw, .bytes 8)], false⟩
  | 0x30 => some ⟨[], .cond, [(.addr, .bytes 1)], false⟩
  | 0x31 => some ⟨[], .none, [(.addr, .bytes 1), (.dst, .bytes 4)], false⟩
  | 0x32 => some ⟨[], .none, [(.src, .bytes 4)], false⟩
  | 0x33 => some ⟨[], .none, [(.src, .bytes 1)], false⟩
  | 0x34 => some ⟨[], .none, [(.addr, .bytes 1), (.dst, .bytes 4)], false⟩
  | 0x35 => some ⟨[], .none, [(.src, .bytes 2), (.dst, .bytes 1)], false⟩
  | 0x36 => some ⟨[], .none, [(.src, .bytes 2), (.dst, .bytes 1)], false⟩
  | 0x37 => some ⟨[], .none, [(.addr, .bytes 1), (.dst, .bytes 1)], false⟩
  | 0x38 => some ⟨[], .none, [(.dst, .bytes 8)], false⟩
  | 0x39 => some ⟨[], .none, [(.dst, .bytes 4)], false⟩
  | 0x3A => some ⟨[], .none, [(.src, .bytes 1)], false⟩
  | _ => none

/-- A decoded instruction: its opcode word, its extension word (0 where none follows), its operands. -/
structure CoreInstr where
  word : BitVec 16
  ext : BitVec 16
  ops : List Spec
  deriving DecidableEq, Repr

/-- MAJOR of an opcode word. -/
def majorOf (w : Nat) : Nat := bits w 15 10
/-- MAJOR. -/
def CoreInstr.major (i : CoreInstr) : Nat := majorOf i.word.toNat
/-- SIZE. -/
def CoreInstr.size (i : CoreInstr) : Nat := bits i.word.toNat 9 7
/-- OPT [6:4]. -/
def CoreInstr.opt (i : CoreInstr) : Nat := bits i.word.toNat 6 4
/-- COND. -/
def CoreInstr.cond (i : CoreInstr) : Nat := bits i.word.toNat 9 6

/-- Bytes of an operand, for SIZE and OPT of the opcode word w. -/
def OpSize.of (w : Nat) : OpSize → Nat
  | .own => sizeBytes (bits w 9 7)
  | .dsize => sizeBytes (bits w 6 4)
  | .bytes n => n

/-- Whether the opcode word is listed (R189): SIZE, OPT and unused fields. -/
def wordLegal (w : Nat) (r : OpRow) : Bool :=
  let size := bits w 9 7
  let opt := bits w 6 4
  bits w 3 0 = 0 &&
  match r.opt with
  | .zero => r.sizes.contains size && opt = 0
  | .dsize => r.sizes.contains size && size < opt && opt ≤ 4
  | .u => r.sizes.contains size && opt ≤ 1
  | .k => r.sizes.contains size && opt ≤ 3
  | .rm => r.sizes.contains size && opt ≤ 3
  | .rmW => r.sizes.contains size && (if size = 3 then opt ≤ 3 else opt = 0)
  | .none => size = 0 && opt = 0
  | .p => size = 0 && opt ≤ 4
  | .cond => bits w 5 4 = 0 && bits w 9 6 ≠ 15

/-- Whether the extension word of MAJOR m and SIZE is legal (R195, R197). -/
def extLegal (m size e : Nat) : Bool :=
  if m = 0x28 then bits e 15 12 = 0
  else bits e 5 0 + bits e 11 6 + 1 ≤ sizeBits size && bits e 15 13 = 0 && !(m = 0x25 && bit e 12)

/-- Bytes that follow a specifier byte of a mode, for an operand of s bytes (Table CC-5). -/
def specTail (mode s : Nat) : Nat :=
  match mode with
  | 0x1 => 1
  | 0x2 => 2
  | 0x6 => 2
  | 0x7 => 3
  | 0x8 => 1
  | 0x9 => 4
  | 0xA => s
  | 0xB => 2
  | _ => 0

/-- Whether MODE and LOW are listed for an operand of a role (R185, R187). -/
def specLegal (mode low : Nat) (r : Role) : Bool :=
  let memory := mode ≠ 0x0 && mode ≠ 0xA
  (r = .src || memory) &&
  match mode with
  | 0x0 => true
  | 0x1 => low = 0
  | 0x2 => low = 0
  | 0x3 => low < 4
  | 0x4 => low < 4
  | 0x5 => low < 4
  | 0x6 => low < 4
  | 0x7 => true
  | 0x8 => low < 4
  | 0x9 => low = 0
  | 0xA => low = 0
  | 0xB => low = 0
  | _ => false

/-- The two bits of a specifier's LOW that name a pointer. -/
def ptrOf (low : Nat) : Fin 4 := ⟨low % 4, Nat.mod_lt _ (by decide)⟩

/-- The scale of mode 0x7. -/
def scaleOf (low : Nat) : Fin 4 := ⟨low / 4 % 4, Nat.mod_lt _ (by decide)⟩

/-- The specifier of MODE, LOW and the bytes that follow. -/
def mkSpec (mode low : Nat) (t : List Byte) : Spec :=
  match mode with
  | 0x1 => .wp8 (BitVec.ofNat 8 (leNat t))
  | 0x2 => .wp16 (BitVec.ofNat 16 (leNat t))
  | 0x3 => .ind (ptrOf low)
  | 0x4 => .postInc (ptrOf low)
  | 0x5 => .preDec (ptrOf low)
  | 0x6 => .disp (ptrOf low) (BitVec.ofNat 16 (leNat t))
  | 0x7 => .idx (ptrOf low) (scaleOf low) (BitVec.ofNat 8 (byteAt t 0)) (BitVec.ofNat 16 (leNat (t.drop 1)))
  | 0x8 => .circ (ptrOf low) (BitVec.ofNat 8 (leNat t))
  | 0x9 => .abs (BitVec.ofNat 32 (leNat t))
  | 0xA => .imm t
  | 0xB => .pcrel (BitVec.ofNat 16 (leNat t))
  | _ => .lit (BitVec.ofNat 4 low)

/-- What a run of an instruction's first bytes says. -/
inductive Dec where
  /-- The instruction, and its length in bytes. -/
  | done (i : CoreInstr) (len : Nat)
  /-- The next byte is needed. -/
  | more
  /-- No legal instruction begins so. -/
  | illegal
  deriving DecidableEq, Repr

/-- The longest instruction (R187). -/
def maxInstr : Nat := 14

/-- Reads the specifiers of the operands left, off bytes into the instruction. -/
def decodeOps (w : Nat) : List (Role × OpSize) → Nat → List Byte → List Spec → Option (List Spec × Nat) ⊕ Bool
  | [], off, _, acc => .inl (some (acc.reverse, off))
  | (r, z) :: rest, off, bs, acc =>
    if maxInstr < off + 1 + rest.length then .inr true
    else match bs with
      | [] => .inr false
      | b :: t =>
        let mode := bits b.toNat 7 4
        let low := bits b.toNat 3 0
        let n := specTail mode (z.of w)
        if !specLegal mode low r || maxInstr < off + 1 + n + rest.length then .inr true
        else if t.length < n then .inr false
        else decodeOps w rest (off + 1 + n) (t.drop n) (mkSpec mode low (t.take n) :: acc)

/-- Decodes the specifiers and forms the instruction. -/
def decodeTail (w e : Nat) (r : OpRow) (off : Nat) (bs : List Byte) : Dec :=
  match decodeOps w r.ops off bs [] with
  | .inl (some (l, n)) => .done ⟨BitVec.ofNat 16 w, BitVec.ofNat 16 e, l⟩ n
  | .inl none => .illegal
  | .inr true => .illegal
  | .inr false => .more

/-- Decodes an instruction from its first bytes, in order (R187): illegal as soon as no legal instruction begins with
them. A first byte whose low four bits are not 0, or whose [6:4] is 5 to 7, begins none (Tables CC-4 and CC-6). -/
def decodeCore (bs : List Byte) : Dec :=
  match bs with
  | [] => .more
  | b0 :: bs =>
    if bits b0.toNat 3 0 ≠ 0 || 5 ≤ bits b0.toNat 6 4 then .illegal
    else match bs with
      | [] => .more
      | b1 :: bs =>
        let w := b0.toNat + 256 * b1.toNat
        match opRow (majorOf w) with
        | none => .illegal
        | some r =>
          if !wordLegal w r then .illegal
          else if r.ext then
            match bs with
            | [] => .more
            | e0 :: bs =>
              if majorOf w ≠ 0x28 && sizeBits (bits w 9 7) < bits e0.toNat 5 0 + bits e0.toNat 7 6 + 1 then .illegal
              else match bs with
                | [] => .more
                | e1 :: bs =>
                  let e := e0.toNat + 256 * e1.toNat
                  if !extLegal (majorOf w) (bits w 9 7) e then .illegal else decodeTail w e r 4 bs
          else decodeTail w 0 r 2 bs

/-! ### Encoder -/

/-- MODE of a specifier. -/
def Spec.mode : Spec → Nat
  | .lit _ => 0x0
  | .wp8 _ => 0x1
  | .wp16 _ => 0x2
  | .ind _ => 0x3
  | .postInc _ => 0x4
  | .preDec _ => 0x5
  | .disp _ _ => 0x6
  | .idx _ _ _ _ => 0x7
  | .circ _ _ => 0x8
  | .abs _ => 0x9
  | .imm _ => 0xA
  | .pcrel _ => 0xB

/-- LOW of a specifier. -/
def Spec.low : Spec → Nat
  | .lit v => v.toNat
  | .ind n => n.val
  | .postInc n => n.val
  | .preDec n => n.val
  | .disp n _ => n.val
  | .idx n q _ _ => n.val + 4 * q.val
  | .circ n _ => n.val
  | _ => 0

/-- The bytes that follow the specifier byte. -/
def Spec.tail : Spec → List Byte
  | .wp8 d => natLE 1 d.toNat
  | .wp16 d => natLE 2 d.toNat
  | .disp _ d => natLE 2 d.toNat
  | .idx _ _ k d => natLE 1 k.toNat ++ natLE 2 d.toNat
  | .circ _ k => natLE 1 k.toNat
  | .abs a => natLE 4 a.toNat
  | .imm b => b
  | .pcrel d => natLE 2 d.toNat
  | _ => []

/-- The bytes of a specifier. -/
def Spec.encode (p : Spec) : List Byte := BitVec.ofNat 8 (16 * p.mode + p.low) :: p.tail

/-- The bytes of an instruction. -/
def encodeCore (i : CoreInstr) : List Byte :=
  let e := match opRow i.major with
    | some r => if r.ext then natLE 2 i.ext.toNat else []
    | none => []
  natLE 2 i.word.toNat ++ e ++ i.ops.flatMap Spec.encode

/-- Whether a specifier is one that an operand of a role and size may have. -/
def Spec.wf (p : Spec) (r : Role) (n : Nat) : Bool :=
  specLegal p.mode p.low r &&
  match p with
  | .imm b => b.length = n
  | _ => true

/-- Whether every operand is one its place may have. -/
def opsWf (w : Nat) : List (Role × OpSize) → List Spec → Bool
  | [], [] => true
  | (r, z) :: rs, p :: ps => p.wf r (z.of w) && opsWf w rs ps
  | _, _ => false

/-- Whether an instruction is one that Tables CC-4 to CC-6 list (R189) and at most 14 bytes long (R187). -/
def CoreInstr.wf (i : CoreInstr) : Bool :=
  match opRow i.major with
  | none => false
  | some r =>
    wordLegal i.word.toNat r && (if r.ext then extLegal i.major i.size i.ext.toNat else i.ext = 0) &&
    opsWf i.word.toNat r.ops i.ops && (encodeCore i).length ≤ maxInstr

end Sys2Proof.Machine
end

