-- ==== Sys2Proof/Machine/Flags.lean ====
section
/-!
DEFINITION. The results and flags of the control cores' data instructions (R179, R188, R191 to R200), on operand codes of a given
width, and the branch conditions (R190). No state is read or written here.
-/
namespace Sys2Proof.Machine

/-- A result, the flags it sets (none: unchanged), and the sticky bits it sets. -/
structure CRes where
  val : Nat
  c : Option Bool := none
  v : Option Bool := none
  z : Option Bool := none
  n : Option Bool := none
  sat : Bool := false
  gov : Bool := false
  deriving DecidableEq, Repr

/-- Bit positions of SW (Table CC-2). -/
def swPut (sw i : Nat) (o : Option Bool) : Nat :=
  match o with
  | none => sw
  | some b => putBit sw i b

/-- SW after a result: C, V, Z, N as set, SAT and GOV sticky (R179). -/
def CRes.sw (r : CRes) (sw : Nat) : Nat :=
  let sw := swPut (swPut (swPut (swPut sw 0 r.c) 1 r.v) 2 r.z) 3 r.n
  let sw := if r.sat then putBit sw 4 true else sw
  if r.gov then putBit sw 5 true else sw

/-- A result code of w bits with Z and N set from it. -/
def resZN (w : Nat) (x : Int) : CRes :=
  let v := ux w x
  { val := v, z := some (v = 0), n := some (bit v (w - 1)) }

/-- a + b + cin in w bits (R191): C is the carry, V the signed overflow; a wrap in 56 bits sets GOV. -/
def addRes (w a b cin : Nat) : CRes :=
  let exact := sx w a + sx w b + cin
  let r := resZN w exact
  { r with c := some (2 ^ w ≤ a + b + cin), v := some (ovfS w exact), gov := w = 56 && ovfS w exact }

/-- a − b − bin in w bits (R191): C is the borrow. -/
def subRes (w a b bin : Nat) : CRes :=
  let exact := sx w a - sx w b - bin
  let r := resZN w exact
  { r with c := some (a < b + bin), v := some (ovfS w exact), gov := w = 56 && ovfS w exact }

/-- The Z rule of ADDC and SUBC (R192): cleared by a non-zero result, else unchanged. -/
def CRes.chainZ (r : CRes) : CRes := { r with z := if r.val = 0 then none else some false }

/-- The result of CMP: the flags alone; nothing is kept, so GOV is not set. -/
def CRes.compare (r : CRes) : CRes := { r with gov := false }

/-- A signed saturated result (ADDS, SUBS): C 0, V and SAT when saturated. -/
def satRes (w : Nat) (exact : Int) : CRes :=
  { resZN w (satS w exact) with c := some false, v := some (ovfS w exact), sat := ovfS w exact }

/-- |a|; the most negative value stays, with V set (ABS). -/
def absRes (w a : Nat) : CRes :=
  let x := (sx w a).natAbs
  { resZN w x with c := some false, v := some (ovfS w x), gov := w = 56 && ovfS w x }

/-- Flags of s (TST). -/
def tstRes (w a : Nat) : CRes := { resZN w (sx w a) with c := some false, v := some false }

/-- MIN and MAX: the smaller or larger operand, signed or unsigned. -/
def minMaxRes (w : Nat) (max unsigned : Bool) (a b : Nat) : CRes :=
  let less := if unsigned then decide (a < b) else decide (sx w a < sx w b)
  resZN w (if less != max then a else b)

/-- MUL: the low bits; V when the signed product does not fit. -/
def mulRes (w a b : Nat) : CRes :=
  let p := sx w a * sx w b
  { resZN w p with c := some false, v := some (ovfS w p) }

/-- DIV by K (R194); none when b = 0. -/
def divRes (w k a b : Nat) : Option CRes :=
  if b = 0 then none else
  let x := sx w a
  let y := sx w b
  let q : Int := Int.tdiv x y
  let exact : Int :=
    if k = 0 then q else if k = 1 then (a / b : Nat) else if k = 2 then Int.tmod x y else (a % b : Nat)
  let v := (k = 0 || k = 2) && ovfS w q
  some { resZN w exact with c := some false, v := some v }

/-- A bitwise result: V 0, C unchanged. -/
def logicRes (w x : Nat) : CRes := { resZN w x with v := some false }

/-- SHL by n (R193). -/
def shlRes (w a n : Nat) : CRes :=
  let exact := sx w a * ((2 ^ n : Nat) : Int)
  let c := if n = 0 then none else some (n ≤ w && bit a (w - n))
  { resZN w exact with c := c, v := some (ovfS w exact), gov := w = 56 && ovfS w exact }

/-- SHR by n (R193). -/
def shrRes (w a n : Nat) : CRes :=
  let c := if n = 0 then none else some (bit a (n - 1))
  { resZN w ((a >>> n : Nat) : Int) with c := c, v := some false }

/-- SAR by n (R193). -/
def sarRes (w a n : Nat) : CRes :=
  let c := if n = 0 then none else some (bit (ux w (sarI (sx w a) (n - 1))) 0)
  { resZN w (sarI (sx w a) n) with c := c, v := some false }

/-- ROL by n (R193). -/
def rolRes (w a n : Nat) : CRes :=
  let m := n % w
  let r := (a * 2 ^ m + a / 2 ^ (w - m)) % 2 ^ w
  { resZN w r with c := if m = 0 then none else some (bit r 0), v := some false }

/-- BFX (R195). -/
def bfxRes (w a ext : Nat) : CRes :=
  let wd := bits ext 11 6 + 1
  let f := bits a (bits ext 5 0 + wd - 1) (bits ext 5 0)
  resZN w (if bit ext 12 then sx wd f else f)

/-- BFI of s into d (R195). -/
def bfiRes (w s d ext : Nat) : CRes :=
  let wd := bits ext 11 6 + 1
  resZN w (putBits d (bits ext 5 0 + wd - 1) (bits ext 5 0) s)

/-- Bits of a number: 0 for 0, else one more than its highest set bit. -/
def bitLen (n : Nat) : Nat := if n = 0 then 0 else n.log2 + 1

/-- CLZ (R196): C when s = 0; Z when the count is 0; N 0. -/
def clzRes (w a : Nat) : CRes :=
  let n := w - bitLen a
  { val := n, c := some (a = 0), z := some (n = 0), n := some false }

/-- CLS (R196). -/
def clsRes (w a : Nat) : CRes :=
  let x := sx w a
  let m := if x < 0 then (-x - 1).toNat else x.toNat
  let n := w - 1 - bitLen m
  { val := n, c := some false, z := some (n = 0), n := some false }

/-- PERM (R197): byte i of d is source byte SEL[3i + 2:3i]. -/
def permRes (a b sel : Nat) : CRes :=
  let src := natLE 4 a ++ natLE 4 b
  let pick (i : Nat) : Byte := src.getD (bits sel (3 * i + 2) (3 * i)) 0
  resZN 32 (leNat [pick 0, pick 1, pick 2, pick 3])

/-! ### Fractions (Table SP-2, R198) -/

/-- Fraction bits of a fractional size (R198): w − 1. -/
def fracBits (w : Nat) : Nat := w - 1

/-- FTOA: s widened exactly to Q10.46. -/
def ftoaRes (w a : Nat) : CRes := resZN 56 (sx w a * ((2 ^ (46 - fracBits w) : Nat) : Int))

/-- RNDA: an accumulator rounded to the size and saturated. -/
def rndaRes (w rm a : Nat) : CRes :=
  let x := roundRM rm (sx 56 a) (46 - fracBits w)
  { resZN w (satS w x) with v := some (ovfS w x), sat := ovfS w x }

/-- MULF: the product rounded to f fraction bits and saturated. -/
def mulfRes (w rm a b : Nat) : CRes :=
  let x := roundRM rm (sx w a * sx w b) (fracBits w)
  { resZN w (satS w x) with v := some (ovfS w x), sat := ovfS w x }

/-- The product of MACF, MSCF and MACM in Q10.46: exact for .H and .T, rounded to 46 fraction bits by RM for .W. -/
def macProduct (w rm a b : Nat) : Int :=
  let p := sx w a * sx w b
  let f2 := 2 * fracBits w
  if f2 ≤ 46 then p * ((2 ^ (46 - f2) : Nat) : Int) else roundRM rm p (f2 - 46)

/-- acc ± product, modular in 56 bits; a wrap sets V and GOV. -/
def accRes (acc : Nat) (delta : Int) : CRes :=
  let x := sx 56 acc + delta
  { resZN 56 x with v := some (ovfS 56 x), gov := ovfS 56 x }

/-! ### Branch conditions (R190) -/

/-- Whether COND holds for SW (Table CC-7). -/
def condHolds (cond sw : Nat) : Bool :=
  let c := bit sw 0
  let v := bit sw 1
  let z := bit sw 2
  let n := bit sw 3
  match cond with
  | 0 => true
  | 1 => z
  | 2 => !z
  | 3 => c
  | 4 => !c
  | 5 => n
  | 6 => !n
  | 7 => v
  | 8 => !v
  | 9 => !c && !z
  | 10 => c || z
  | 11 => n == v
  | 12 => n != v
  | 13 => !z && (n == v)
  | 14 => z || (n != v)
  | _ => false

end Sys2Proof.Machine
end

