-- ==== Sys2Proof/Machine/CoreExec.lean ====
section
/-!
DEFINITION. Execution of control-core instructions (R177 to R211, R485 to R488): memory as a core sees it, operand specifiers, fetch, traps, cycles,
the ends of items, and one meaning per instruction. A row carries the core alone; it acts when the instruction at that core's PC is the
row's, and changes nothing otherwise.
-/
namespace Sys2Proof.Machine

/-! ### The instruction being executed -/

/-- Where an operand stands: a value in the instruction, or an address. -/
inductive Loc where
  | val (v : Nat)
  | at (a : Nat)
  deriving DecidableEq, Repr

/-- A trap found: the place in the order of R210 (an operand's number, 100 for the values computed), the end code, and the unit whose local RAM
caused it (R211). -/
structure CTrap where
  place : Nat
  code : Nat
  unit : Option Nat
  deriving DecidableEq, Repr

/-- An instruction being executed: the state with its writes, its opcode word's address, the PC and registers that it leaves, the first trap
found, the words read under error detection (those of local RAM from lramWord on), the cost of the words touched (Table CC-8), whether a
write was dropped in a collision (R182), and the end of the item if it ends one: end code and status. -/
structure CX where
  s : State
  k : Fin 8
  instr : CoreInstr
  pc : Nat
  next : Nat
  ptr : List Nat
  wp : Nat
  sw : Nat
  ops : List (Loc × Nat)
  trap : Option CTrap
  words : List Nat
  cost : Nat
  lost : Bool
  ending : Option (Nat × Nat)
  deriving DecidableEq, Repr

/-- A trap is found; the first in the order of R210 is kept. DEDUCED (log 10, not safe). -/
def CX.fail (x : CX) (place code : Nat) (unit : Option Nat) : CX :=
  match x.trap with
  | none => { x with trap := some ⟨place, code, unit⟩ }
  | some t => if place < t.place then { x with trap := some ⟨place, code, unit⟩ } else x

/-- An address, modulo 2^32. -/
def addr32 (a : Int) : Nat := ux 32 a

/-- The parts of n bytes at a that lie in one 32-bit word each (R181). The first argument bounds the parts. DEDUCED (log 9, not safe). -/
def wordParts : Nat → Nat → Nat → List (Nat × Nat)
  | 0, _, _ => []
  | f + 1, a, n =>
    if n = 0 then [] else
    let m := Nat.min n (4 - a % 4)
    (a, m) :: wordParts f ((a + m) % 2 ^ 32) (n - m)

/-- The 32-bit word of voice parameters that holds word w. -/
def State.voicePair (s : State) (v w : Nat) : Nat :=
  let e := w / 2 * 2
  s.readVWord v e + 65536 * s.readVWord v (e + 1)

/-- The bytes of a 32-bit word that an access of n bytes at a reads. -/
def partOf (word a n : Nat) : List Byte := ((natLE 4 word).drop (a % 4)).take n

/-- A 32-bit word with the bytes of an access at a replaced. -/
def mergePart (word a : Nat) (l : List Byte) : Nat :=
  let b := natLE 4 word
  leNat (b.take (a % 4) ++ l ++ b.drop (a % 4 + l.length))

/-- Number of local RAM word 0 in a list of words under error detection: Basin words lie below. -/
def lramWord : Nat := 2 ^ 24

/-- Error detection on words that core k reads: the Basin's are corrected or counted (R244), those of local RAM corrected (R181). -/
def State.checkTouched (s : State) (k : Nat) (words : List Nat) : State :=
  words.foldl (fun s w => if w < lramWord then (s.checkWords (Master.core k) [w]).2 else s.correctRam (w - lramWord)) s

/-- Error detection on words of local RAM. -/
def CX.noteRam (x : CX) (key n : Nat) : CX :=
  let ws := touchedWords key n
  { x with s := x.s.correctRams ws, words := x.words ++ ws.map (· + lramWord) }

/-- Error detection on a Basin word. -/
def CX.noteWord (x : CX) (w : Nat) : CX := { x with words := x.words ++ [w] }

/-- A cost. -/
def CX.spend (x : CX) (n : Nat) : CX := { x with cost := x.cost + n }

/-- Bytes where an access failed. -/
def noBytes (n : Nat) : List Byte := List.replicate n 0

/-- One access that reads n bytes of one word for operand i, whole: the operand is one aligned .W. -/
def CX.readPart (x : CX) (i a n : Nat) (whole : Bool) : List Byte × CX :=
  match x.s.place (some x.k.val) a with
  | .basin =>
    let r := x.s.basinRead (Master.core x.k.val) a n
    let x := ({ x with s := r.2 }.noteWord (a / 4)).spend 20
    match r.1 with
    | some b => (b, x)
    | none => (noBytes n, x.fail i 0x14 none)
  | .lram c off own =>
    let x := x.spend (if c = x.k.val then 1 else 20)
    if !(own || c = x.k.val || x.s.lramOpen c) then (noBytes n, x.fail i 0x11 none)
    else if x.s.lramBad (lramKey c off) n then (noBytes n, x.fail i 0x14 (some (56 + c)))
    else (x.s.lramBytes (lramKey c off) n, x.noteRam (lramKey c off) n)
  | .voice v w => (partOf (x.s.voicePair v w) a n, x.spend 24)
  | .spe => (partOf (x.s.speRead (a / 4 * 4)) a n, { x with s := x.s.speHeld a }.spend 24)
  | .reg =>
    if whole then
      let r := x.s.regRead a
      (natLE 4 r.1, { x with s := r.2 }.spend 12)
    else (noBytes n, x.fail i 0x11 none)
  | .unmapped => (noBytes n, x.fail i 0x11 none)

/-- Reads n bytes at a for operand i, one access a word. DEDUCED (log 9, not safe). -/
def CX.read (x : CX) (i a n : Nat) : List Byte × CX :=
  let whole := n = 4 && a % 4 = 0
  (wordParts (n + 1) a n).foldl (fun (p : List Byte × CX) q =>
    let r := p.2.readPart i q.1 q.2 whole
    (p.1 ++ r.1, r.2)) (([] : List Byte), x)

/-- A write of voice words by a core (R25, R38): the words that it touches, checked together. -/
def CX.writeVoice (x : CX) (i v w a : Nat) (l : List Byte) : CX :=
  let e := w / 2 * 2
  let word := mergePart (x.s.voicePair v w) a l
  let lo := a % 4 < 2
  let hi := 2 < a % 4 + l.length
  let g (j : Nat) : Nat :=
    if j = e && lo then word % 65536 else if j = e + 1 && hi then word / 65536 else x.s.vWord v j
  let touched := (if lo then [e] else []) ++ (if hi then [e + 1] else [])
  let bad := touched.any (fun j => wordStatus j (g j) ≠ 0) || (blockRuleFail g touched).isSome
  if bad then x.fail i 0x11 none
  else { x with s := x.s.holdWrite .localWrite v (touched.headD e) (touched.map (fun j => BitVec.ofNat 16 (g j))) }

/-- A Basin write of the core met a collision: COL is set, and the core continues (R182). -/
def CX.dropped (x : CX) : CX := { x with sw := putBit x.sw 6 true, lost := true }

/-- One access that writes bytes of one word for operand i. -/
def CX.writePart (x : CX) (i a : Nat) (l : List Byte) (whole : Bool) : CX :=
  match x.s.place (some x.k.val) a with
  | .basin =>
    let r := x.s.writePart (Master.core x.k.val) 0 a l
    let x := { x with s := r.2 }.spend 20
    let x := if l.length = 4 then x else x.noteWord (a / 4)
    if r.1.bad then x.fail i 0x14 none else if r.1.lost then x.dropped else x
  | .lram c off own =>
    let x := x.spend (if c = x.k.val then 1 else 20)
    if !(own || c = x.k.val || x.s.lramOpen c) then x.fail i 0x11 none
    else if l.length ≠ 4 && x.s.lramBad (lramKey c off) l.length then x.fail i 0x14 (some (56 + c))
    else { x with s := x.s.lramPut (lramKey c off) l }
  | .voice v w => (x.writeVoice i v w a l).spend 24
  | .spe =>
    let word := mergePart (x.s.speRead (a / 4 * 4)) a l
    let x := x.spend 24
    if x.s.speWriteStatus true (a / 4 * 4) word ≠ 0 then x.fail i 0x11 none
    else { x with s := x.s.speWrite (a / 4 * 4) word }
  | .reg =>
    if whole then
      let d := x.s.draw
      let r := d.2.busWrites (.core x.k) a [leNat l] (d.1 % 2 = 1)
      let x := x.spend 12
      if r.1 ≠ 0 && (!codeReg a || a = Adr.DSP_CMD) then x.fail i 0x11 none else { x with s := r.2.2 }
    else x.fail i 0x11 none
  | .unmapped => x.fail i 0x11 none

/-- Writes bytes at a for operand i, one access a word, in ascending order. -/
def CX.write (x : CX) (i a : Nat) (l : List Byte) : CX :=
  let whole := l.length = 4 && a % 4 = 0
  ((wordParts (l.length + 1) a l.length).foldl (fun (p : List Byte × CX) q =>
    (p.1.drop q.2, p.2.writePart i q.1 (p.1.take q.2) whole)) (l, x)).2

/-! ### Operand specifiers (Table CC-5, R185, R186) -/

/-- Pointer n, as the specifiers so far have left it. -/
def CX.an (x : CX) (n : Fin 4) : Nat := x.ptr.getD n.val 0

/-- Pointer n set. -/
def CX.setAn (x : CX) (n : Fin 4) (v : Nat) : CX := { x with ptr := x.ptr.set n.val v }

/-- Workspace word k. -/
def CX.slotWord (x : CX) (i k : Nat) : Nat × CX :=
  let r := x.read i ((x.wp + 4 * k) % 2 ^ 32) 4
  (leNat r.1, r.2)

/-- Evaluates the specifier of operand i, of n bytes. -/
def CX.evalSpec (x : CX) (i n : Nat) (p : Spec) : Loc × CX :=
  match p with
  | .lit v => (.val v.toNat, x)
  | .wp8 d => (.at ((x.wp + d.toNat) % 2 ^ 32), x)
  | .wp16 d => (.at (addr32 (x.wp + d.toInt)), x)
  | .ind m => (.at (x.an m), x)
  | .postInc m => (.at (x.an m), x.setAn m ((x.an m + n) % 2 ^ 32))
  | .preDec m =>
    let a := addr32 (x.an m - n)
    (.at a, x.setAn m a)
  | .disp m d => (.at (addr32 (x.an m + d.toInt)), x)
  | .idx m q k d =>
    let r := x.slotWord i k.toNat
    (.at (addr32 (r.2.an m + d.toInt + sx 32 r.1 * 2 ^ q.val)), r.2)
  | .circ m k =>
    let b := x.slotWord i k.toNat
    let l := b.2.slotWord i (k.toNat + 1)
    let x := l.2
    let a := x.an m
    if b.1 ≤ a && a < b.1 + l.1 && n ≤ l.1 then (.at a, x.setAn m ((b.1 + (a - b.1 + n) % l.1) % 2 ^ 32))
    else (.at a, x.fail i 0x12 none)
  | .abs a => (.at a.toNat, x)
  | .imm b => (.val (leNat b), x)
  | .pcrel d => (.at (addr32 (x.pc + d.toInt)), x)

/-- Evaluates the specifiers in order. -/
def CX.evalSpecs (x : CX) : List (Role × OpSize) → List Spec → CX
  | (_, z) :: rs, p :: ps =>
    let n := z.of x.instr.word.toNat
    let r := x.evalSpec x.ops.length n p
    CX.evalSpecs { r.2 with ops := r.2.ops ++ [(r.1, n)] } rs ps
  | _, _ => x

/-- Bits used by an operand of n bytes (Table CC-3). -/
def usedBits (n : Nat) : Nat := if n = 8 then 56 else 8 * n

/-- Operand i: its place and its bytes. -/
def CX.op (x : CX) (i : Nat) : Loc × Nat := x.ops.getD i (.val 0, 1)

/-- Width in bits of operand i. -/
def CX.width (x : CX) (i : Nat) : Nat := usedBits (x.op i).2

/-- Reads operand i: an .A operand is read from its low 7 bytes (R183). -/
def CX.get (x : CX) (i : Nat) : Nat × CX :=
  match x.op i with
  | (.val v, n) => (v % 2 ^ usedBits n, x)
  | (.at a, n) =>
    let r := x.read i a (if n = 8 then 7 else n)
    (leNat r.1, r.2)

/-- Writes bytes to operand i. -/
def CX.putBytes (x : CX) (i : Nat) (l : List Byte) : CX :=
  match x.op i with
  | (.at a, _) => x.write i a l
  | (.val _, _) => x

/-- Writes a code to operand i: the upper byte of an .A operand is the sign extension of bit 55 (R183). -/
def CX.put (x : CX) (i v : Nat) : CX :=
  let n := (x.op i).2
  x.putBytes i (if n = 8 then natLE 8 (ux 64 (sx 56 v)) else natLE n v)

/-- The address of operand i. -/
def CX.addr (x : CX) (i : Nat) : Nat :=
  match (x.op i).1 with
  | .at a => a
  | .val _ => 0

/-- The flags of a result. -/
def CX.flags (x : CX) (r : CRes) : CX := { x with sw := r.sw x.sw }

/-- Z alone. -/
def CX.setZ (x : CX) (b : Bool) : CX := { x with sw := putBit x.sw 2 b }

/-! ### Fetch (R181, R187, R189) -/

/-- What a fetch brings: an instruction and its length, an illegal encoding, or a fetch that traps: end code, PC reported, unit. -/
inductive Fetched where
  | instr (i : CoreInstr) (len : Nat)
  | illegal
  | fault (code pc : Nat) (unit : Option Nat)
  deriving DecidableEq, Repr

/-- Fetches bytes in order from pc until they decode: what came, the words fetched from, and their cost. -/
def State.fetchFrom (s : State) (k pc : Nat) : Nat → List Byte → List Nat → Nat → Fetched × List Nat × Nat
  | 0, _, ws, cost => (.illegal, ws, cost)
  | f + 1, bs, ws, cost =>
    match decodeCore bs with
    | .done i len => (.instr i len, ws, cost)
    | .illegal => (.illegal, ws, cost)
    | .more =>
      let a := (pc + bs.length) % 2 ^ 32
      let first := bs.isEmpty || a % 4 = 0
      match s.place (some k) a with
      | .basin =>
        let ws := if first then ws ++ [a / 4] else ws
        let cost := if first then cost + 20 else cost
        if s.eccOf (a / 4) = some true then (.fault 0x14 pc none, ws, cost)
        else State.fetchFrom s k pc f (bs ++ [s.memByte a]) ws cost
      | .lram c off _ =>
        let ws := if first then ws ++ [lramKey c off / 4 + lramWord] else ws
        let cost := if first then cost + 1 else cost
        if c ≠ k then (.fault 0x11 a none, ws, cost)
        else if s.lramBad (lramKey c off) 1 then (.fault 0x14 pc (some (56 + c)), ws, cost)
        else State.fetchFrom s k pc f (bs ++ s.lramBytes (lramKey c off) 1) ws cost
      | _ => (.fault 0x11 a none, ws, cost)

/-- The fetch at core k's PC. -/
def State.fetch (s : State) (k : Nat) : Fetched × List Nat × Nat := s.fetchFrom k (s.coreAt k).pc 15 [] [] 0

/-! ### Ends of items (R203 to R206, R218) -/

/-- The item of core k ends: its record and descriptor, its direct successors or its cascade, the watchdog, a retirement that waits.
DEDUCED (log 12, not safe). -/
def State.endItem (s : State) (k i endCode status pc cycles : Nat) : State :=
  let d := s.descAt i
  let r := s.endOne i endCode status pc k 0 cycles
  let s := if endCode = 0 then d.direct.foldl (fun s j => (s.pullPeg j 15).2) r.2 else State.cascadeList cascadeFuel r.2 r.1
  let s := if endCode = 0 && status = 0 && d.heart then s.heartbeat else s
  let s := s.setCore k { s.coreAt k with item := none }
  s.flushRecs.afterItem k

/-- The budget of descriptor i: 100,000 cycles unless it sets another. -/
def State.budgetOf (s : State) (i : Nat) : Nat := if (s.descAt i).budget = 0 then 100000 else (s.descAt i).budget

/-- A count of cycles between 1 and a worst case (R202, R487): which is a free value. DESIGN CHOICE (log 11, safe). -/
def State.drawCycles (s : State) (worst : Nat) : Nat × State :=
  let d := s.draw
  (1 + d.1 % Nat.max 1 worst, d.2)

/-- The item of core k traps on the state before the instruction: the words that it read are checked, its share of cycles counts.
DEDUCED (log 10, not safe). DEDUCED (log 12, not safe). -/
def State.trapItem (s : State) (k i code status pc worst : Nat) (words : List Nat) (unit : Option Nat) : State :=
  let s := s.checkTouched k words
  let d := s.drawCycles worst
  let s := d.2.endItem k i code status pc ((d.2.coreAt k).cycles + d.1)
  match unit with
  | some u => (s.clean.noteErr u).settle
  | none => s

/-- Execution cycles E (Table CC-6); a taken Bcc adds 1. -/
def eCycles (major size : Nat) : Nat :=
  if major = 0x0B || major = 0x0C || major = 0x25 || major = 0x2A || major = 0x31 || major = 0x32 || major = 0x38 then 2
  else if major = 0x19 || major = 0x2B || major = 0x2C || major = 0x2D then (if size = 3 then 3 else 2)
  else if major = 0x1A then (match size with | 0 => 10 | 1 => 18 | 2 => 26 | _ => 34)
  else if major = 0x2E then (if size = 3 then 4 else 3)
  else if major = 0x33 || major = 0x35 then 4
  else if major = 0x36 then 6
  else if major = 0x34 || major = 0x37 then 8
  else 1

/-- The instruction's effects stand: registers, SW, PC, cycles; the item ends where the instruction ends it. DESIGN CHOICE (log 11, safe). -/
def CX.commit (x : CX) (i : Nat) : State :=
  let d := x.s.drawCycles (x.cost + eCycles x.instr.major x.instr.size)
  let c := d.2.coreAt x.k.val
  let cycles := c.cycles + d.1
  let s := d.2.setCore x.k.val { c with
    pc := x.next, sw := x.sw, wp := x.wp, a0 := x.ptr.getD 0 0, a1 := x.ptr.getD 1 0, a2 := x.ptr.getD 2 0, a3 := x.ptr.getD 3 0,
    cycles := cycles }
  match x.ending with
  | some (code, status) => s.endItem x.k.val i code status x.pc cycles
  | none => s

/-- The instruction at core k's PC, about to execute. -/
def State.begin (s : State) (k : Fin 8) (i : CoreInstr) (len : Nat) (words : List Nat) (cost : Nat) : CX :=
  let c := s.coreAt k.val
  { s := s.checkTouched k.val words, k := k, instr := i, pc := c.pc, next := (c.pc + len) % 2 ^ 32,
    ptr := [c.a0, c.a1, c.a2, c.a3], wp := c.wp, sw := c.sw, ops := [], trap := none, words := words, cost := cost, lost := false, ending := none }

/-- Executes the instruction at core k's PC, when it is one of a major opcode: its specifiers, then its own effect f. -/
def State.coreRun (s : State) (k : Fin 8) (major : Nat) (f : CX → CX) : State :=
  match (s.coreAt k.val).item with
  | none => s
  | some i =>
    if !s.coresOn || s.budgetOf i ≤ (s.coreAt k.val).cycles then s
    else match s.fetch k.val with
    | (.instr c len, words, cost) =>
      if c.major ≠ major then s
      else
        let rows := match opRow c.major with | some r => r.ops | none => []
        let x := f ((s.begin k c len words cost).evalSpecs rows c.ops)
        match x.trap with
        | some t =>
          s.trapItem k.val i t.code 0 x.pc (x.cost + eCycles c.major c.size) x.words t.unit
        | none => x.commit i
    | _ => s

/-! ### Effects shared by instructions -/

/-- Reads operand 0, writes operand 1, sets flags. -/
def CX.unary (x : CX) (f : CX → Nat → CRes) : CX :=
  let a := x.get 0
  let r := f a.2 a.1
  (a.2.put 1 r.val).flags r

/-- Reads operands 0 and 1, writes operand 2, sets flags. -/
def CX.binary (x : CX) (f : CX → Nat → Nat → CRes) : CX :=
  let a := x.get 0
  let b := a.2.get 1
  let r := f b.2 a.1 b.1
  (b.2.put 2 r.val).flags r

/-- Reads operands 0 and 1, sets flags. -/
def CX.compare2 (x : CX) (f : CX → Nat → Nat → CRes) : CX :=
  let a := x.get 0
  let b := a.2.get 1
  b.2.flags (f b.2 a.1 b.1)

/-- Width of the instruction's SIZE. -/
def CX.w (x : CX) : Nat := sizeBits x.instr.size

/-- OPT[5:4]: K or RM. -/
def CX.opt2 (x : CX) : Nat := bits x.instr.word.toNat 5 4

/-- C of SW as a number. -/
def CX.carry (x : CX) : Nat := b2n (bit x.sw 0)

/-- CAS and XADD work on an aligned .W in the Basin or in own local RAM (R199). -/
def CX.lockedPlace (x : CX) (i : Nat) : CX :=
  let a := x.addr i
  let good := a % 4 = 0 && (match x.s.place (some x.k.val) a with
    | .basin => true
    | .lram c _ _ => c = x.k.val
    | _ => false)
  if good then x else x.fail i 0x11 none

/-- Operand i receives the status of a request; Z shows OK. -/
def CX.answer (x : CX) (i st word : Nat) : CX := (x.put i word).setZ (st = 0)

/-- acc ± product (R198), the accumulator operand 2. -/
def CX.accumulate (x : CX) (a b : Nat) (minus : Bool) : CX :=
  let c := x.get 2
  let p := macProduct c.2.w c.2.opt2 a b
  let r := accRes c.1 (if minus then -p else p)
  (c.2.put 2 r.val).flags r

/-- The registers before the instruction, by P (Table CC-4): A0 to A3, WP. -/
def CX.oldReg (x : CX) (p : Nat) : Nat :=
  let c := x.s.coreAt x.k.val
  match p with
  | 0 => c.a0
  | 1 => c.a1
  | 2 => c.a2
  | 3 => c.a3
  | _ => c.wp

/-! ### The effect of each instruction (Table CC-6) -/

namespace Eff

/-- d := s. -/
def mov (x : CX) : CX := x.unary (fun x a => resZN x.w (a : Int))
/-- d := s sign-extended to DSIZE. -/
def movs (x : CX) : CX := x.unary (fun x a => resZN (x.width 1) (sx x.w a))
/-- d := s zero-extended to DSIZE. -/
def movz (x : CX) : CX := x.unary (fun x a => resZN (x.width 1) (a : Int))
/-- d := 0. -/
def clr (x : CX) : CX := (x.put 0 0).flags { val := 0, z := some true, n := some false }
/-- d := address of s. -/
def lea (x : CX) : CX := x.put 1 (x.addr 0)
/-- P := s. -/
def ldp (x : CX) : CX :=
  let a := x.get 0
  let p := x.instr.opt
  if p < 4 then { a.2 with ptr := a.2.ptr.set p a.1 } else { a.2 with wp := a.1 }
/-- d := P. -/
def stp (x : CX) : CX := x.put 0 (x.oldReg x.instr.opt)
/-- SW := s, bits [31:7] ignored. -/
def ldsw (x : CX) : CX := let a := x.get 0; { a.2 with sw := a.1 % 128 }
/-- d := SW. -/
def stsw (x : CX) : CX := x.put 0 x.sw
/-- Atomic compare and swap (R199). -/
def cas (x : CX) : CX :=
  let x := x.lockedPlace 2
  let e := x.get 0
  let n := e.2.get 1
  let d := n.2.get 2
  if d.1 = e.1 then
    let x := d.2.put 2 n.1
    -- a lost write leaves another master's word in memory: it goes into e
    if x.lost then (x.put 0 (leNat (x.s.memBytes (x.addr 2) 4))).setZ false else x.setZ true
  else ((d.2.put 0 d.1).spend (if x.addr 2 < basinSize then 20 else 1)).setZ false
/-- Atomic fetch and add (R199). -/
def xadd (x : CX) : CX :=
  let x := x.lockedPlace 1
  let a := x.get 0
  let d := a.2.get 1
  let r := addRes 32 d.1 a.1 0
  ((d.2.put 2 d.1).put 1 r.val).flags r
/-- d := a + b. -/
def add (x : CX) : CX := x.binary (fun x a b => addRes x.w a b 0)
/-- d := a + b + C. -/
def addc (x : CX) : CX := x.binary (fun x a b => (addRes x.w a b x.carry).chainZ)
/-- d := a − b. -/
def sub (x : CX) : CX := x.binary (fun x a b => subRes x.w a b 0)
/-- d := a − b − C. -/
def subc (x : CX) : CX := x.binary (fun x a b => (subRes x.w a b x.carry).chainZ)
/-- d := sat(a + b). -/
def adds (x : CX) : CX := x.binary (fun x a b => satRes x.w (sx x.w a + sx x.w b))
/-- d := sat(a − b). -/
def subs (x : CX) : CX := x.binary (fun x a b => satRes x.w (sx x.w a - sx x.w b))
/-- d := 0 − s. -/
def neg (x : CX) : CX := x.unary (fun x a => subRes x.w 0 a 0)
/-- d := |s|. -/
def abs (x : CX) : CX := x.unary (fun x a => absRes x.w a)
/-- Flags of a − b. -/
def cmp (x : CX) : CX := x.compare2 (fun x a b => (subRes x.w a b 0).compare)
/-- Flags of s. -/
def tst (x : CX) : CX := let a := x.get 0; a.2.flags (tstRes x.w a.1)
/-- d := smaller of a and b; U is OPT[4]. -/
def min (x : CX) : CX := x.binary (fun x a b => minMaxRes x.w false (bit x.instr.word.toNat 4) a b)
/-- d := larger of a and b. -/
def max (x : CX) : CX := x.binary (fun x a b => minMaxRes x.w true (bit x.instr.word.toNat 4) a b)
/-- d := low bits of a × b. -/
def mul (x : CX) : CX := x.binary (fun x a b => mulRes x.w a b)
/-- DIV (R194): a zero divisor traps with TRAP_OPERAND. -/
def div (x : CX) : CX :=
  let a := x.get 0
  let b := a.2.get 1
  match divRes x.w x.opt2 a.1 b.1 with
  | some r => (b.2.put 2 r.val).flags r
  | none => (b.2.put 2 0).fail 100 0x12 none
/-- d := a AND b. -/
def and (x : CX) : CX := x.binary (fun x a b => logicRes x.w (a &&& b))
/-- d := a OR b. -/
def or (x : CX) : CX := x.binary (fun x a b => logicRes x.w (a ||| b))
/-- d := a XOR b. -/
def xor (x : CX) : CX := x.binary (fun x a b => logicRes x.w (a ^^^ b))
/-- d := a AND NOT b. -/
def andn (x : CX) : CX := x.binary (fun x a b => logicRes x.w (a &&& (2 ^ x.w - 1 - b)))
/-- d := NOT s. -/
def not (x : CX) : CX := x.unary (fun x a => logicRes x.w (2 ^ x.w - 1 - a))
/-- SHL (R193). -/
def shl (x : CX) : CX := x.binary (fun x a n => shlRes x.w a n)
/-- SHR (R193). -/
def shr (x : CX) : CX := x.binary (fun x a n => shrRes x.w a n)
/-- SAR (R193). -/
def sar (x : CX) : CX := x.binary (fun x a n => sarRes x.w a n)
/-- ROL (R193). -/
def rol (x : CX) : CX := x.binary (fun x a n => rolRes x.w a n)
/-- BFX (R195). -/
def bfx (x : CX) : CX := x.unary (fun x a => bfxRes x.w a x.instr.ext.toNat)
/-- BFI (R195): d is read and written. -/
def bfi (x : CX) : CX :=
  let a := x.get 0
  let d := a.2.get 1
  let r := bfiRes x.w a.1 d.1 x.instr.ext.toNat
  (d.2.put 1 r.val).flags r
/-- CLZ (R196). -/
def clz (x : CX) : CX := x.unary (fun x a => clzRes x.w a)
/-- CLS (R196). -/
def cls (x : CX) : CX := x.unary (fun x a => clsRes x.w a)
/-- PERM (R197). -/
def perm (x : CX) : CX := x.binary (fun x a b => permRes a b (x.instr.ext.toNat % 4096))
/-- FTOA (R198). -/
def ftoa (x : CX) : CX := x.unary (fun x a => ftoaRes x.w a)
/-- RNDA (R198). -/
def rnda (x : CX) : CX := x.unary (fun x a => rndaRes x.w x.opt2 a)
/-- MULF (R198). -/
def mulf (x : CX) : CX := x.binary (fun x a b => mulfRes x.w x.opt2 a b)
/-- MACF (R198). -/
def macf (x : CX) : CX :=
  let a := x.get 0
  let b := a.2.get 1
  b.2.accumulate a.1 b.1 false
/-- MSCF (R198). -/
def mscf (x : CX) : CX :=
  let a := x.get 0
  let b := a.2.get 1
  b.2.accumulate a.1 b.1 true
/-- MACM (R200): the move is written first, the accumulator second; all three operands are read before (R186). -/
def macm (x : CX) : CX :=
  let c := x.get 0
  let v := c.2.get 1
  let acc := v.2.get 2
  let n := (x.op 1).2
  let r := accRes acc.1 (macProduct x.w x.opt2 c.1 v.1)
  let x := acc.2.write 1 ((acc.2.addr 1 + n) % 2 ^ 32) (natLE n v.1)
  (x.put 2 r.val).flags r
/-- Bcc (R190). -/
def bcc (x : CX) : CX :=
  if condHolds x.instr.cond x.sw then { x.spend 1 with next := x.addr 0 } else x
/-- BAL. -/
def bal (x : CX) : CX := { x.put 1 x.next with next := x.addr 0 }
/-- JMP. -/
def jmp (x : CX) : CX := let a := x.get 0; { a.2 with next := a.1 }
/-- DONE (R206): a status above 0x12 traps with TRAP_OPERAND. -/
def done (x : CX) : CX :=
  let a := x.get 0
  if 0x12 < a.1 then a.2.fail 100 0x12 none else { a.2 with ending := some (0, a.1) }
/-- POST (R207, R488). -/
def post (x : CX) : CX :=
  let b := x.read 0 (x.addr 0) 32
  let r := b.2.s.postImage b.1 13
  { b.2 with s := r.2.2 }.answer 1 r.1 (r.1 + (if r.1 = 0 then r.2.1 * 2 ^ 16 else 0))
/-- SIGNAL (R208, R488). -/
def signal (x : CX) : CX :=
  let i := x.get 0
  let r := i.2.s.pullPeg i.1 14
  { i.2 with s := r.2 }.answer 1 r.1 r.1
/-- CANCEL (R208, R488). -/
def cancel (x : CX) : CX :=
  let i := x.get 0
  let r := i.2.s.cancelDesc i.1
  { i.2 with s := r.2 }.answer 1 r.1 r.1
/-- SEND (R209, R488): the image's length is the LEN of its own header. -/
def send (x : CX) : CX :=
  let n := leNat (x.read 0 (x.addr 0) 1).1
  let b := x.read 0 (x.addr 0) (Nat.max 1 n)
  let r := b.2.s.sendImage (b.1.take n) false
  { b.2 with s := r.2 }.answer 1 r.1 r.1
/-- TIME (R201). -/
def time (x : CX) : CX := x.putBytes 0 (natLE 8 x.s.time)
/-- CYC (R201). -/
def cyc (x : CX) : CX := x.put 0 (x.s.coreAt x.k.val).cycles
/-- TRAP (R205): the code travels in the record's STATUS. -/
def trap (x : CX) : CX := let a := x.get 0; { a.2 with ending := some (0x15, a.1) }

end Eff

/-! ### Rows -/

/-- NOP. -/
def execNop (k : Fin 8) (s : State) : Out := s.run fun s => (s.coreRun k 0x01 id)
/-- MOV. -/
def execMov (k : Fin 8) (s : State) : Out := s.run fun s => (s.coreRun k 0x02 Eff.mov)
/-- MOVS. -/
def execMovs (k : Fin 8) (s : State) : Out := s.run fun s => (s.coreRun k 0x03 Eff.movs)
/-- MOVZ. -/
def execMovz (k : Fin 8) (s : State) : Out := s.run fun s => (s.coreRun k 0x04 Eff.movz)
/-- CLR. -/
def execClr (k : Fin 8) (s : State) : Out := s.run fun s => (s.coreRun k 0x05 Eff.clr)
/-- LEA. -/
def execLea (k : Fin 8) (s : State) : Out := s.run fun s => (s.coreRun k 0x06 Eff.lea)
/-- LDP. -/
def execLdp (k : Fin 8) (s : State) : Out := s.run fun s => (s.coreRun k 0x07 Eff.ldp)
/-- STP. -/
def execStp (k : Fin 8) (s : State) : Out := s.run fun s => (s.coreRun k 0x08 Eff.stp)
/-- LDSW. -/
def execLdsw (k : Fin 8) (s : State) : Out := s.run fun s => (s.coreRun k 0x09 Eff.ldsw)
/-- STSW. -/
def execStsw (k : Fin 8) (s : State) : Out := s.run fun s => (s.coreRun k 0x0A Eff.stsw)
/-- CAS. -/
def execCas (k : Fin 8) (s : State) : Out := s.run fun s => (s.coreRun k 0x0B Eff.cas)
/-- XADD. -/
def execXadd (k : Fin 8) (s : State) : Out := s.run fun s => (s.coreRun k 0x0C Eff.xadd)
/-- ADD. -/
def execAdd (k : Fin 8) (s : State) : Out := s.run fun s => (s.coreRun k 0x0D Eff.add)
/-- ADDC. -/
def execAddc (k : Fin 8) (s : State) : Out := s.run fun s => (s.coreRun k 0x0E Eff.addc)
/-- SUB. -/
def execSub (k : Fin 8) (s : State) : Out := s.run fun s => (s.coreRun k 0x0F Eff.sub)
/-- SUBC. -/
def execSubc (k : Fin 8) (s : State) : Out := s.run fun s => (s.coreRun k 0x10 Eff.subc)
/-- ADDS. -/
def execAdds (k : Fin 8) (s : State) : Out := s.run fun s => (s.coreRun k 0x11 Eff.adds)
/-- SUBS. -/
def execSubs (k : Fin 8) (s : State) : Out := s.run fun s => (s.coreRun k 0x12 Eff.subs)
/-- NEG. -/
def execNeg (k : Fin 8) (s : State) : Out := s.run fun s => (s.coreRun k 0x13 Eff.neg)
/-- ABS. -/
def execAbs (k : Fin 8) (s : State) : Out := s.run fun s => (s.coreRun k 0x14 Eff.abs)
/-- CMP. -/
def execCmp (k : Fin 8) (s : State) : Out := s.run fun s => (s.coreRun k 0x15 Eff.cmp)
/-- TST. -/
def execTst (k : Fin 8) (s : State) : Out := s.run fun s => (s.coreRun k 0x16 Eff.tst)
/-- MIN. -/
def execMin (k : Fin 8) (s : State) : Out := s.run fun s => (s.coreRun k 0x17 Eff.min)
/-- MAX. -/
def execMax (k : Fin 8) (s : State) : Out := s.run fun s => (s.coreRun k 0x18 Eff.max)
/-- MUL. -/
def execMul (k : Fin 8) (s : State) : Out := s.run fun s => (s.coreRun k 0x19 Eff.mul)
/-- DIV. -/
def execDiv (k : Fin 8) (s : State) : Out := s.run fun s => (s.coreRun k 0x1A Eff.div)
/-- AND. -/
def execAnd (k : Fin 8) (s : State) : Out := s.run fun s => (s.coreRun k 0x1B Eff.and)
/-- OR. -/
def execOr (k : Fin 8) (s : State) : Out := s.run fun s => (s.coreRun k 0x1C Eff.or)
/-- XOR. -/
def execXor (k : Fin 8) (s : State) : Out := s.run fun s => (s.coreRun k 0x1D Eff.xor)
/-- ANDN. -/
def execAndn (k : Fin 8) (s : State) : Out := s.run fun s => (s.coreRun k 0x1E Eff.andn)
/-- NOT. -/
def execNot (k : Fin 8) (s : State) : Out := s.run fun s => (s.coreRun k 0x1F Eff.not)
/-- SHL. -/
def execShl (k : Fin 8) (s : State) : Out := s.run fun s => (s.coreRun k 0x20 Eff.shl)
/-- SHR. -/
def execShr (k : Fin 8) (s : State) : Out := s.run fun s => (s.coreRun k 0x21 Eff.shr)
/-- SAR. -/
def execSar (k : Fin 8) (s : State) : Out := s.run fun s => (s.coreRun k 0x22 Eff.sar)
/-- ROL. -/
def execRol (k : Fin 8) (s : State) : Out := s.run fun s => (s.coreRun k 0x23 Eff.rol)
/-- BFX. -/
def execBfx (k : Fin 8) (s : State) : Out := s.run fun s => (s.coreRun k 0x24 Eff.bfx)
/-- BFI. -/
def execBfi (k : Fin 8) (s : State) : Out := s.run fun s => (s.coreRun k 0x25 Eff.bfi)
/-- CLZ. -/
def execClz (k : Fin 8) (s : State) : Out := s.run fun s => (s.coreRun k 0x26 Eff.clz)
/-- CLS. -/
def execCls (k : Fin 8) (s : State) : Out := s.run fun s => (s.coreRun k 0x27 Eff.cls)
/-- PERM. -/
def execPerm (k : Fin 8) (s : State) : Out := s.run fun s => (s.coreRun k 0x28 Eff.perm)
/-- FTOA. -/
def execFtoa (k : Fin 8) (s : State) : Out := s.run fun s => (s.coreRun k 0x29 Eff.ftoa)
/-- RNDA. -/
def execRnda (k : Fin 8) (s : State) : Out := s.run fun s => (s.coreRun k 0x2A Eff.rnda)
/-- MULF. -/
def execMulf (k : Fin 8) (s : State) : Out := s.run fun s => (s.coreRun k 0x2B Eff.mulf)
/-- MACF. -/
def execMacf (k : Fin 8) (s : State) : Out := s.run fun s => (s.coreRun k 0x2C Eff.macf)
/-- MSCF. -/
def execMscf (k : Fin 8) (s : State) : Out := s.run fun s => (s.coreRun k 0x2D Eff.mscf)
/-- MACM. -/
def execMacm (k : Fin 8) (s : State) : Out := s.run fun s => (s.coreRun k 0x2E Eff.macm)
/-- BCC. -/
def execBcc (k : Fin 8) (s : State) : Out := s.run fun s => (s.coreRun k 0x30 Eff.bcc)
/-- BAL. -/
def execBal (k : Fin 8) (s : State) : Out := s.run fun s => (s.coreRun k 0x31 Eff.bal)
/-- JMP. -/
def execJmp (k : Fin 8) (s : State) : Out := s.run fun s => (s.coreRun k 0x32 Eff.jmp)
/-- DONE. -/
def execDone (k : Fin 8) (s : State) : Out := s.run fun s => (s.coreRun k 0x33 Eff.done)
/-- POST. -/
def execPost (k : Fin 8) (s : State) : Out := s.run fun s => (s.coreRun k 0x34 Eff.post)
/-- SIGNAL. -/
def execSignal (k : Fin 8) (s : State) : Out := s.run fun s => (s.coreRun k 0x35 Eff.signal)
/-- CANCEL. -/
def execCancel (k : Fin 8) (s : State) : Out := s.run fun s => (s.coreRun k 0x36 Eff.cancel)
/-- SEND. -/
def execSend (k : Fin 8) (s : State) : Out := s.run fun s => (s.coreRun k 0x37 Eff.send)
/-- TIME. -/
def execTime (k : Fin 8) (s : State) : Out := s.run fun s => (s.coreRun k 0x38 Eff.time)
/-- CYC. -/
def execCyc (k : Fin 8) (s : State) : Out := s.run fun s => (s.coreRun k 0x39 Eff.cyc)
/-- TRAP. -/
def execTrap (k : Fin 8) (s : State) : Out := s.run fun s => (s.coreRun k 0x3A Eff.trap)
/-- TRAP_BUDGET (R203): the count is at least the budget before a fetch. -/
def execTrapBudget (k : Fin 8) (s : State) : Out := s.run fun s =>
  match (s.coreAt k.val).item with
  | none => s
  | some i =>
    let c := s.coreAt k.val
    (if s.coresOn && s.budgetOf i ≤ c.cycles then s.endItem k.val i 0x13 0 c.pc c.cycles else s)

/-- TRAP_ILLEGAL (R189). -/
def execTrapIllegal (k : Fin 8) (s : State) : Out := s.run fun s =>
  match (s.coreAt k.val).item with
  | none => s
  | some i =>
    let c := s.coreAt k.val
    if !s.coresOn || s.budgetOf i ≤ c.cycles then s
    else match s.fetch k.val with
    | (.illegal, words, cost) => (s.trapItem k.val i 0x10 0 c.pc (cost + 1) words none)
    | _ => s

/-- INSTRUCTION_FETCH_FAULT (R181, R210). -/
def execInstructionFetchFault (k : Fin 8) (s : State) : Out := s.run fun s =>
  match (s.coreAt k.val).item with
  | none => s
  | some i =>
    if !s.coresOn || s.budgetOf i ≤ (s.coreAt k.val).cycles then s
    else match s.fetch k.val with
    | (.fault code pc unit, words, cost) => s.trapItem k.val i code 0 pc (cost + 1) words unit
    | _ => s

end Sys2Proof.Machine
end

