-- ==== Sys2Proof/Machine/SourceRows.lean ====
section
/-!
DEFINITION. The commands that a source makes by one access of its own: writes of command registers and of the registers whose writes have
rows of their own, reads with an effect, writes into voice and SPE memory, and the operations of the update session. A host or Trail
write that is refused changes at most a CODE field (R459); a core's ends its item with TRAP_ADDRESS (R181).
-/
namespace Sys2Proof.Machine

/-! ### Sources -/

/-- A source's access can reach the node now: the host while it is served and its balls are supplied (R410, R453), the Trail while the node is inserted (R18), a core that
runs an item (R177), the boot engine during boot (R429). DEDUCED (log 5, not safe). -/
def State.reaches (s : State) : Source → Bool
  | .host => s.inserted && !s.booting && s.supply .vddio1
  | .trail _ => s.inserted && !s.booting
  | .core k => s.coresOn && (s.coreAt k.val).item.isSome
  | .boot => s.booting

/-- An access of a core is refused: its item ends with TRAP_ADDRESS (R181); the share of the faulting instruction is free within the worst case of
an instruction of 14 bytes (R487). DEDUCED (log 6, not safe). -/
def State.coreRefused (s : State) (k : Fin 8) : State :=
  match (s.coreAt k.val).item with
  | some i => s.trapItem k.val i 0x11 0 (s.coreAt k.val).pc 400 [] none
  | none => s

/-- A refused access of a source: only a core sees more than a status. DEDUCED (log 6, not safe). -/
def State.refusedBy (s : State) (src : Source) : State :=
  match src with
  | .core k => s.coreRefused k
  | _ => s

/-- A write of one 32-bit word by a source. pass: the outcome of the known-answer test that a READMIT runs. DEDUCED (log 5, not safe). -/
def State.writeBy (s : State) (src : Source) (a v : Nat) (pass : Bool) : State :=
  if !s.reaches src then s
  else
    let r := s.busWrites src a [v] pass
    if r.1 = 0 || (codeReg a && !(srcIsCore src && a = Adr.DSP_CMD)) then r.2.2
    else match src with
      | .core k => s.coreRefused k
      | _ => r.2.2

/-- A write of a register by a source. -/
def State.regBy (s : State) (src : Source) (a v : Nat) : State := s.writeBy src a v true

/-- A read of a register by a source: its effect (R290, R370, R389). -/
def State.readBy (s : State) (src : Source) (a : Nat) : State := if s.reaches src then (s.regRead a).2 else s

/-! ### Voice Array, SPE -/

/-- VOICE_PARAM_WRITE (R25, R33, R34, R38): words of one voice from word on, all or none, held for the next intake. A host or Trail access takes
whole 32-bit words. -/
def State.voiceWriteBy (s : State) (src : Source) (v word : Nat) (values : List Half) : State :=
  if !s.reaches src || values.isEmpty then s
  else
    let n := values.length
    let whole := srcIsCore src || (word % 2 = 0 && n % 2 = 0)
    let st := (runStatus (s.vWord v) word (values.map (·.toNat))).1
    if s.groupVoices ≤ v % 16 || 1024 < word + n || !whole || st ≠ 0 then s.refusedBy src
    else s.holdWrite (vsrcOf src) v word values

/-- VOICE_PARAM_WRITE (R25). -/
def execVoiceParamWrite (src : Source) (v : Fin 512) (word : Nat) (values : List Half) (s : State) : Out :=
  s.run fun s => (s.voiceWriteBy src v.val word values)
/-- RECALC (R132). -/
def execRecalc (src : Source) (s : State) : Out := s.run fun s => (s.regBy src Adr.VOICE_HASHCTL 1)
/-- GO (R462). -/
def execGo (src : Source) (s : State) : Out := s.run fun s => (s.regBy src Adr.VOICE_EVCMD 1)
/-- CCMD_COMMIT (R164). -/
def execCcmdCommit (src : Source) (noramp : Bool) (s : State) : Out := s.run fun s => (s.regBy src Adr.SPE_CCMD (1 + 4 * b2n noramp))
/-- CCMD_CANCEL (R167). -/
def execCcmdCancel (src : Source) (s : State) : Out := s.run fun s => (s.regBy src Adr.SPE_CCMD 2)
/-- CCMD_DISCARD (R167). -/
def execCcmdDiscard (src : Source) (s : State) : Out := s.run fun s => (s.regBy src Adr.SPE_CCMD 3)
/-- COEF_WRITE (R163). -/
def execCoefWrite (src : Source) (i : Fin 4096) (value : Word) (s : State) : Out :=
  s.run fun s => (s.writeBy src (0x01124000 + 4 * i.val) value.toNat true)
/-- SPE_TEMP_WRITE (R142). -/
def execSpeTempWrite (src : Source) (i : Fin 256) (value : Word) (s : State) : Out :=
  s.run fun s => (s.writeBy src (0x01128000 + 4 * i.val) value.toNat true)
/-- PCMD_LOAD (R169). -/
def execPcmdLoad (src : Source) (len : BitVec 14) (clrt : Bool) (s : State) : Out :=
  s.run fun s => (s.regBy src Adr.SPE_PCMD (1 + 4 * b2n clrt + 8 * len.toNat))
/-- PCMD_CANCEL (R171). -/
def execPcmdCancel (src : Source) (s : State) : Out := s.run fun s => (s.regBy src Adr.SPE_PCMD 2)
/-- SPE_DLCTL (R159). -/
def execSpeDlctl (src : Source) (j : Fin 64) (value : Word) (s : State) : Out := s.run fun s => (s.regBy src (Adr.SPE_DLCTL j.val) value.toNat)
/-- DELAY_CLEAR (R160): a write with CLEAR set. -/
def execDelayClear (src : Source) (j : Fin 64) (value : Word) (s : State) : Out :=
  s.run fun s => (s.regBy src (Adr.SPE_DLCTL j.val) (value.toNat ||| 4))

/-! ### Dispatcher -/

/-- DSP_POST (R214, R232). -/
def execDspPost (src : Source) (s : State) : Out := s.run fun s => (s.regBy src Adr.DSP_CMD 1)
/-- DSP_SIGNAL (R215). -/
def execDspSignal (src : Source) (i : BitVec 10) (s : State) : Out := s.run fun s => (s.regBy src Adr.DSP_CMD (2 + 2 ^ 16 * i.toNat))
/-- DSP_CANCEL (R219). -/
def execDspCancel (src : Source) (i : BitVec 10) (s : State) : Out := s.run fun s => (s.regBy src Adr.DSP_CMD (3 + 2 ^ 16 * i.toNat))
/-- DSP_DSEL (R232). -/
def execDspDsel (src : Source) (i : BitVec 10) (s : State) : Out := s.run fun s => (s.regBy src Adr.DSP_DSEL i.toNat)

/-! ### Trail, audio ports, analogue outputs -/

/-- TRAIL_LEAD_WRITE (R306). -/
def execTrailLeadWrite (src : Source) (value : Word) (s : State) : Out := s.run fun s => (s.regBy src Adr.TRAIL_LEAD value.toNat)
/-- SNAP (R290). -/
def execSnap (src : Source) (s : State) : Out := s.run fun s => (s.regBy src Adr.TRAIL_SNAPCTL 1)
/-- TRAIL_TIMELO_READ (R290). -/
def execTrailTimeloRead (src : Source) (s : State) : Out := s.run fun s => (s.readBy src Adr.TRAIL_TIMELO)
/-- APORT_CTL (R338). -/
def execAportCtl (src : Source) (p : Fin 8) (value : Word) (s : State) : Out := s.run fun s => (s.regBy src (Adr.APORT_CTL p.val) value.toNat)
/-- CSUPD (R337): a write with CSUPD set. -/
def execCsupd (src : Source) (p : Fin 8) (value : Word) (s : State) : Out :=
  s.run fun s => (s.regBy src (Adr.APORT_CSCTL p.val) (value.toNat ||| 1))
/-- APORT_LOOPCTL (R339). -/
def execAportLoopctl (src : Source) (value : Word) (s : State) : Out := s.run fun s => (s.regBy src Adr.APORT_LOOPCTL value.toNat)
/-- ADAC_CTL (R346). -/
def execAdacCtl (src : Source) (value : Word) (s : State) : Out := s.run fun s => (s.regBy src Adr.ADAC_CTL value.toNat)
/-- COUT_CTL (R354). -/
def execCoutCtl (src : Source) (c : Fin 8) (value : Word) (s : State) : Out := s.run fun s => (s.regBy src (Adr.COUT_CTL c.val) value.toNat)

/-! ### Serial ports, timers -/

/-- SER_DIV (R368). -/
def execSerDiv (src : Source) (n : Fin 2) (value : Word) (s : State) : Out := s.run fun s => (s.regBy src (Adr.SER_DIV n.val) value.toNat)
/-- AUTORATE (R369): a write with AUTORATE set. -/
def execAutorate (src : Source) (n : Fin 2) (value : Word) (s : State) : Out :=
  s.run fun s => (s.regBy src (Adr.SER_CTL n.val) (value.toNat ||| 32))
/-- SER_RXDATA (R370). -/
def execSerRxdata (src : Source) (n : Fin 2) (s : State) : Out := s.run fun s => (s.readBy src (Adr.SER_RXDATA n.val))
/-- SER_TXDATA (R370). -/
def execSerTxdata (src : Source) (n : Fin 2) (value : Word) (s : State) : Out := s.run fun s => (s.regBy src (Adr.SER_TXDATA n.val) value.toNat)
/-- SEND_HEADER (R377). -/
def execSendHeader (src : Source) (n : Fin 2) (value : Word) (s : State) : Out := s.run fun s => (s.regBy src (Adr.SER_FCMD n.val) value.toNat)
/-- SEND_RDM (R381). -/
def execSendRdm (src : Source) (n : Fin 2) (value : Word) (s : State) : Out := s.run fun s => (s.regBy src (Adr.SER_FCMD n.val) value.toNat)
/-- TMR_CNT_WRITE (R387). -/
def execTmrCntWrite (src : Source) (n : Fin 16) (value : Word) (s : State) : Out := s.run fun s => (s.regBy src (Adr.TMR_CNT n.val) value.toNat)
/-- TMR_CNT_READ (R389). -/
def execTmrCntRead (src : Source) (n : Fin 16) (s : State) : Out := s.run fun s => (s.readBy src (Adr.TMR_CNT n.val))
/-- TMR_CTL (R391). -/
def execTmrCtl (src : Source) (n : Fin 16) (value : Word) (s : State) : Out := s.run fun s => (s.regBy src (Adr.TMR_CTL n.val) value.toNat)
/-- STAGGER_START (R395): a write with START set. -/
def execStaggerStart (src : Source) (g : Fin 4) (value : Word) (s : State) : Out :=
  s.run fun s => (s.regBy src (Adr.TMR_GCTL g.val) (value.toNat ||| 131072))

/-! ### Power -/

/-- MODE_LANTERN (R399, R400). -/
def execModeLantern (src : Source) (s : State) : Out := s.run fun s => (s.regBy src Adr.PWR_MODECMD 1)
/-- MODE_REST (R399, R400). -/
def execModeRest (src : Source) (s : State) : Out := s.run fun s => (s.regBy src Adr.PWR_MODECMD 2)
/-- MODE_RELAY (R399, R400). -/
def execModeRelay (src : Source) (s : State) : Out := s.run fun s => (s.regBy src Adr.PWR_MODECMD 3)
/-- MODE_SERVICE (R399, R400). -/
def execModeService (src : Source) (s : State) : Out := s.run fun s => (s.regBy src Adr.PWR_MODECMD 4)
/-- MODE_RUN (R399, R400). -/
def execModeRun (src : Source) (s : State) : Out := s.run fun s => (s.regBy src Adr.PWR_MODECMD 5)
/-- PWR_WAKESEND (R406). -/
def execPwrWakesend (src : Source) (value : Word) (s : State) : Out := s.run fun s => (s.regBy src Adr.PWR_WAKESEND value.toNat)
/-- SYS_RESET (R415). -/
def execSysReset (src : Source) (value : Word) (s : State) : Out := s.run fun s => (s.regBy src Adr.SYS_RESET value.toNat)

/-! ### Pack (R432, R435) -/

/-- An update operation of a source on operands at hand. -/
def State.packBy (s : State) (src : Source) (op bank ofs : Nat) (data : List Byte) (count : Nat) : Nat × List Byte × State :=
  if s.reaches src then s.packOp src op bank ofs data count else (St.busy, [], s)

/-- PACK_STATUS (R432). -/
def execPackStatus (src : Source) (s : State) : Out := s.run fun s => (s.packBy src 0 0 0 [] 0).2.2
/-- BEGIN (R432). -/
def execPackBegin (src : Source) (s : State) : Out := s.run fun s => (s.packBy src 1 0 0 [] 0).2.2
/-- The byte counts that WRITE and READ can be given (R435, Table PK-9): a multiple of 4, 0 to 192 over the Trail and 4 to 4,096 on the node.
DEDUCED (log 54, not safe). -/
def packSized (src : Source) (n : Nat) : Bool :=
  n % 4 = 0 && match src with
    | .trail _ => n ≤ 192
    | _ => 4 ≤ n && n ≤ 4096

/-- PACK_WRITE (R432, R435). -/
def execPackWrite (src : Source) (offset : Word) (data : List Byte) (s : State) : Out := s.run fun s =>
  (if packSized src data.length then (s.packBy src 2 0 offset.toNat data data.length).2.2 else s)
/-- VERIFY (R432). -/
def execVerify (src : Source) (s : State) : Out := s.run fun s => (s.packBy src 3 0 0 [] 0).2.2
/-- COMMIT (R432). -/
def execCommit (src : Source) (s : State) : Out := s.run fun s => (s.packBy src 4 0 0 [] 0).2.2
/-- ABORT (R432). -/
def execAbort (src : Source) (s : State) : Out := s.run fun s => (s.packBy src 5 0 0 [] 0).2.2
/-- RELOAD (R434). -/
def execReload (src : Source) (bank : BitVec 2) (s : State) : Out := s.run fun s => (s.packBy src 6 bank.toNat 0 [] 0).2.2
/-- PACK_READ (R432, R435): the data of a read on the node go to the Basin at PACK_UADR; those of a Trail read travel in its REPLY. -/
def execPackRead (src : Source) (offset : Word) (count : Nat) (s : State) : Out := s.run fun s =>
  let r := s.packBy src 7 0 offset.toNat [] count
  (if !packSized src count then s else match src with
    | .trail _ => r.2.2
    | _ =>
      if !s.reaches src then s
      else if !inBasin (s.reg Adr.PACK_UADR) count then s.packCode St.range
      else (r.2.2.unloadData (s.reg Adr.PACK_UADR) r.2.1).2)
/-- FUSE (R432): the 32 bytes come from the Basin at PACK_UADR. -/
def execFuse (src : Source) (s : State) : Out := s.run fun s => (s.regBy src Adr.PACK_UCMD 8)

/-! ### Faults, registers -/

/-- TEST (R443). -/
def execTest (src : Source) (u : BitVec 6) (s : State) : Out := s.run fun s => (s.regBy src Adr.FAULT_CMD (1 + 2 ^ 8 * u.toNat))
/-- RETIRE (R444). -/
def execRetire (src : Source) (u : BitVec 6) (s : State) : Out := s.run fun s => (s.regBy src Adr.FAULT_CMD (2 + 2 ^ 8 * u.toNat))
/-- READMIT (R446); pass: the outcome of the unit's test. -/
def execReadmit (src : Source) (u : BitVec 6) (pass : Bool) (s : State) : Out :=
  s.run fun s => (s.writeBy src Adr.FAULT_CMD (3 + 2 ^ 8 * u.toNat) pass)
/-- REGISTER_WRITE (R31, R459): a word of the register blocks. The outcome of a test that the write runs is a free value.
DESIGN CHOICE (log 15, safe). -/
def execRegisterWrite (src : Source) (addr : Word) (value : Word) (s : State) : Out := s.run fun s =>
  let a := addr.toNat
  let d := s.draw
  (if a % 4 = 0 && 0x02000000 ≤ a && a < 0x02010000 then d.2.writeBy src a value.toNat (d.1 % 2 = 1)
    else if s.reaches src then s.refusedBy src else s)

end Sys2Proof.Machine
end

