-- ==== Sys2Proof/Machine/Boot.lean ====
section
/-!
DEFINITION. Boot (R424, R425, R427 to R431): choosing a bank, loading its sections, and the end of boot.
-/
namespace Sys2Proof.Machine

/-! ### LOAD records (R425) -/

/-- The first address after the region of one kind that holds address a. -/
def regionEnd (a : Nat) : Nat :=
  if a < basinSize then basinSize
  else if 0x00F80000 ≤ a && a < 0x01000000 then (a / 0x10000 + 1) * 0x10000
  else if 0x01000000 ≤ a && a < 0x01100000 then (a / 0x800 + 1) * 0x800
  else if 0x01100000 ≤ a && a < 0x01128400 then 0x01128400
  else (a / 4 + 1) * 4

/-- Bytes over part of a voice's words: the words written and the first of them. -/
def State.voiceLoad (s : State) (v off : Nat) (l : List Byte) : Nat × List Nat :=
  let w := off / 2
  let n := (off + l.length + 1) / 2 - w
  let old := (List.range n).flatMap (fun i => natLE 2 (s.vWord v (w + i)))
  let b := old.take (off % 2) ++ l ++ old.drop (off % 2 + l.length)
  (w, (List.range n).map (fun i => leAt b (2 * i) 2))

/-- A word of the SPE window as boot writes it: bank 0 of the program and of the coefficients too. Status and state. -/
def State.speLoadWord (s : State) (a x : Nat) : Nat × State :=
  let o := a - 0x01100000
  if o < 0x20000 then
    if o % 8 = 4 && x / 65536 ≠ 0 then (St.reserved, s)
    else if o < 0x10000 then
      let k := o / 8
      let w := if o % 8 = 0 then putBits (s.progStep k) 31 0 x else putBits (s.progStep k) 47 32 x
      (0, s.setSpe (fun e => { e with prog := Sp.put (fun _ => (0 : BitVec 48)) e.prog k (BitVec.ofNat 48 w) }))
    else (0, s.speWrite a x)
  else if !s24Extended x then (St.range, s)
  else if o < 0x24000 then (0, s.setSpe (fun e => { e with coef := putS24 e.coef (o % 0x4000 / 4) (sx 24 x) }))
  else if o < 0x28000 then (0, s.speWrite a x)
  else (0, s.setSpe (fun e => { e with temps := putS24 e.temps ((o - 0x28000) / 4) (sx 24 x) }))

/-- Bytes over part of the SPE window, word by word. -/
def State.speLoadBytes : Nat → State → Nat → List Byte → Nat × State
  | 0, s, _, _ => (0, s)
  | fuel + 1, s, a, l =>
    if l.isEmpty then (0, s)
    else
      let n := Nat.min l.length (4 - a % 4)
      let old := natLE 4 (s.speRead (a - a % 4))
      let x := leNat (old.take (a % 4) ++ l.take n ++ old.drop (a % 4 + n))
      let r := s.speLoadWord (a - a % 4) x
      if r.1 ≠ 0 then r else State.speLoadBytes fuel r.2 (a + n) (l.drop n)

/-- Bytes of a LOAD within one region: status and state. DEDUCED (log 56, not safe). -/
def State.loadRun (s : State) (a : Nat) (l : List Byte) : Nat × State :=
  match s.place none a with
  | .basin => let r := s.basinWrite Master.host 0 a l; (if r.1.bad then St.crc else if r.1.lost then St.busy else 0, r.2)
  | .lram k off _ => (0, s.lramPut (lramKey k off) l)
  | .voice v w =>
    let r := s.voiceLoad v (2 * w + a % 2) l
    let e := runStatus (s.vWord v) r.1 r.2
    if e.1 ≠ 0 then (e.1, s) else (0, s.setVWords v r.1 r.2)
  | .spe => State.speLoadBytes (l.length + 1) s a l
  | .reg =>
    if a % 4 ≠ 0 || l.length ≠ 4 then (St.align, s)
    else
      let d := s.draw
      let r := d.2.busWrites .boot a [leNat l] (d.1 % 2 = 1)
      (r.1, r.2.2)
  | .unmapped => (St.noaddr, s)

/-- A LOAD, region by region. -/
def State.loadBytes : Nat → State → Nat → List Byte → Nat × State
  | 0, s, _, _ => (0, s)
  | fuel + 1, s, a, l =>
    if l.isEmpty then (0, s)
    else
      let n := Nat.min l.length (regionEnd a - a)
      let r := s.loadRun a (l.take n)
      if r.1 ≠ 0 then r else State.loadBytes fuel r.2 (a + n) (l.drop n)

/-! ### Records (Table PK-4) -/

/-- A SLOTMAP record's entries: slot, node, VALID. -/
def slotMapOf (r : List Byte) : List (Nat × Nat × Bool) :=
  (List.range (byteAt r 5)).map (fun i =>
    let e := leAt r (8 + 2 * i) 2
    (byteAt r 4 + i, bits e 10 0, bit e 15))

/-- A map that gives the two slots of a pair different owners (R299). -/
def pairBroken (m : List (Nat × Nat × Bool)) : Bool :=
  let own (k : Nat) : Option (Nat × Nat × Bool) := m.find? (fun e => e.1 = k)
  (List.range 128).any (fun j =>
    match own (2 * j), own (2 * j + 1) with
    | some x, some y => x.2 ≠ y.2
    | _, _ => false)

/-- One record is applied: its status, and the state. DEDUCED (log 56, not safe). -/
def State.applyRec (s : State) (r : List Byte) : Nat × State :=
  let k := byteAt r 0
  if k = 1 then
    let a := leAt r 4 4
    if a % 4 ≠ 0 then (St.align, s)
    else
      let d := s.draw
      let w := d.2.busWrites .boot a [leAt r 8 4] (d.1 % 2 = 1)
      (w.1, w.2.2)
  else if k = 2 then State.loadBytes (r.length + 1) s (leAt r 4 4) (r.drop 8)
  else if k = 3 then
    let p := s.postImage (r.drop 4) 12
    (p.1, p.2.2)
  else if k = 4 then (0, (s.setPack (fun p => { p with key := some (r.drop 4) })).setFlag Adr.TRAIL_AUTHCTL 2 true)
  else if k = 5 then
    let new := slotMapOf r
    let m := s.pack.slotmap.filter (fun e => !new.any (fun x => x.1 = e.1)) ++ new
    if s.dbl && pairBroken m then (St.range, s) else (0, s.setPack (fun p => { p with slotmap := m }))
  else if k = 6 then
    (0, (s.setPack (fun p => { p with bootTarget := byteAt r 4 })).setFld Adr.PWR_STAT 6 4 (byteAt r 4))
  else
    let n := leAt r 4 2
    if n = 0 || s.speMaxLen < n then (St.range, s) else (0, s.setFld Adr.SPE_PSTAT 13 0 n)

/-- The records of a section in order: the first status that is not OK, and the state. CLK_RATE is written by section 0x02 alone (R466). -/
def State.applyRecs (type : Nat) : State → List (List Byte) → Nat × State
  | s, [] => (0, s)
  | s, r :: t =>
    let e := firstFail [
      (recStatus type r ≠ 0, recStatus type r),
      (byteAt r 0 = 1 && leAt r 4 4 = Adr.CLK_RATE && type ≠ 2, St.mode)]
    if e ≠ 0 then (e, s)
    else
      let a := s.applyRec r
      if a.1 ≠ 0 then a else State.applyRecs type a.2 t

/-- The program in bank 0 keeps Table SP-10 over the length that PROGLEN gave (R425). -/
def State.bootProgram (s : State) : Nat :=
  match speValidate s.speLimit ((List.range (s.fld Adr.SPE_PSTAT 13 0)).map s.progStep) 0 [] 0 with
  | none => 0
  | some (_, rule) => speRuleCode rule

/-- One section: SCRC, its records, its own rules. -/
def State.loadSection (s : State) (b : Nat) (e : Nat × Nat × Nat × Nat × Nat) : Option (Nat × Nat) × State :=
  let data := s.packBytes b e.2.2.1 e.2.2.2.1
  if crc32 data ≠ e.2.2.2.2 then (some (St.crc, 9), s)
  else
    let p := splitRecs (data.length / 8 + 1) data
    let r := State.applyRecs e.1 s p.1
    let w := firstFail [(r.1 ≠ 0, r.1), (wholeStatus e.1 p ≠ 0, wholeStatus e.1 p),
      (e.1 = 8 && r.2.bootProgram ≠ 0, r.2.bootProgram)]
    (if w ≠ 0 then some (w, 10) else none, r.2)

/-- The sections of a bank in table order. -/
def State.loadSections (b : Nat) : State → List (Nat × Nat × Nat × Nat × Nat) → Option (Nat × Nat) × State
  | s, [] => (none, s)
  | s, e :: t =>
    let r := s.loadSection b e
    match r.1 with
    | some f => (some f, r.2)
    | none => State.loadSections b r.2 t

/-! ### Choosing and loading a bank (R427 to R431) -/

/-- The first failure of this boot is kept in PACK_STAT. -/
def State.bootFailed (s : State) (f : Nat × Nat) : State :=
  if s.fld Adr.PACK_STAT 19 16 ≠ 0 then s else (s.setFld Adr.PACK_STAT 15 8 f.1).setFld Adr.PACK_STAT 19 16 f.2

/-- Steps 1 and 2 of R429 for bank b: its failure, and a COMMITLOST record where only rule 1 fails. -/
def State.judgeBank (s : State) (b : Nat) : State :=
  let s := match s.bankFail b with
    | some f => s.bootFailed f
    | none => s
  if !s.commitGood b && (s.headFail b).isNone then
    let d := s.drawStatus
    d.2.logFault 0x03 0 d.1 b (Hdr.seq (s.hdr b)) 0
  else s

/-- What the device has learned of the flash stands in the registers; the log is continued. -/
def State.showFlash (s : State) : State :=
  let v := s.pack.log2size + 2 ^ 5 * (s.bankSize / 0x10000) + 2 ^ 16 * 16 + (if 24 < s.pack.log2size then 2 ^ 21 else 0)
  ((s.setReg Adr.PACK_FLASH v).setFlag Adr.PACK_STAT 5 s.fused).findLog.showCandidates

/-- The banks to load, first choice first: a RELOAD names one, else the higher SEQ, bank 0 where they are equal (R428, R434). -/
def State.bankOrder (s : State) : List Nat :=
  let first := if s.power.reloadBank = 1 then 0 else if s.power.reloadBank = 2 then 1
    else if Hdr.seq (s.hdr 0) < Hdr.seq (s.hdr 1) && s.candidate 1 then 1 else 0
  [first, 1 - first].filter s.candidate

/-- Steps 3 to 5 of R429 on bank b. Registers are written as the host writes them in SERVICE (R425). -/
def State.loadBank (s : State) (b : Nat) : Option (Nat × Nat) × State :=
  let h := s.hdr b
  let s := (s.setFld Adr.PACK_FLASH 15 14 (bits (byteAt h 0x10) 1 0)).setFld Adr.PACK_FLASH 20 16 (byteAt h 0x11)
  let r := State.loadSections b (s.setFld Adr.PWR_STAT 2 0 4) (s.sections b)
  let s := r.2.setFld Adr.PWR_STAT 2 0 6
  match r.1 with
  | some f => (some f, s)
  | none =>
    if s.packCrc b ≠ leAt (s.flashBytes (s.bankBase b) 32) 12 4 then (some (St.crc, 11), s)
    else if !s.signatureGood b then (some (St.auth, 12), s)
    else (none, s)

/-- A bank failed while it loaded (R430): a BOOTFAIL record, and the core domain as after a warm reset, with boot still running.
DEDUCED (log 58, not safe). -/
def State.bootRetry (s : State) (b : Nat) (f : Nat × Nat) : State :=
  let d := s.drawStatus
  let s := (d.2.bootFailed f).logFault 0x02 0 f.1 b (Hdr.seq (s.hdr b)) f.2
  let code := s.reg Adr.PACK_STAT
  let headen := s.flag Adr.HOST_STAT 2
  let r := s.coreReset true true
  let r := ((r.setReg Adr.PACK_STAT code).setFlag Adr.HOST_STAT 2 headen).setFlag Adr.TRAIL_ROLE 2 headen
  let r := r.showFlash.setFlag Adr.CLK_STAT 0 true
  { r with power := { r.power with startup := 3, reloadBank := s.power.reloadBank }
           trail := { r.trail with wantNode := s.trail.wantNode } }

/-- The candidates are tried in order; fallback: the bank is not the first choice. None left: no pack (R431). DEDUCED (log 58, not safe). -/
def State.tryBanks : State → List Nat → Bool → State
  | s, [], _ =>
    (s.setFlag Adr.PACK_STAT 3 true).setPack (fun p => { p with bootBank := none, bootDone := true, bootTarget := 4 })
  | s, b :: t, fallback =>
    let r := s.loadBank b
    match r.1 with
    | none =>
      ((r.2.setFlag Adr.PACK_STAT 0 (b = 1)).setFlag Adr.PACK_STAT 4 fallback).setPack (fun p =>
        { p with bootBank := some b, bootDone := true })
    | some f => State.tryBanks (r.2.bootRetry b f) t true

/-- HEADEN is sampled (R465), and whether and how the pack names a node number (WANTNODE, Table TD-1), which no record of Table PK-4 says:
free values. DESIGN CHOICE (log 50, safe). -/
def State.sampleBoot (s : State) : State :=
  let d := s.draw
  let e := d.2.draw
  let h := d.1 % 2 = 1
  ({ e.2 with
    power := { e.2.power with headenPin := h }
    trail := { e.2.trail with wantNode := if e.1 % 2 = 1 then some (e.1 / 2 % 2048) else none } } : State)

/-- BOOT (R429): steps 1 to 5. Without VDDIO1 the flash cannot be reached (R410). -/
def State.bootStart (s : State) : State :=
  if !s.booting || s.power.held || !s.power.vddao || s.mode ≠ 6 || s.power.startup ≠ 3 || s.pack.bootDone || !s.flashReach then s
  else
    let s := s.sampleBoot
    let s := (s.setFlag Adr.HOST_STAT 2 s.power.headenPin).setFlag Adr.TRAIL_ROLE 2 s.power.headenPin
    let s := ((s.showFlash).judgeBank 0).judgeBank 1
    State.tryBanks s s.bankOrder false

/-- The known-answer tests of boot (R443): which units fail is a free number, one bit for each. DESIGN CHOICE (log 50, safe). -/
def State.bootTests (s : State) : State :=
  let d := s.draw
  ((List.range 64).filter (fun u => hasTest u && bit d.1 u)).foldl (fun s u => (s.chargeTest u).retireUnit u 2) d.2

/-- BOOTED (R429 step 6, R398, R431): the node enters its target once VDDT and VDDA are valid and the PLL has locked. DEDUCED (log 51, not safe).
DEDUCED (log 62, not safe). -/
def State.bootEnds (s : State) : State :=
  if !s.booting || s.power.held || !s.pack.bootDone || !s.flag Adr.CLK_STAT 0 then s
  else
    let m := s.pack.bootTarget
    let s := s.judgeWait m
    if !s.trailSupplies then s
    else
      let s := match s.pack.bootBank with
        | some b =>
          let d := s.storeHash.drawStatus
          d.2.logFault 0x01 0 d.1 b (Hdr.seq (s.hdr b)) (s.reg Adr.PWR_RSTCAUSE)
        | none => s
      let s := s.bootTests
      let s := { s with
        power := { s.power with trans := none, runAge := 0, reloadBank := 0 }
        disp := { s.disp with stopped := m < 4 } }
      let s := ((s.setFld Adr.PWR_STAT 2 0 m).setFlag Adr.PWR_STAT 3 false).setFld Adr.PWR_STAT 6 4 0
      let s := s.setFlag Adr.HOST_STAT 0 false
      let s := s.openRelay
      ((s.pwrPost 0x05 (s.fld Adr.PACK_STAT 0 0) (s.reg Adr.PWR_RSTCAUSE)).raise Cause.boot).raise Cause.mode

/-- BOOT (R429). DESIGN CHOICE (log 2, safe). -/
def execBoot (s : State) : Out := s.run fun s => s.bootStart
/-- BOOTED (R429). -/
def execBooted (s : State) : Out := s.run fun s => s.bootEnds

end Sys2Proof.Machine
end

