-- ==== Sys2Proof/Machine/TrailMsg.lean ====
section
/-!
DEFINITION. What a node does with Trail messages (R294 to R317, R431, R435): which messages it acts on, events, commands and their kept replies,
replies and repeats, joining, the trailhead's table and maps, and the delivery of copies.
-/
namespace Sys2Proof.Machine

/-! ### Outcomes of commands (R309, R461) -/

/-- An outcome of a host command enters the reply ring (R461). -/
def State.ringOutcome (s : State) (dest orig status : Nat) (words : List Nat) : State :=
  let wr := s.fld Adr.HOST_RPLWR 15 0
  let n := 2 ^ s.fld Adr.HOST_RPLCTL 3 1
  if !s.flag Adr.HOST_RPLCTL 0 || n ≤ ringGap wr (s.reg Adr.HOST_RPLRD) then s.count Adr.HOST_RPLLOST
  else
    let b := natLE 2 orig ++ natLE 1 status ++ natLE 1 words.length ++ natLE 2 dest ++ [0, 0] ++ natLE 8 s.time ++ bytesOfWords words
    let s := (s.basinPut Master.trail 0 (s.fld Adr.HOST_RPLBASE 23 8 * 256 + 256 * (wr % n)) ((b ++ List.replicate 256 0).take 256)).2
    (s.setFld Adr.HOST_RPLWR 15 0 ((wr + 1) % 65536)).raise Cause.rpl

/-- A command ends with a status and reply words: the host's goes to the reply ring, a core's to a TMSG record (R309). DEDUCED (log 35, not safe). -/
def State.endCommand (s : State) (c : CmdOut) (status : Nat) (words : List Nat) : State :=
  let s := s.setTrail (fun t => { t with cmds := t.cmds.filter (fun x => x ≠ c) })
  if c.host then s.ringOutcome c.dest c.orig status words
  else s.post 2 (natLE 2 c.orig ++ natLE 1 status ++ [0] ++ natLE 2 c.dest ++ ((bytesOfWords words ++ List.replicate 10 0).take 10))

/-- A REPLY with a command's ORIGSEQ (R309): E_FULL and E_BUSY are repeated while repeats are left. -/
def State.replyTo (s : State) (c : CmdOut) (status : Nat) (words : List Nat) : State :=
  if (status = St.full || status = St.busy) && c.left ≠ 0 then
    s.setTrail (fun t => { t with cmds := t.cmds.map (fun x => if x = c then { c with last := status } else x) })
  else s.endCommand c status words

/-- COMMAND_TIMEOUT (R309): no final REPLY within TIMEOUT of the last attempt. DEDUCED (log 35, not safe). -/
def State.cmdTimeout (s : State) (node : Nat) : State :=
  match s.trail.cmds.find? (fun c => c.dest = node) with
  | none => s
  | some c =>
    if !s.elapsed c.since (s.msTicks (s.fld Adr.TRAIL_CMDCFG 7 0)) then s
    else if c.left = 0 then s.endCommand c c.last []
    else
      let s := s.setTrail (fun t => { t with cmds := t.cmds.map (fun x => if x = c then { c with left := c.left - 1, since := s.clk } else x) })
      s.enqueue c.image false true

/-! ### Commands received (R308, R310, R431, R435) -/

/-- A node without a pack (R431). -/
def State.noPack (s : State) : Bool := s.flag Adr.PACK_STAT 3

/-- The engine that a command type is addressed to (R308, R435). -/
def cmdEngine (t : Nat) : Nat := if t = 0x23 then 3 else if t = 0x24 then 0xC else 0

/-- PACK_XFER (R435): status, reply words, state. -/
def State.packXfer (s : State) (b : List Byte) : Nat × List Nat × State :=
  let op := bits (byteAt b 16) 3 0
  let n := leAt b 22 2
  let r := s.packOp (.trail (Msg.src b)) op (bits (byteAt b 16) 5 4) (leAt b 18 4) ((b.drop 24).take (if op = 2 then n else 0)) n
  (r.1, if r.1 ≠ 0 then [] else if op = 0 then [r.2.2.reg Adr.PACK_USTAT, r.2.2.reg Adr.PACK_UNEXT] else wordsOf r.2.1, r.2.2)

/-- A command is executed: status, reply words, state (Table TD-9). -/
def State.runCommand (s : State) (b : List Byte) : Nat × List Nat × State :=
  let t := Msg.type b
  let a := leAt b 16 4
  let n := byteAt b 20
  if !Msg.knownCommand t || Msg.engine b ≠ cmdEngine t then (St.unknown, [], s)
  else if s.noPack && t ≠ 0x20 && t ≠ 0x24 then (St.mode, [], s)
  else if t = 0x20 then
    if a % 4 ≠ 0 then (St.align, [], s)
    else
      let r := s.readWords a n
      (r.1, r.2.2.1, r.2.2.2)
  else if t = 0x21 then
    if a % 4 ≠ 0 then (St.align, [], s)
    else
      let d := s.draw
      let r := d.2.busWrites (.trail (Msg.src b)) a (wordsOf ((b.drop 22).take (4 * n))) (d.1 % 2 = 1)
      (r.1, [], r.2.2)
  else if t = 0x22 then (0, [s.time % 2 ^ 32, s.time / 2 ^ 32 % 2 ^ 32], s)
  else if t = 0x23 then
    let r := s.offer 1 ((b.drop 16).take 16)
    (match r.1 with | .written => 0 | .full => St.full | .disabled => St.mode, [], r.2)
  else s.packXfer b

/-- The unnumbered image of a REPLY to a command (R308, R312). -/
def State.replyImage (s : State) (b : List Byte) (status : Nat) (words : List Nat) : List Byte :=
  s.hardwareMsg 0x2F 63 (Msg.src b) 0 false false (Msg.auth b && s.pack.key.isSome)
    (natLE 2 (Msg.orig b) ++ natLE 1 status ++ natLE 1 words.length ++ bytesOfWords words)

/-- A command addressed to this node (R310): a kept REPLY is sent again; else it is executed and answered. -/
def State.takeCommand (s : State) (b : List Byte) : State :=
  let asHead := s.isHead && Msg.node b = 0
  match s.trail.kept.find? (fun k => k.src = Msg.src b && k.orig = Msg.orig b) with
  | some k => s.enqueue k.reply asHead false
  | none =>
    let r := s.runCommand b
    let img := r.2.2.replyImage b r.1 r.2.1
    let s := r.2.2
    let s := if r.1 = St.full || r.1 = St.busy then s
      else s.setTrail (fun t => { t with kept := ⟨Msg.src b, Msg.orig b, img⟩ :: t.kept.filter (fun k => k.src ≠ Msg.src b) })
    s.enqueue img asHead false

/-! ### Events (R305) -/

/-- An event that selects the node is queued, or discarded and counted. -/
def State.takeEvent (s : State) (b : List Byte) : State :=
  if s.time + 2 ^ 24 < leAt b 14 8 then s.count Adr.TRAIL_BADMSG
  else
    let r := s.queueEvent (queuedEvent b (Msg.src b) false)
    if r.1 then r.2 else r.2.count Adr.TRAIL_EVFULL

/-! ### Maps (R299) -/

/-- The node's key in a map: 0 for the trailhead role. -/
def State.mapKey (s : State) : Nat := if s.isHead && !s.tookOver then 0 else s.nodeNo

/-- A map epoch received so far. -/
def State.mapOf (s : State) (epoch : Nat) : MapNew := (s.trail.maps.find? (fun m => m.epoch = epoch)).getD ⟨epoch, [], []⟩

/-- A map epoch holds what the node needs: its own entry and every slot. -/
def State.mapWhole (s : State) (m : MapNew) : Bool :=
  m.pos.any (fun p => p.1 = s.mapKey) && (List.range 256).all (fun k => m.slots.any (fun p => p.1 = k))

/-- An EPOCH record (Table TD-11). -/
def State.epochRecord (s : State) : State := s.tstat 0x07 (b2n (s.flag Adr.TRAIL_NODE 12)) 0 (s.reg Adr.TRAIL_EPOCH)

/-- The SLOTOWN words of a map. -/
def slotWords (slots : List (Nat × Nat)) : List Nat :=
  let own (k : Nat) : Nat := ((slots.find? (fun p => p.1 = k)).map (·.2)).getD 0
  (List.range 128).map (fun j => own (2 * j) + 65536 * own (2 * j + 1))

/-- A map comes into force for frames stamped at or after a time. -/
def State.mapApply (s : State) (m : MapNew) (time : Nat) : State :=
  let old := (List.range 128).filterMap (fun j =>
    if s.reg (Adr.TRAIL_SLOTOWN j) = 0 then none else some (j, s.reg (Adr.TRAIL_SLOTOWN j)))
  let ws := slotWords m.slots
  let mine := ((m.pos.find? (fun p => p.1 = s.mapKey)).map (·.2)).getD 0
  let s := s.setTrail (fun t => { t with
    mapTime := time, oldPos := s.fld Adr.TRAIL_POS 10 0, oldOwn := old, wanted := none, posOf := m.pos
    maps := t.maps.filter (fun x => x.epoch ≠ m.epoch) })
  let s := (List.range 128).foldl (fun s j => s.setReg (Adr.TRAIL_SLOTOWN j) (ws.getD j 0)) s
  (((s.setFld Adr.TRAIL_POS 10 0 mine).setReg Adr.TRAIL_EPOCH m.epoch).setFlag Adr.TRAIL_NODE 12 false).epochRecord

/-- MAP_COMMIT acts (R299): an incomplete epoch sets NOMAP until a repeat completes it. -/
def State.mapCommit (s : State) (epoch time : Nat) : State :=
  let m := s.mapOf epoch
  if s.mapWhole m then s.mapApply m time
  else (s.setTrail (fun t => { t with wanted := some epoch })).setNomap true

/-- Entries of an epoch are received; those that complete an epoch already committed bring it into force. -/
def State.mapMerge (s : State) (epoch : Nat) (pos slots : List (Nat × Nat)) : State :=
  if epoch = s.reg Adr.TRAIL_EPOCH && s.trail.wanted ≠ some epoch then s
  else
    let m := s.mapOf epoch
    let m := { m with
      pos := pos ++ m.pos.filter (fun p => !pos.any (fun q => q.1 = p.1))
      slots := slots ++ m.slots.filter (fun p => !slots.any (fun q => q.1 = p.1)) }
    if s.trail.wanted = some epoch && s.mapWhole m then s.mapApply m s.time
    else s.setTrail (fun t => { t with maps := m :: t.maps.filter (fun x => x.epoch ≠ epoch) })

/-- MAPSET (Table TD-5). -/
def State.takeMapset (s : State) (b : List Byte) : State :=
  s.mapMerge (leAt b 14 2) ((List.range (leAt b 16 2)).map (fun i =>
    (bits (leAt b (18 + 4 * i) 4) 10 0, bits (leAt b (18 + 4 * i) 4) 26 16))) []

/-- SLOTSET (Table TD-5): a pair with two owners at the double rates is refused, and nothing changes. -/
def State.takeSlotset (s : State) (b : List Byte) : State :=
  let l := (List.range (byteAt b 17)).map (fun i => (byteAt b 16 + i, leAt b (20 + 2 * i) 2))
  let m := s.mapOf (leAt b 14 2)
  let all := l ++ m.slots.filter (fun p => !l.any (fun q => q.1 = p.1))
  let own (k : Nat) : Option Nat := (all.find? (fun p => p.1 = k)).map (·.2)
  let bad := s.dbl && l.any (fun p =>
    match own (p.1 / 2 * 2), own (p.1 / 2 * 2 + 1) with
    | some x, some y => x ≠ y
    | _, _ => false)
  if bad then s else s.mapMerge (leAt b 14 2) [] l

/-! ### The trailhead's map (R271, R299) -/

/-- The node number that port p's neighbour shows, where it shows one. -/
def State.portNeigh (s : State) (p : Nat) : Option Nat :=
  let n := s.fld (Adr.TRAIL_PSTAT p) 18 8
  if s.flag (Adr.TRAIL_PSTAT p) 3 && n ≠ 0 then some n else none

/-- The node numbers that a row's hello names. -/
def NodeEnt.names (e : NodeEnt) : List Nat :=
  [e.neighA, e.neighB].filterMap (fun w =>
    let n := bits w 10 0
    if n ≠ 0 || bit w 15 then some n else none)

/-- A row placed before those heard earlier. -/
def byHeard (e : NodeEnt) : List NodeEnt → List NodeEnt
  | [] => [e]
  | x :: t => if x.heard < e.heard then e :: x :: t else x :: byHeard e t

/-- The nodes that stand beside a node: those that name it and those that it names, the latest heard first. -/
def State.beside (s : State) (n : Nat) : List Nat :=
  let own := ((s.trail.nodes.find? (fun e => e.node = n)).map NodeEnt.names).getD []
  let l := s.trail.nodes.filter (fun e => e.present && e.node ≠ n && (e.names.contains n || own.contains e.node))
  (l.foldr byHeard []).map (·.node)

/-- The ring order from a node on, away from the nodes already placed. DEDUCED (log 32, not safe). -/
def State.walk (s : State) : Nat → Nat → List Nat → List Nat
  | 0, _, seen => seen
  | f + 1, n, seen =>
    match (s.beside n).find? (fun m => !seen.contains m) with
    | some m => State.walk s f m (seen ++ [m])
    | none => seen

/-- A node that the walk did not meet keeps its place: after the last node whose old position is lower (R271). -/
def placeKept (old : List (Nat × Nat)) (l : List Nat) (n : Nat) : List Nat :=
  let p (x : Nat) : Nat := ((old.find? (fun e => e.1 = x)).map (·.2)).getD 2048
  let k := ((List.range l.length).filter (fun i => p (l.getD i 0) < p n)).foldl (fun _ i => i + 1) 0
  l.take k ++ [n] ++ l.drop k

/-- The order in which copy A passes the other nodes (R271). DEDUCED (log 32, not safe). -/
def State.ringOrder (s : State) : List Nat :=
  let me := s.mapKey
  let rising := if s.trail.a.outCopy then 1 else 0
  let start := match s.portNeigh rising with
    | some n => s.walk 2048 n [me, n]
    | none => s.walk 2048 me [me]
  let order := start.filter (fun n => n ≠ me && s.trail.nodes.any (fun e => e.node = n))
  let rest := (s.trail.nodes.map (·.node)).filter (fun n => n ≠ me && !order.contains n)
  rest.foldl (placeKept s.trail.posOf) order

/-- Positions by node: the trailhead's own, then 1 onwards in ring order. -/
def State.ringPositions (s : State) : List (Nat × Nat) :=
  let mine := s.fld Adr.TRAIL_POS 10 0
  let free := (List.range 2048).filter (fun p => p ≠ 0 && p ≠ mine)
  (s.mapKey, mine) :: s.ringOrder.zip free

/-- Owner entries of the 256 slots by position, converted from the node numbers of the pack (Table PK-4). -/
def State.slotEntries (s : State) (pos : List (Nat × Nat)) : List (Nat × Nat) :=
  (List.range 256).map (fun k =>
    match s.pack.slotmap.find? (fun e => e.1 = k) with
    | some (_, n, true) =>
      (k, if n = 0 then 0x8000 else ((pos.find? (fun p => p.1 = n)).map (fun p => p.2 + 0x8000)).getD 0)
    | _ => (k, 0))

/-- A management message of the trailhead to zone 63. -/
def State.headMsg (s : State) (type : Nat) (body : List Byte) : State :=
  s.enqueue (s.hardwareMsg type 63 0 6 true false false body) true false

/-- The lists of at most n entries that a list is sent in. -/
def chunks {α : Type} (n : Nat) : Nat → List α → List (List α)
  | 0, _ => []
  | f + 1, l => if l.isEmpty then [] else l.take n :: chunks n f (l.drop n)

/-- The MAPSET and SLOTSET messages of a map are queued: how many, and the state. -/
def State.sendMap (s : State) (epoch : Nat) (pos slots : List (Nat × Nat)) : Nat × State :=
  let ps := chunks 48 64 pos
  let ss := chunks 64 8 slots
  let s := ps.foldl (fun s l => s.headMsg 0x33 (natLE 2 epoch ++ natLE 2 l.length ++
    l.flatMap (fun p => natLE 4 (p.1 + 65536 * p.2)))) s
  let s := ss.foldl (fun s l => s.headMsg 0x34 (natLE 2 epoch ++ natLE 1 ((l.headD (0, 0)).1) ++ natLE 1 l.length ++ [0, 0] ++
    l.flatMap (fun p => natLE 2 p.2))) s
  (ps.length + ss.length, s)

/-- A node has been admitted: the new order is sent as the next epoch; its MAP_COMMIT follows (R299). DEDUCED (log 36, not safe). -/
def State.newMap (s : State) : State :=
  let last := s.trail.maps.foldl (fun e m => if (m.epoch + 65536 - e) % 65536 < 32768 then m.epoch else e) (s.reg Adr.TRAIL_EPOCH)
  let epoch := (last + 1) % 65536
  let pos := s.ringPositions
  let slots := s.slotEntries pos
  let r := s.sendMap epoch pos slots
  r.2.setTrail (fun t => { t with
    maps := ⟨epoch, pos, slots⟩ :: t.maps.filter (fun x => x.epoch ≠ epoch)
    commitFor := some epoch })

/-- The map messages of an epoch have gone: its MAP_COMMIT, stamped lead + 2 ms after them (R299). DEDUCED (log 36, not safe). -/
def State.sendCommit (s : State) : State :=
  match s.trail.commitFor with
  | some epoch =>
    if s.trail.txq.any (fun m => Msg.type m.bytes = 0x33 || Msg.type m.bytes = 0x34) then s
    else
      let s := s.setTrail (fun t => { t with commitFor := none })
      s.headMsg 0x0C (natLE 8 (s.time + 512 + s.fld Adr.TRAIL_LEAD 8 0 * 512 + s.msTicks 2) ++ natLE 2 epoch)
  | none => s

/-- MAP_REPEAT (R299): every 100 ms the current map is sent again. -/
def State.mapAgain (s : State) : State :=
  if s.isHead && s.inserted && s.elapsed s.trail.mapSent (s.msTicks 100) then
    let slots := (List.range 256).map (fun k =>
      (k, bits (s.reg (Adr.TRAIL_SLOTOWN (k / 2))) (if k % 2 = 0 then 15 else 31) (if k % 2 = 0 then 0 else 16)))
    let r := s.sendMap (s.reg Adr.TRAIL_EPOCH) (if s.trail.posOf.isEmpty then [(s.mapKey, s.fld Adr.TRAIL_POS 10 0)] else s.trail.posOf) slots
    r.2.setTrail (fun t => { t with mapSent := s.clk })
  else s

/-! ### Joining (R294 to R297) -/

/-- A hello's view of the neighbour of port p (Table TD-1). DEDUCED (log 34, not safe). -/
def State.neighWord (s : State) (p : Nat) : Nat :=
  s.fld (Adr.TRAIL_PSTAT p) 18 8 + (if s.flag (Adr.TRAIL_PSTAT p) 19 then 32768 else 0)

/-- The body of a HELLO (Table TD-1, R431). DEDUCED (log 34, not safe). -/
def State.helloBody (s : State) : List Byte :=
  let want := match s.trail.wantNode with | some n => n + 32768 | none => 0
  let caps := if s.noPack then 0 else b2n s.headEligible + 2 * b2n (s.fld Adr.TRAIL_ROLE 1 0 = 2)
  let hash (a : Nat) : Nat := if s.noPack then 0 else s.reg a
  natLE 8 Config.serial ++ natLE 2 (s.reg Adr.TRAIL_SYSID) ++ natLE 1 s.rateCode ++ natLE 1 caps ++
    natLE 4 (hash Adr.VOICE_HASHLO) ++ natLE 4 (hash Adr.VOICE_HASHHI) ++ natLE 2 (s.neighWord 0) ++ natLE 2 (s.neighWord 1) ++ natLE 2 want

/-- HELLO_TIMER (R294): at the first UP port, then every 20 ms until admitted, every 250 ms after. -/
def State.sayHello (s : State) : State :=
  let up := s.link .a = 3 || s.link .b = 3
  let period := s.msTicks (if s.admitted then 250 else 20)
  let due := s.trail.helloNow || s.elapsed s.trail.helloAt period
  if s.inserted && !s.booting && !s.isHead && up && due && !s.learning then
    let s := s.enqueue (s.hardwareMsg 0x30 63 0 6 false (!s.admitted) false s.helloBody) false false
    s.setTrail (fun t => { t with helloNow := false, helloAt := s.clk })
  else s

/-- A node is admitted, or admitted again: the first message from it opens its window anew (R278). DEDUCED (log 108, not safe). -/
def State.freshWindow (s : State) (n : Nat) : State := s.setTrail (fun t => { t with win := Sp.del t.win n })

/-- A row of the table replaced or added. -/
def State.putNode (s : State) (e : NodeEnt) : State :=
  s.setTrail (fun t => { t with nodes := t.nodes.filter (fun x => x.serial ≠ e.serial && x.node ≠ e.node) ++ [e] })

/-- ADMIT is sent to a row's node (Table TD-3), for the n-th repeat. -/
def State.sendAdmit (s : State) (e : NodeEnt) (n : Nat) : State :=
  let q := s.nextSeq true
  let body := natLE 8 e.serial ++ natLE 2 e.node ++ natLE 2 (s.fld Adr.TRAIL_LEAD 8 0) ++ natLE 4 (s.reg Adr.VOICE_HASHLO) ++
    natLE 4 (s.reg Adr.VOICE_HASHHI) ++ natLE 1 (b2n e.stby) ++ [0]
  (s.headMsg 0x31 body).putNode { e with admitRun := some (q, n, s.clk) }

/-- The checks of Table TD-2 on a HELLO, in order; known: the sender is admitted and present; tagBad: R313. DEDUCED (log 33, not safe). -/
def State.admitStatus (s : State) (b : List Byte) (tagBad : Bool) : Nat :=
  let serial := leAt b 14 8
  firstFail [
    (leAt b 22 2 ≠ s.fld Adr.TRAIL_SYSID 15 0, St.role),
    (byteAt b 24 ≠ s.rateCode, St.rate),
    (s.trail.nodes.any (fun e => e.serial = serial && e.present && e.admitRun.isNone) || serial = Config.serial % 2 ^ 64, St.role),
    (2048 ≤ (s.trail.nodes.filter (fun e => e.serial ≠ serial && e.admitRun.isNone)).length + 1, St.full),
    (tagBad, St.auth)]

/-- The number granted to a serial (R296), none where every number is taken. DEDUCED (log 33, not safe). -/
def State.grantNode (s : State) (serial want : Nat) : Option Nat :=
  let own := if s.tookOver then [s.nodeNo] else []
  let holder (n : Nat) : Option NodeEnt := s.trail.nodes.find? (fun e => e.node = n)
  let free (n : Nat) : Bool := n ≠ 0 && !own.contains n && (holder n).isNone
  let n := bits want 10 0
  match s.trail.nodes.find? (fun e => e.serial = serial) with
  | some e => some e.node
  | none =>
    if bit want 15 && n ≠ 0 && !own.contains n && (match holder n with | some e => !e.present | none => true) then some n
    else (List.range 2048).find? free

/-- A REFUSE and its record (R295, Table TD-11). -/
def State.refuse (s : State) (serial status : Nat) : State :=
  (s.headMsg 0x32 (natLE 8 serial ++ natLE 1 status ++ [0])).tstat 0x09 0 status (serial % 2 ^ 32)

/-- A HELLO from a node that is not admitted (R295 to R297). -/
def State.helloNew (s : State) (b : List Byte) (tagBad : Bool) : State :=
  let serial := leAt b 14 8
  let e := s.admitStatus b tagBad
  if e ≠ 0 then s.refuse serial e
  else match s.grantNode serial (leAt b 38 2) with
  | none => s.refuse serial St.full
  | some n =>
    let a := leAt b 34 2
    let c := leAt b 36 2
    let near := a = 0x8000 || c = 0x8000
    let others := s.trail.nodes.any (fun e => e.serial ≠ serial && e.stby && e.node ≠ n)
    let again := s.trail.nodes.any (fun e => e.serial = serial && e.admitRun.isSome)
    let hash := leAt b 26 4 + 2 ^ 32 * leAt b 30 4
    let s := if again then s else s.freshWindow n
    let s := s.sendAdmit ⟨serial, n, s.clk, true, a, c, bit (byteAt b 25) 1 && near && !others, none⟩ 0
    if !again && hash ≠ s.reg Adr.VOICE_HASHLO + 2 ^ 32 * s.reg Adr.VOICE_HASHHI then s.tstat 0x08 0 0 n else s

/-- A HELLO at the trailhead: an admitted node's refreshes its row. -/
def State.takeHello (s : State) (b : List Byte) (tagBad : Bool) : State :=
  if !s.isHead then s
  else if Msg.isNew b then s.helloNew b tagBad
  else if tagBad then s
  else
    let serial := leAt b 14 8
    let old := s.trail.nodes.find? (fun e => e.serial = serial)
    s.putNode ⟨serial, Msg.src b, s.clk, true, leAt b 34 2, leAt b 36 2, (old.map (·.stby)).getD false,
      (old.bind (·.admitRun))⟩

/-- ADMIT (R297): the node whose serial matches takes it; every other records the entry. DEDUCED (log 31, not safe). DEDUCED (log 108, not safe). -/
def State.takeAdmit (s : State) (b : List Byte) : State :=
  let serial := leAt b 14 8
  let n := leAt b 22 2
  if serial = Config.serial % 2 ^ 64 then
    if s.isHead then s
    else if !s.leadOk (leAt b 24 2) then s.count Adr.TRAIL_BADMSG
    else
      let again := s.admitted && s.nodeNo = n
      let s := s.setReg Adr.TRAIL_NODE (n + 0x800 + (if s.flag Adr.TRAIL_NODE 12 then 0x1000 else 0))
      let s := s.setFld Adr.TRAIL_LEAD 8 0 (leAt b 24 2)
      let s := (s.setReg Adr.VOICE_REFHASHLO (leAt b 26 4)).setReg Adr.VOICE_REFHASHHI (leAt b 30 4)
      let s := s.setRole 3 (bit (byteAt b 34) 0)
      let s := if again then s
        else ((s.setLock 1).setTrail (fun t => { t with needTime := true, helloAt := s.clk, helloNow := false, win := [] })).tstat 0x06 0 0 n
      (s.sendReply 0 (Msg.seq b) 0 [] (Msg.auth b) false).judgeArmed
  else if s.isHead then s
  else ((s.freshWindow n).putNode ⟨serial, n, s.clk, true, 0, 0, bit (byteAt b 34) 0, none⟩).judgeArmed

/-- ADMIT_REPEAT (R297). -/
def State.admitAgain (s : State) (serial : Nat) : State :=
  match s.trail.nodes.find? (fun e => e.serial = serial) with
  | some e =>
    match e.admitRun with
    | some (_, n, t) =>
      if !s.isHead || !s.elapsed t (s.msTicks 10) then s
      else if 5 ≤ n then s.setTrail (fun t => { t with nodes := t.nodes.filter (fun x => x.serial ≠ serial) })
      else s.sendAdmit e (n + 1)
    | none => s
  | none => s

/-- NODE_ABSENT (R296): nothing heard for 1 s. -/
def State.nodeGone (s : State) (n : Nat) : State :=
  match s.trail.nodes.find? (fun e => e.node = n) with
  | some e =>
    if s.isHead && e.present && e.admitRun.isNone && s.elapsed e.heard (s.msTicks 1000) then
      (s.putNode { e with present := false }).tstat 0x0A 0 0 n
    else s
  | none => s

/-- A message of node n was received (R296). -/
def State.heardFrom (s : State) (n : Nat) : State :=
  if n ≠ 0 then
    s.setTrail (fun t => { t with nodes := t.nodes.map (fun e => if e.node = n then { e with heard := s.clk, present := true } else e) })
  else s

/-- A REPLY addressed to this node (R297, R309). -/
def State.takeReply (s : State) (b : List Byte) : State :=
  let status := byteAt b 16
  let words := wordsOf ((b.drop 18).take (4 * byteAt b 17))
  let admits := s.trail.nodes.find? (fun e => e.node = Msg.src b && (match e.admitRun with | some a => a.1 = Msg.orig b | none => false))
  match admits, s.isHead && status = 0 with
  | some e, true => (s.putNode { e with admitRun := none, heard := s.clk }).newMap
  | _, _ =>
    match s.trail.cmds.find? (fun c => c.dest = Msg.src b && c.orig = Msg.orig b) with
    | some c => s.replyTo c status words
    | none => s

/-- HEAD_CLAIM (R316): a generating node that hears another's stops at its next frame boundary. -/
def State.takeClaim (s : State) (b : List Byte) : State :=
  if s.isHead && leAt b 14 8 ≠ Config.serial % 2 ^ 64 then s.setTrail (fun t => { t with stopping := true }) else s

/-! ### Acting on a message (R300, R302, R304, R313) -/

/-- A member of zone z. -/
def State.inZone (s : State) (z : Nat) : Bool :=
  z = 63 || (if z < 32 then s.flag Adr.TRAIL_ZONEMEM0 z else s.flag Adr.TRAIL_ZONEMEM1 (z - 32))

/-- The node is a member of the trail. DEDUCED (log 30, not safe). -/
def State.member (s : State) : Bool := s.admitted || s.isHead

/-- The address of a message selects the node (R300). A node that is not admitted is selected by ADMIT and REFUSE alone. -/
def State.selects (s : State) (b : List Byte) : Bool :=
  if !s.member then Msg.type b = 0x31 || Msg.type b = 0x32
  else if Msg.zd b then s.inZone (Msg.zone b)
  else Msg.node b = s.nodeNo || (s.isHead && Msg.node b = 0)

/-- A message that selects the node, past its checks, is acted on. DEDUCED (log 30, not safe). -/
def State.actOn (s : State) (b : List Byte) : State :=
  let t := Msg.type b
  if Msg.isEvent t then s.takeEvent b
  else if Msg.isCommand t then s.takeCommand b
  else if t = 0x2F then s.takeReply b
  else if t = 0x30 then s.takeHello b false
  else if t = 0x31 then s.takeAdmit b
  else if t = 0x33 then s.takeMapset b
  else if t = 0x34 then s.takeSlotset b
  else if t = 0x35 then s.takeClaim b
  else s

/-- A message that R313 does not let the node act on: a command is answered, a HELLO refused. -/
def State.unauthorised (s : State) (b : List Byte) : State :=
  let s := s.count Adr.TRAIL_AUTHFAIL
  let t := Msg.type b
  if Msg.isCommand t then s.enqueueSigned (s.hardwareMsg 0x2F 63 (Msg.src b) 0 false false false
      (natLE 2 (Msg.orig b) ++ natLE 1 St.auth ++ [0])) (s.isHead && Msg.node b = 0) false false
  else if t = 0x30 then s.takeHello b true
  else s

/-- A node without a pack takes its system ID from the first message of node 0 (R431). -/
def State.learnSysid (s : State) (b : List Byte) : State :=
  if s.learning && Msg.src b = 0 && !Msg.isNew b then
    (s.setFld Adr.TRAIL_SYSID 15 0 (Msg.syschk b)).setTrail (fun t => { t with learned := true })
  else s

/-- A message that reaches the node, received or at its own entry into its first copy. -/
def State.takeMsg (s : State) (b : List Byte) : State :=
  let t := Msg.type b
  let s := if msgMalformed b then s else s.learnSysid b
  if Msg.syschk b ≠ s.fld Adr.TRAIL_SYSID 15 0 then s.count Adr.TRAIL_FOREIGN
  else if msgMalformed b then s.count Adr.TRAIL_BADMSG
  else
    let s := if Msg.isNew b then s else s.heardFrom (Msg.src b)
    let w := if Msg.isNew b then (true, s) else s.windowAccept (Msg.src b) (Msg.seq b)
    let s := w.2
    if !w.1 then s
    else if Msg.unknown t then s.count Adr.TRAIL_UNKMSG
    else if !s.selects b then s
    else if s.authReq && t ≠ 0x2F && !s.tagGood b then s.unauthorised b
    else s.actOn b

/-- Messages that reach the node, in order. -/
def State.takeMsgs (s : State) (l : List (List Byte)) : State := l.foldl (fun s b => s.takeMsg b) s

/-! ### Copies -/

/-- FRAME_DELIVERY (R287): the copy that waits at a port is delivered. -/
def State.deliverCopy (s : State) (p : Port) : State :=
  match (s.port p).copy with
  | none => s
  | some b =>
    let s := s.setPort p (fun t => { t with copy := none })
    let s := if s.member then s.takeSlots b else s
    let s := s.takeRelay p b
    let m := frameMsgs b
    let s := s.takeMsgs m.1
    if m.2.2 then s.count Adr.TRAIL_BADMSG else s

/-! ### Rows -/

/-- A row that carries one message of a type: the message is whole, and the node hears the Trail. -/
def messageRow (types : Nat → Bool) (b : List Byte) (s : State) : Out :=
  if b.length ≠ Msg.len b || !types (Msg.type b) then .fault .illFormed
  else s.run fun s => (if s.inserted && !s.booting then s.takeMsg b else s)

/-- EVENT_MESSAGE (R305). -/
def execEventMessage (b : List Byte) (s : State) : Out := messageRow Msg.isEvent b s
/-- CMD_READ (R308). -/
def execCmdRead (b : List Byte) (s : State) : Out := messageRow (· = 0x20) b s
/-- CMD_WRITE (R308, R458). -/
def execCmdWrite (b : List Byte) (s : State) : Out := messageRow (· = 0x21) b s
/-- TIME_SNAP (R290, R308). -/
def execTimeSnap (b : List Byte) (s : State) : Out := messageRow (· = 0x22) b s
/-- CORE_CMD (R308). -/
def execCoreCmd (b : List Byte) (s : State) : Out := messageRow (· = 0x23) b s
/-- REPLY (R297, R309). -/
def execReply (b : List Byte) (s : State) : Out := messageRow (· = 0x2F) b s
/-- HELLO (R295). -/
def execHello (b : List Byte) (s : State) : Out := messageRow (· = 0x30) b s
/-- ADMIT (R297). -/
def execAdmitMsg (b : List Byte) (s : State) : Out := messageRow (· = 0x31) b s
/-- REFUSE (R295, R297). -/
def execRefuse (b : List Byte) (s : State) : Out := messageRow (· = 0x32) b s
/-- MAPSET (R299). -/
def execMapset (b : List Byte) (s : State) : Out := messageRow (· = 0x33) b s
/-- SLOTSET (R299). -/
def execSlotset (b : List Byte) (s : State) : Out := messageRow (· = 0x34) b s
/-- HEAD_CLAIM (R316). -/
def execHeadClaim (b : List Byte) (s : State) : Out := messageRow (· = 0x35) b s
/-- COMMAND_TIMEOUT (R309). -/
def execCommandTimeout (node : BitVec 11) (s : State) : Out := s.run fun s => (s.cmdTimeout node.toNat)
/-- HELLO_TIMER (R294). -/
def execHelloTimer (s : State) : Out := s.run fun s => s.sayHello
/-- ADMIT_REPEAT (R297). -/
def execAdmitRepeat (serial : BitVec 64) (s : State) : Out := s.run fun s => (s.admitAgain serial.toNat)
/-- MAP_REPEAT (R299). -/
def execMapRepeat (s : State) : Out := s.run fun s => s.mapAgain
/-- NODE_ABSENT (R296). -/
def execNodeAbsent (node : BitVec 11) (s : State) : Out := s.run fun s => (s.nodeGone node.toNat)
/-- FRAME_START (R19, R300). -/
def execFrameStart (s : State) : Out := s.run fun s =>
  let r := s.startFrame
  (r.2.takeMsgs r.1).sendCommit
/-- FRAME_RECEIVED (R267, R300). -/
def execFrameReceived (p : Port) (bytes : List Byte) (codeErrors : Nat) (rx : Nat) (s : State) : Out :=
  if bytes.length ≠ 1024 then .fault .illFormed
  else
    s.run fun s =>
      let r := s.clean.frameIn p bytes codeErrors rx
      (r.2.takeMsgs r.1).settle
/-- FRAME_DELIVERY (R287). -/
def execFrameDelivery (p : Port) (s : State) : Out := s.run fun s => (s.deliverCopy p)

end Sys2Proof.Machine
end

