-- ==== Sys2Proof/Machine/Cycle.lean ====
section
/-!
DEFINITION. The sample cycle (R17 to R28): time, what happens at one sample boundary, the stages of the pipeline, and the events that the
intake takes from the queue.
-/
namespace Sys2Proof.Machine

/-! ### Time -/

/-- The next sample boundary (R17). -/
def State.nextBoundary (s : State) : Nat := (s.time / s.spt + 1) * s.spt

/-- n ticks pass: timers, trail time, watchdog, phase counter, what the Basin and the SPE do by time, and the step instants of the control
outputs (R17, R166, R249, R353). -/
def State.ticksPass (s : State) (n : Nat) : State :=
  let s := (s.timePasses n).wdogRun n
  let s := { s with phase := if s.inserted then s.phase + 16 * n else 0 }
  let s := s.copybackTime.sweepStart
  if s.inserted then (List.range 8).foldl (fun s c => s.stepsTo c s.time) s else s

/-- The phase counter returns to 0 at a boundary (R17). -/
def State.zeroPhase (s : State) : State := { s with phase := s.sub / 16 }

/-! ### Intake (R20, R23, R24, R401) -/

/-- Who made an event, for R130 and R131. -/
def QEvent.vsrc (q : QEvent) (late : Bool) : VSrc := .event q.zone q.zd late

/-- A LEAD or MAP_COMMIT event is taken: it acts at its time, or late as any event does, at the boundary of the intake that takes it (R23, R299,
R306). DEDUCED (log 17, not safe). -/
def State.takeTimed (s : State) (q : QEvent) (b : Nat) (late : Bool) : State :=
  s.setTrail (fun t => { t with timed := t.timed ++ [if late then { q with time := b } else q] })

/-- One event is applied at the intake of the sample whose boundary is b. A stopped Voice Array or SPE refuses it (R401); a refusal counts in
TRAIL_BADMSG (R305). DEDUCED (log 16, not safe). -/
def State.takeQueued (s : State) (b : Nat) (q : QEvent) : State :=
  let late := boundaryAt s.spt q.time < b
  let s := if late then s.count Adr.TRAIL_LATEEV else s
  let bad (s : State) : State := s.count Adr.TRAIL_BADMSG
  match q.act with
  | .voice e =>
    if s.inRun then
      let r := s.voiceEvent e (q.vsrc late) b
      if r.1 then r.2 else bad r.2
    else bad s
  | .tmsg record => s.post 2 record
  | .speCommit noramp =>
    if s.inRun then
      let r := s.speCommit q.time noramp
      let s := r.2.speCcode r.1
      if r.1 = 0 then s else bad s
    else bad s
  | .speSwap len clrt =>
    if s.inRun then
      let r := s.speLoad len clrt q.time
      let s := r.2.spePcode r.1
      if r.1 = 0 then s else bad s
    else bad s
  | .lead n => if s.leadOk n then s.takeTimed q b late else bad s
  | .mapCommit _ => s.takeTimed q b late
  | .refused => bad s

/-- The intake of the sample whose boundary is b: finished voices, events in order, held writes. While the Voice Array is stopped its own part
of the intake does not run, and local writes wait. DEDUCED (log 16, not safe). -/
def State.intake (s : State) (moves fins : List Nat) (b : Nat) : State :=
  let s := if s.inRun then s.intakeEnds moves fins b else s
  let due := s.trail.events.filter (fun q => boundaryAt s.spt q.time ≤ b)
  let s := s.setTrail (fun t => { t with events := t.events.filter (fun q => b < boundaryAt s.spt q.time) })
  let s := due.foldl (fun s q => s.takeQueued b q) s
  if s.inRun then s.intakeWrites b else s

/-- LEAD and MAP_COMMIT events whose time has come act at boundary c. DEDUCED (log 17, not safe). -/
def State.timedEvents (s : State) (c : Nat) : State :=
  let due := s.trail.timed.filter (fun q => boundaryAt s.spt q.time ≤ c)
  let s := s.setTrail (fun t => { t with timed := t.timed.filter (fun q => c < boundaryAt s.spt q.time) })
  due.foldl (fun s q =>
    match q.act with
    | .lead n => s.setFld Adr.TRAIL_LEAD 8 0 n
    | .mapCommit e => s.mapCommit e q.time
    | _ => s) s

/-! ### Presentation (R20, R174) -/

/-- The output slots that are Trail inserts enter the frame stamped at boundary c, by the map that the run used (R174); the two samples of a
cycle at the double rates go into the two slots of a pair, the second into a frame that is being sent (R28). -/
def State.trailInserts (s : State) (c : Nat) (live : Bool) : State :=
  let stamp := c / 512 * 512
  let odd := s.dbl && 256 ≤ c % 512
  let new := if !live then [] else (List.range 16).filterMap (fun i =>
    let w := s.spe.outMap.getD (16 + i) 0
    if bit w 8 then some (stamp, bits w 7 0 + b2n odd, s.spe.out.getD (28 + i) 0) else none)
  let s := s.setTrail (fun t => { t with ins := new ++ t.ins.filter (fun e => c < e.1 + 512 * 512) })
  if odd then (s.headPatch .a stamp).headPatch .b stamp else s

/-- The presentation boundary c of a sample: its number, and every sink. -/
def State.present (s : State) (c : Nat) (inp : BoundaryInput) : State :=
  let live := s.presents && s.trail.realign < 2
  let n := c / s.spt
  let s := (List.range 4).foldl (fun s ch => s.dacBoundary ch) s
  let s := (List.range 8).foldl (fun s ch => s.coutBoundary ch) s
  let s := s.apBoundary n live inp.rx (inp.readback.map (·.val))
  let s := s.trailInserts c live
  if s.presents then s.tapsAndTick n c else s

/-- The 64 input slots of a run (R172 to R174): buses, audio ports, Trail receive taps. -/
def State.slotInputs (s : State) : List Int :=
  (List.range 32).map (fun b => s.voice.bus.getD b 0) ++ (List.range 16).map s.apInput ++
  (List.range 16).map (fun i => s.trail.tapVal.getD i 0)

/-- The process stage of the sample whose boundary is b (R20): the first one at the first boundary after the engines start (R143). -/
def State.process (s : State) (b : Nat) : State :=
  if s.inRun && 1 ≤ s.power.runAge then
    let s := (s.processStart b).tapsFor b
    s.speRun s.slotInputs
  else s

/-- The delay unit at a boundary, in SERVICE and RUN (R159, R160). -/
def State.delayUnit (s : State) : State := if s.coresOn then s.latchLines.stepClears else s

/-- The render stage of the sample whose boundary is b (R20). -/
def State.renderStage (s : State) (residue : List Nat) (b : Nat) : State :=
  if s.inRun && 1 ≤ s.power.runAge then s.renderVoices residue b else s

/-! ### The boundary -/

/-- A node whose generating of frames a claim has ended stops at its frame boundary (R316). -/
def State.headStops (s : State) : State := if s.isHead && s.trail.stopping && s.trail.delay = 0 then s.stopHead else s

/-- What happens at boundary c, which is now. DESIGN CHOICE (log 92, not safe). -/
def State.atBoundary (s : State) (c : Nat) (inp : BoundaryInput) : State :=
  let s := if c % 512 = 0 then s.clean.cycleEnd.headStops else s.clean
  let s := s.realignStep
  let c := if s.trail.realign = 3 then s.time / s.spt * s.spt else c
  let s := s.timedEvents c
  let s := s.realignOff
  let s := s.present c inp
  let s := s.powerBoundary
  let s := s.process (c + s.spt)
  let s := s.delayUnit
  let moves := s.groupsToMove
  let fins := s.sounding.filter (fun v => (s.vRun v).fin)
  let s := s.renderStage (inp.residue.map (·.val)) (c + 2 * s.spt)
  let s := s.intake moves fins (c + 3 * s.spt)
  let s := if s.inRun then { s with power := { s.power with runAge := Nat.min 3 (s.power.runAge + 1) } } else s
  s.tapStops.conflicts.loopStep.settle

/-- SAMPLE_BOUNDARY (R17): time runs on to the next boundary, and its work is done. DESIGN CHOICE (log 92, not safe). -/
def State.boundary (s : State) (inp : BoundaryInput) : State :=
  if !s.inserted then s
  else
    let c := s.nextBoundary
    let s := s.ticksPass (c - 1 - s.time)
    let s := s.staggersAt c
    (s.ticksPass 1).zeroPhase.atBoundary c inp

/-- Nothing comes from outside. -/
def BoundaryInput.quiet : BoundaryInput := ⟨[], [], []⟩

/-- One tick of the base clock, or the rest of one period of the slow clock while that drives the timers (Table TM-1); a boundary that it
reaches does its work. A device without VDDAO, or held in reset, does not run. DESIGN CHOICE (log 1, not safe). -/
def State.tick (s : State) : State :=
  if !s.power.vddao then s
  else if s.power.held then { s with clk := s.clk + 1 }
  else
    let n := if s.tmr.slow then s.slowPeriod.1 - s.tmr.acc else 1
    if s.inserted && s.nextBoundary ≤ s.time + n then s.boundary BoundaryInput.quiet
    else s.ticksPass n

/-- SAMPLE_BOUNDARY (R17). -/
def execSampleBoundary (inp : BoundaryInput) (s : State) : Out := s.run fun s => (s.boundary inp)

/-- COMPARE_MATCH (R390): the next step of channel n crosses its compare value, and that step is made. -/
def execCompareMatch (n : Fin 16) (s : State) : Out := s.run fun s => (if s.nextStepIs n.val false then s.tick else s)

/-- TIMER_WRAP (R387): the next step of channel n wraps, and that step is made. -/
def execTimerWrap (n : Fin 16) (s : State) : Out := s.run fun s => (if s.nextStepIs n.val true then s.tick else s)

end Sys2Proof.Machine
end

