-- ==== Sys2Proof/Machine/HostIf.lean ====
section
/-!
DEFINITION. The SPI target (R453 to R460): what bytes of a frame are, the checks of R455, the operations, and the response. The device acts on the
bytes it sees, so the five rows share one operation: the OP of the frame says what it does, and a frame that ends too soon is an abort.
-/
namespace Sys2Proof.Machine

/-! ### Frames (Table HI-2) -/

namespace Spi
/-- OP. -/
def op (f : List Byte) : Nat := byteAt f 0
/-- ADDR. -/
def addr (f : List Byte) : Nat := leAt f 1 4
/-- COUNT. -/
def count (f : List Byte) : Nat := byteAt f 5
/-- DATA is present. -/
def hasData (f : List Byte) : Bool := (op f = 2 || op f = 4) && 1 ≤ count f && count f ≤ 64
/-- The bytes before CCRC. -/
def bodyLen (f : List Byte) : Nat := if hasData f then 6 + 4 * count f else 6
/-- The frame reaches the last bit of CCRC; bytes that the host clocks after it carry nothing. -/
def complete (f : List Byte) : Bool := 6 ≤ f.length && bodyLen f < f.length
/-- DATA. -/
def data (f : List Byte) : List Byte := (f.drop 6).take (4 * count f)
/-- CCRC is right. -/
def crcGood (f : List Byte) : Bool := crc8 (f.take (bodyLen f)) = byteAt f (bodyLen f)
/-- Steps 1 to 5 of R455. -/
def headStatus (f : List Byte) : Nat := firstFail [
  (!crcGood f, St.crc),
  (op f = 0 || 5 ≤ op f, St.unknown),
  ((op f = 3 && (addr f ≠ 0 || count f ≠ 0)) || (op f = 4 && addr f ≠ 0), St.reserved),
  (op f ≠ 3 && (count f = 0 || 64 < count f), St.range),
  (addr f % 4 ≠ 0, St.align)]
/-- A frame of the host for an operation on words: what a driver of R457 sends. -/
def frame (op addr : Nat) (count : Nat) (data : List Byte) : List Byte :=
  let b := natLE 1 op ++ natLE 4 addr ++ natLE 1 count ++ data
  b ++ natLE 1 (crc8 b)
/-- A READ of the HOST or PWR block alone (R453). -/
def bootRead (f : List Byte) : Bool :=
  let last := addr f + 4 * count f - 4
  op f = 1 && (addr f / 0x1000 = 0x200F || addr f / 0x1000 = 0x2001) && last / 0x1000 = addr f / 0x1000
end Spi

/-- The SPI target works now: inserted, or after a reset's release until boot ends; VDDIO1 supplies its balls (R410, R453). -/
def State.spiServed (s : State) : Bool := (s.inserted || (s.mode = 6 && !s.power.held && s.power.vddao)) && s.supply .vddio1

/-- IRQn is driven low (R463): released during a reset, in REST, LANTERN and OFF, and without VDDIO1. -/
def State.irqLow (s : State) : Bool :=
  s.spiServed && s.reg Adr.HOST_IRQ &&& s.reg Adr.HOST_IRQEN ≠ 0

/-! ### Operations (Table HI-3) -/

/-- SEND (R460): the image, padded with zero bytes to COUNT words. -/
def State.spiSend (s : State) (f : List Byte) : Nat × List Nat × State :=
  let d := Spi.data f
  let n := Msg.len d
  let e := firstFail [
    (Spi.count f ≠ (n + 3) / 4, St.range),
    ((d.drop n).any (· ≠ 0), St.reserved)]
  if e ≠ 0 then (e, [], s)
  else
    let q := s.nextSeq false
    let r := s.sendImage (d.take n) true
    (r.1, if r.1 = 0 then [q] else [], r.2)

/-- The operation of a frame that steps 1 to 5 accept: the status, the word that failed, the data words, and the state. -/
def State.spiOperate (s : State) (f : List Byte) : Nat × Nat × List Nat × State :=
  let a := Spi.addr f
  if s.booting && !Spi.bootRead f then (St.busy, 0, [], s)
  else if Spi.op f = 1 then
    let r := s.readWords a (Spi.count f)
    (r.1, if r.1 = 0 then 0 else r.2.1, r.2.2.1, r.2.2.2)
  else if Spi.op f = 2 then
    let d := s.draw
    let r := d.2.busWrites .host a (wordsOf (Spi.data f)) (d.1 % 2 = 1)
    (r.1, if r.1 = 0 then 0 else r.2.1, [], r.2.2)
  else if Spi.op f = 3 then (0, 0, [s.time % 2 ^ 32, s.time / 2 ^ 32 % 2 ^ 32], s)
  else
    let r := s.spiSend f
    (r.1, 0, r.2.1, r.2.2)

/-- The response from STATUS to RCRC (R455). -/
def spiResponse (status : Nat) (words : List Nat) : List Byte :=
  let b := natLE 1 status ++ (if status = 0 then bytesOfWords words else [])
  b ++ natLE 1 (crc8 b)

/-- The response is driven; a status other than OK is recorded (R455). -/
def State.spiAnswer (s : State) (f : List Byte) (status at_ : Nat) (words : List Nat) : State :=
  let s := if status = 0 then s
    else (s.setReg Adr.HOST_ERR (status + 256 * Spi.op f)).setReg Adr.HOST_ERRADR at_
  { s with host := { s.host with miso := spiResponse status words } }

/-- A frame, from HOST_CSn's fall to its rise. -/
def State.spi (s : State) (f : List Byte) : State :=
  if !s.spiServed then s
  else if !Spi.complete f then s.count Adr.HOST_ABORT
  else
    let e := Spi.headStatus f
    if e ≠ 0 then (if e = St.crc then s.count Adr.HOST_CRCERR else s).spiAnswer f e 0 []
    else
      let r := s.spiOperate f
      r.2.2.2.spiAnswer f r.1 r.2.1 r.2.2.1

/-- SPI_READ (R454, R456). -/
def execSpiRead (frame : List Byte) (s : State) : Out := s.run fun s => (s.spi frame)
/-- SPI_WRITE (R454, R458). -/
def execSpiWrite (frame : List Byte) (s : State) : Out := s.run fun s => (s.spi frame)
/-- SPI_TIME (R454). -/
def execSpiTime (frame : List Byte) (s : State) : Out := s.run fun s => (s.spi frame)
/-- SPI_SEND (R454, R460). -/
def execSpiSend (frame : List Byte) (s : State) : Out := s.run fun s => (s.spi frame)
/-- SPI_ABORT (R456): HOST_CSn rises before the last bit of CCRC. A frame that had all its bytes was executed. -/
def execSpiAbort (frame : List Byte) (s : State) : Out := s.run fun s => (s.spi frame)

end Sys2Proof.Machine
end

