-- ==== Sys2Proof/Machine/Dispatch.lean ====
section
/-!
DEFINITION. The dispatch of a command to its meaning: one arm per constructor of Instr.
-/
namespace Sys2Proof.Machine

/-- The effect of command i on everything but the queue. -/
def exec (i : Instr) (s : State) : Host.Outcome State Fault Refusal :=
  match i with
  | .sampleBoundary inp => Sys2Proof.Machine.execSampleBoundary inp s
  | .rampEnd v => Sys2Proof.Machine.execRampEnd v s
  | .releaseLimit v => Sys2Proof.Machine.execReleaseLimit v s
  | .switchFadeZero v u => Sys2Proof.Machine.execSwitchFadeZero v u s
  | .crossfadeEnd v word => Sys2Proof.Machine.execCrossfadeEnd v word s
  | .glideEnd v word => Sys2Proof.Machine.execGlideEnd v word s
  | .envelopeSegmentEnd v e => Sys2Proof.Machine.execEnvelopeSegmentEnd v e s
  | .lfoWrap v l => Sys2Proof.Machine.execLfoWrap v l s
  | .sampleLoopPoint v o => Sys2Proof.Machine.execSampleLoopPoint v o s
  | .voiceParamWrite src v word values => Sys2Proof.Machine.execVoiceParamWrite src v word values s
  | .recalc src => Sys2Proof.Machine.execRecalc src s
  | .recalcDone => Sys2Proof.Machine.execRecalcDone s
  | .go src => Sys2Proof.Machine.execGo src s
  | .copybackEnd => Sys2Proof.Machine.execCopybackEnd s
  | .ccmdCommit src noramp => Sys2Proof.Machine.execCcmdCommit src noramp s
  | .ccmdCancel src => Sys2Proof.Machine.execCcmdCancel src s
  | .ccmdDiscard src => Sys2Proof.Machine.execCcmdDiscard src s
  | .coefWrite src index value => Sys2Proof.Machine.execCoefWrite src index value s
  | .speTempWrite src index value => Sys2Proof.Machine.execSpeTempWrite src index value s
  | .pcmdLoad src len clrt => Sys2Proof.Machine.execPcmdLoad src len clrt s
  | .pcmdCancel src => Sys2Proof.Machine.execPcmdCancel src s
  | .loadValidated => Sys2Proof.Machine.execLoadValidated s
  | .speDlctl src j value => Sys2Proof.Machine.execSpeDlctl src j value s
  | .delayClear src j value => Sys2Proof.Machine.execDelayClear src j value s
  | .delayClearEnd j => Sys2Proof.Machine.execDelayClearEnd j s
  | .nop k => Sys2Proof.Machine.execNop k s
  | .mov k => Sys2Proof.Machine.execMov k s
  | .movs k => Sys2Proof.Machine.execMovs k s
  | .movz k => Sys2Proof.Machine.execMovz k s
  | .clr k => Sys2Proof.Machine.execClr k s
  | .lea k => Sys2Proof.Machine.execLea k s
  | .ldp k => Sys2Proof.Machine.execLdp k s
  | .stp k => Sys2Proof.Machine.execStp k s
  | .ldsw k => Sys2Proof.Machine.execLdsw k s
  | .stsw k => Sys2Proof.Machine.execStsw k s
  | .cas k => Sys2Proof.Machine.execCas k s
  | .xadd k => Sys2Proof.Machine.execXadd k s
  | .add k => Sys2Proof.Machine.execAdd k s
  | .addc k => Sys2Proof.Machine.execAddc k s
  | .sub k => Sys2Proof.Machine.execSub k s
  | .subc k => Sys2Proof.Machine.execSubc k s
  | .adds k => Sys2Proof.Machine.execAdds k s
  | .subs k => Sys2Proof.Machine.execSubs k s
  | .neg k => Sys2Proof.Machine.execNeg k s
  | .abs k => Sys2Proof.Machine.execAbs k s
  | .cmp k => Sys2Proof.Machine.execCmp k s
  | .tst k => Sys2Proof.Machine.execTst k s
  | .min k => Sys2Proof.Machine.execMin k s
  | .max k => Sys2Proof.Machine.execMax k s
  | .mul k => Sys2Proof.Machine.execMul k s
  | .div k => Sys2Proof.Machine.execDiv k s
  | .and k => Sys2Proof.Machine.execAnd k s
  | .or k => Sys2Proof.Machine.execOr k s
  | .xor k => Sys2Proof.Machine.execXor k s
  | .andn k => Sys2Proof.Machine.execAndn k s
  | .not k => Sys2Proof.Machine.execNot k s
  | .shl k => Sys2Proof.Machine.execShl k s
  | .shr k => Sys2Proof.Machine.execShr k s
  | .sar k => Sys2Proof.Machine.execSar k s
  | .rol k => Sys2Proof.Machine.execRol k s
  | .bfx k => Sys2Proof.Machine.execBfx k s
  | .bfi k => Sys2Proof.Machine.execBfi k s
  | .clz k => Sys2Proof.Machine.execClz k s
  | .cls k => Sys2Proof.Machine.execCls k s
  | .perm k => Sys2Proof.Machine.execPerm k s
  | .ftoa k => Sys2Proof.Machine.execFtoa k s
  | .rnda k => Sys2Proof.Machine.execRnda k s
  | .mulf k => Sys2Proof.Machine.execMulf k s
  | .macf k => Sys2Proof.Machine.execMacf k s
  | .mscf k => Sys2Proof.Machine.execMscf k s
  | .macm k => Sys2Proof.Machine.execMacm k s
  | .bcc k => Sys2Proof.Machine.execBcc k s
  | .bal k => Sys2Proof.Machine.execBal k s
  | .jmp k => Sys2Proof.Machine.execJmp k s
  | .done k => Sys2Proof.Machine.execDone k s
  | .post k => Sys2Proof.Machine.execPost k s
  | .signal k => Sys2Proof.Machine.execSignal k s
  | .cancel k => Sys2Proof.Machine.execCancel k s
  | .send k => Sys2Proof.Machine.execSend k s
  | .time k => Sys2Proof.Machine.execTime k s
  | .cyc k => Sys2Proof.Machine.execCyc k s
  | .trap k => Sys2Proof.Machine.execTrap k s
  | .trapBudget k => Sys2Proof.Machine.execTrapBudget k s
  | .successorListEntry => Sys2Proof.Machine.execSuccessorListEntry s
  | .dispatch => Sys2Proof.Machine.execDispatch s
  | .instantiate q => Sys2Proof.Machine.execInstantiate q s
  | .dspPost src => Sys2Proof.Machine.execDspPost src s
  | .dspSignal src index => Sys2Proof.Machine.execDspSignal src index s
  | .dspCancel src index => Sys2Proof.Machine.execDspCancel src index s
  | .dspDsel src index => Sys2Proof.Machine.execDspDsel src index s
  | .sweepRegion bad => Sys2Proof.Machine.execSweepRegion bad s
  | .eccWriteback w => Sys2Proof.Machine.execEccWriteback w s
  | .remapComplete => Sys2Proof.Machine.execRemapComplete s
  | .basinClearEnd => Sys2Proof.Machine.execBasinClearEnd s
  | .frameStart => Sys2Proof.Machine.execFrameStart s
  | .frameHeader p bytes rx => Sys2Proof.Machine.execFrameHeader p bytes rx s
  | .frameReceived p bytes codeErrors rx => Sys2Proof.Machine.execFrameReceived p bytes codeErrors rx s
  | .frameDelivery p => Sys2Proof.Machine.execFrameDelivery p s
  | .eventMessage bytes => Sys2Proof.Machine.execEventMessage bytes s
  | .cmdRead bytes => Sys2Proof.Machine.execCmdRead bytes s
  | .cmdWrite bytes => Sys2Proof.Machine.execCmdWrite bytes s
  | .timeSnap bytes => Sys2Proof.Machine.execTimeSnap bytes s
  | .coreCmd bytes => Sys2Proof.Machine.execCoreCmd bytes s
  | .reply bytes => Sys2Proof.Machine.execReply bytes s
  | .commandTimeout node => Sys2Proof.Machine.execCommandTimeout node s
  | .helloTimer => Sys2Proof.Machine.execHelloTimer s
  | .hello bytes => Sys2Proof.Machine.execHello bytes s
  | .admitMsg bytes => Sys2Proof.Machine.execAdmitMsg bytes s
  | .admitRepeat serial => Sys2Proof.Machine.execAdmitRepeat serial s
  | .refuse bytes => Sys2Proof.Machine.execRefuse bytes s
  | .mapset bytes => Sys2Proof.Machine.execMapset bytes s
  | .slotset bytes => Sys2Proof.Machine.execSlotset bytes s
  | .mapRepeat => Sys2Proof.Machine.execMapRepeat s
  | .nodeAbsent node => Sys2Proof.Machine.execNodeAbsent node s
  | .headClaim bytes => Sys2Proof.Machine.execHeadClaim bytes s
  | .headTakeover => Sys2Proof.Machine.execHeadTakeover s
  | .headListenEnd => Sys2Proof.Machine.execHeadListenEnd s
  | .signalDetect p => Sys2Proof.Machine.execSignalDetect p s
  | .commaFound p => Sys2Proof.Machine.execCommaFound p s
  | .trainingSet p set => Sys2Proof.Machine.execTrainingSet p set s
  | .los p => Sys2Proof.Machine.execLos p s
  | .trainingFailure p => Sys2Proof.Machine.execTrainingFailure p s
  | .portRealign p => Sys2Proof.Machine.execPortRealign p s
  | .relayTime => Sys2Proof.Machine.execRelayTime s
  | .locked => Sys2Proof.Machine.execLocked s
  | .holdover => Sys2Proof.Machine.execHoldover s
  | .holdoverExit e => Sys2Proof.Machine.execHoldoverExit e s
  | .slewEnd => Sys2Proof.Machine.execSlewEnd s
  | .realignMuteEnd => Sys2Proof.Machine.execRealignMuteEnd s
  | .trailLeadWrite src value => Sys2Proof.Machine.execTrailLeadWrite src value s
  | .snap src => Sys2Proof.Machine.execSnap src s
  | .trailTimeloRead src => Sys2Proof.Machine.execTrailTimeloRead src s
  | .aportCtl src p value => Sys2Proof.Machine.execAportCtl src p value s
  | .sapFrameReceived p frame => Sys2Proof.Machine.execSapFrameReceived p frame s
  | .txFrameStart p => Sys2Proof.Machine.execTxFrameStart p s
  | .clkstop p => Sys2Proof.Machine.execClkstop p s
  | .ratechg p => Sys2Proof.Machine.execRatechg p s
  | .clkback p => Sys2Proof.Machine.execClkback p s
  | .csBlock p cs ub => Sys2Proof.Machine.execCsBlock p cs ub s
  | .csupd src p value => Sys2Proof.Machine.execCsupd src p value s
  | .aportLoopctl src value => Sys2Proof.Machine.execAportLoopctl src value s
  | .loopRelease => Sys2Proof.Machine.execLoopRelease s
  | .adacCtl src value => Sys2Proof.Machine.execAdacCtl src value s
  | .dacFadeEnd c => Sys2Proof.Machine.execDacFadeEnd c s
  | .coutCtl src c value => Sys2Proof.Machine.execCoutCtl src c value s
  | .slewStep c => Sys2Proof.Machine.execSlewStep c s
  | .rangeClampEnd c => Sys2Proof.Machine.execRangeClampEnd c s
  | .outputShort u => Sys2Proof.Machine.execOutputShort u s
  | .compl c => Sys2Proof.Machine.execCompl c s
  | .complclr c => Sys2Proof.Machine.execComplclr c s
  | .complPersist c => Sys2Proof.Machine.execComplPersist c s
  | .receiveCharacter n ch => Sys2Proof.Machine.execReceiveCharacter n ch s
  | .transmitCharacter n => Sys2Proof.Machine.execTransmitCharacter n s
  | .deTail n => Sys2Proof.Machine.execDeTail n s
  | .serDiv src n value => Sys2Proof.Machine.execSerDiv src n value s
  | .autorate src n value => Sys2Proof.Machine.execAutorate src n value s
  | .serRxdata src n => Sys2Proof.Machine.execSerRxdata src n s
  | .serTxdata src n value => Sys2Proof.Machine.execSerTxdata src n value s
  | .lineStuck n => Sys2Proof.Machine.execLineStuck n s
  | .lineIdle n => Sys2Proof.Machine.execLineIdle n s
  | .sendHeader src n value => Sys2Proof.Machine.execSendHeader src n value s
  | .frameResponseTimeout n => Sys2Proof.Machine.execFrameResponseTimeout n s
  | .dmxTransmitPacket n => Sys2Proof.Machine.execDmxTransmitPacket n s
  | .dmxReceivePacket n pkt => Sys2Proof.Machine.execDmxReceivePacket n pkt s
  | .dmxloss n => Sys2Proof.Machine.execDmxloss n s
  | .sendRdm src n value => Sys2Proof.Machine.execSendRdm src n value s
  | .rdmTimeout n => Sys2Proof.Machine.execRdmTimeout n s
  | .compareMatch n => Sys2Proof.Machine.execCompareMatch n s
  | .timerWrap n => Sys2Proof.Machine.execTimerWrap n s
  | .capture n rising => Sys2Proof.Machine.execCapture n rising s
  | .timerSourceChange => Sys2Proof.Machine.execTimerSourceChange s
  | .tmrCntWrite src n value => Sys2Proof.Machine.execTmrCntWrite src n value s
  | .tmrCntRead src n => Sys2Proof.Machine.execTmrCntRead src n s
  | .tmrCtl src n value => Sys2Proof.Machine.execTmrCtl src n value s
  | .staggerStart src g value => Sys2Proof.Machine.execStaggerStart src g value s
  | .modeLantern src => Sys2Proof.Machine.execModeLantern src s
  | .modeRest src => Sys2Proof.Machine.execModeRest src s
  | .modeRelay src => Sys2Proof.Machine.execModeRelay src s
  | .modeService src => Sys2Proof.Machine.execModeService src s
  | .modeRun src => Sys2Proof.Machine.execModeRun src s
  | .modeEntered => Sys2Proof.Machine.execModeEntered s
  | .wake => Sys2Proof.Machine.execWake s
  | .wakeBurst => Sys2Proof.Machine.execWakeBurst s
  | .pwrWakesend src value => Sys2Proof.Machine.execPwrWakesend src value s
  | .wakeBurstEnd p => Sys2Proof.Machine.execWakeBurstEnd p s
  | .supplyInvalid u => Sys2Proof.Machine.execSupplyInvalid u s
  | .supplyValid u => Sys2Proof.Machine.execSupplyValid u s
  | .coldReset => Sys2Proof.Machine.execColdReset s
  | .warmReset cause => Sys2Proof.Machine.execWarmReset cause s
  | .brownout => Sys2Proof.Machine.execBrownout s
  | .powerOff => Sys2Proof.Machine.execPowerOff s
  | .sysReset src value => Sys2Proof.Machine.execSysReset src value s
  | .watchdogExpiry => Sys2Proof.Machine.execWatchdogExpiry s
  | .lxtal => Sys2Proof.Machine.execLxtal s
  | .lxfail => Sys2Proof.Machine.execLxfail s
  | .oscok => Sys2Proof.Machine.execOscok s
  | .pllLock => Sys2Proof.Machine.execPllLock s
  | .boot => Sys2Proof.Machine.execBoot s
  | .booted => Sys2Proof.Machine.execBooted s
  | .packStatus src => Sys2Proof.Machine.execPackStatus src s
  | .packBegin src => Sys2Proof.Machine.execPackBegin src s
  | .eraseDone => Sys2Proof.Machine.execEraseDone s
  | .packWrite src offset data => Sys2Proof.Machine.execPackWrite src offset data s
  | .verify src => Sys2Proof.Machine.execVerify src s
  | .verifyDone => Sys2Proof.Machine.execVerifyDone s
  | .commit src => Sys2Proof.Machine.execCommit src s
  | .commitDone => Sys2Proof.Machine.execCommitDone s
  | .abort src => Sys2Proof.Machine.execAbort src s
  | .reload src bank => Sys2Proof.Machine.execReload src bank s
  | .packRead src offset count => Sys2Proof.Machine.execPackRead src offset count s
  | .fuse src => Sys2Proof.Machine.execFuse src s
  | .faultLogWrite => Sys2Proof.Machine.execFaultLogWrite s
  | .test src u => Sys2Proof.Machine.execTest src u s
  | .testDone pass => Sys2Proof.Machine.execTestDone pass s
  | .retire src u => Sys2Proof.Machine.execRetire src u s
  | .readmit src u pass => Sys2Proof.Machine.execReadmit src u pass s
  | .spiRead frame => Sys2Proof.Machine.execSpiRead frame s
  | .spiWrite frame => Sys2Proof.Machine.execSpiWrite frame s
  | .spiTime frame => Sys2Proof.Machine.execSpiTime frame s
  | .spiSend frame => Sys2Proof.Machine.execSpiSend frame s
  | .spiAbort frame => Sys2Proof.Machine.execSpiAbort frame s
  | .registerWrite src addr value => Sys2Proof.Machine.execRegisterWrite src addr value s
  | .resetRelease => Sys2Proof.Machine.execResetRelease s
  | .wclkEdge period toBoundary => Sys2Proof.Machine.execWclkEdge period toBoundary s
  | .trapIllegal k => Sys2Proof.Machine.execTrapIllegal k s
  | .instructionFetchFault k => Sys2Proof.Machine.execInstructionFetchFault k s
  | .pageProgramDone => Sys2Proof.Machine.execPageProgramDone s

end Sys2Proof.Machine
end

