-- ==== Sys2Proof/WellFormed.lean ====
section
/-!
DEFINITION. Well-formed commands: the byte lists of a command have the lengths that the link, the line or the message itself fixes (Tables
TL-3, TL-4, TD-6, AP-3, R382). Every other operand is bounded by its type.
-/
namespace Sys2Proof

/-- One whole Trail message (Table TD-6): its LEN byte is its length, and its TYPE is one that the row carries. -/
def wholeMessage (types : Nat → Bool) (b : List Byte) : Bool :=
  b.length = (b.getD 0 0).toNat && types (b.getD 1 0).toNat

/-- Whether a command's operands are ones that the outside can give. DESIGN CHOICE (log 4, safe). -/
def Instr.wf : Instr → Bool
  | .frameHeader _ bytes _ => bytes.length = 16
  | .frameReceived _ bytes _ _ => bytes.length = 1024
  | .csBlock _ cs ub => cs.length = 48 && ub.length = 48
  | .dmxReceivePacket _ pkt => !pkt.slots.isEmpty
  | .eventMessage b => wholeMessage (fun t => 0x01 ≤ t && t ≤ 0x0D) b
  | .cmdRead b => wholeMessage (· = 0x20) b
  | .cmdWrite b => wholeMessage (· = 0x21) b
  | .timeSnap b => wholeMessage (· = 0x22) b
  | .coreCmd b => wholeMessage (· = 0x23) b
  | .reply b => wholeMessage (· = 0x2F) b
  | .hello b => wholeMessage (· = 0x30) b
  | .admitMsg b => wholeMessage (· = 0x31) b
  | .refuse b => wholeMessage (· = 0x32) b
  | .mapset b => wholeMessage (· = 0x33) b
  | .slotset b => wholeMessage (· = 0x34) b
  | .headClaim b => wholeMessage (· = 0x35) b
  | _ => true

end Sys2Proof
end

