-- ==== Sys2Proof/Safety.lean ====
section
/-!
DEFINITION. What counts as a safe run: every waiting command is well formed, and no step stops. The canonical forms of the sparse stores,
in which equal contents are equal data.
-/
namespace Sys2Proof.Machine

/-- The canonical form of a byte memory whose unlisted bytes read 0: addresses strictly rising, no entry of the value 0.
DEDUCED (log 43, not safe). -/
def Memory.wf (m : List Host.Cell) : Bool := Sp.wf (fun _ => (0 : Byte)) m

/-- The canonical form of the flash, whose unlisted bytes are erased. -/
def Flash.wf (m : List Host.Cell) : Bool := Sp.wf (fun _ => (0xFF : Byte)) m

/-- The canonical form of the registers: an unlisted register reads its reset value. -/
def Regs.wf (r : List (Nat × Word)) : Bool := Sp.wf regReset r

/-- The memories and the registers of a node stand in their canonical forms. -/
def State.canonical (s : State) : Bool :=
  Memory.wf s.basin.bytes && Memory.wf s.lram && Flash.wf s.pack.flash && Regs.wf s.regs

/-- Every unit of the node has its state: 8 cores, 12 source rings, 8 audio ports, 4 DACs, 8 control outputs, 2 serial ports, 16 timers. -/
def State.shaped (s : State) : Bool :=
  s.cores.length = 8 && s.disp.rings.length = 12 && s.aports.ports.length = 8 && s.ana.dacs.length = 4 && s.ana.couts.length = 8 &&
  s.ser.length = 2 && s.tmr.chans.length = 16

/-- A step answered a next state. DESIGN CHOICE (log 4, safe). -/
def completes : Out → Bool
  | .next _ => true
  | _ => false

/-- Every command that waits is one that the outside can give. -/
def State.queueWf (s : State) : Bool := s.pending.all Instr.wf

/-! ### An accepted write -/

/-- A write of v to the register at address a by a source is accepted (R458, R459): the source reaches the node, every rule about the register alone
holds, and so does every rule that relates it to others, on the node that the write leaves. -/
def State.accepts (s : State) (src : Source) (a v : Nat) : Bool :=
  s.reaches src && s.regStatus src a v = 0 &&
  match regRow a with
  | some r => codeReg a || (ruleFail [a] ((s.regApply r a v).rulesFor [a])).isNone
  | none => false

/-! ### A core about to execute -/

/-- Core k, in a node whose cores run, is about to execute instruction c of item i: its budget is not used up (R203), and the fetch at its PC
brings c, len bytes long, from the Basin words listed, at a cost. -/
def State.about (s : State) (k : Fin 8) (i : Nat) (c : CoreInstr) (len : Nat) (words : List Nat) (cost : Nat) : Prop :=
  s.coresOn = true ∧ (s.coreAt k.val).item = some i ∧ (s.coreAt k.val).cycles < s.budgetOf i ∧
  s.fetch k.val = (.instr c len, words, cost)

/-- The operands of the instruction that core k is about to execute, its specifiers evaluated in order (R186, step 1). -/
def State.operands (s : State) (k : Fin 8) (c : CoreInstr) (len : Nat) (words : List Nat) (cost : Nat) : CX :=
  (s.begin k c len words cost).evalSpecs (match opRow c.major with | some r => r.ops | none => []) c.ops

/-- The node as y leaves it, its core with new registers and n more cycles. -/
def CX.leaves (y : CX) (pc sw wp : Nat) (ptr : List Nat) (n : Nat) : State :=
  { y.s with
    fresh := y.s.fresh + 1
    cores := y.s.cores.set y.k.val { y.s.coreAt y.k.val with
      pc := pc, sw := sw, wp := wp, a0 := ptr.getD 0 0, a1 := ptr.getD 1 0, a2 := ptr.getD 2 0, a3 := ptr.getD 3 0
      cycles := (y.s.coreAt y.k.val).cycles + n } }

/-- Command i completes: memories and units are as y leaves them, the core's registers as given, at least 1 and at most the worst-case cycles
of R202 are counted, and nothing else changes. -/
def completesAs (i : Instr) (s : State) (y : CX) (pc sw wp : Nat) (ptr : List Nat) : Prop :=
  ∃ n, 1 ≤ n ∧ n ≤ y.cost + eCycles y.instr.major y.instr.size ∧
    exec i s = .next ((y.leaves pc sw wp ptr n).queued s.pending)

end Sys2Proof.Machine
end

