-- ==== Sys2Proof/Certificates/Slice0/Obligations.lean ====
section
/-!
DEFINITION. The statements about the Z512 that the provers prove: one definition Obligations.<Name> each. Claims.<name> are the lists and
descriptions that statements share.
-/
open Sys2Proof Sys2Proof.Machine

/-- A node t that differs from s only in what records posted to source rings and to the registers can change: the Basin, the rings and the registers;
the descriptors, the ready list and the records of items stay. -/
def Claims.onlyPosts (s t : State) : Prop :=
  t = { s with
    regs := t.regs, basin := t.basin, disp := { s.disp with rings := t.disp.rings }
    voice := { s.voice with dirtied := t.voice.dirtied } }

/-- Every register but those listed, and those that a posted record can change, reads as before. -/
def Claims.regsBut (s t : State) (l : List Nat) : Prop :=
  ∀ a, a ∉ l → a ≠ Adr.HOST_IRQ → a ≠ Adr.VOICE_HASHCTL → a ≠ Adr.BASIN_COLFLAG → (∀ q, q < 12 → a ≠ Adr.DSP_SRCLOST q) → t.reg a = s.reg a

/-- n bytes of the Basin at a can be written as they are: no word that they cover in part holds an error, and no other write of this FCLK cycle reached
one of the words (R241). -/
def Claims.clear (s : State) (a n : Nat) : Prop :=
  (∀ w ∈ touchedWords a n, w ∉ fullWords a n → s.eccOf w = none) ∧ ∀ g ∈ s.basin.groups, g.word ∈ touchedWords a n → g.clk ≠ s.clk

/-- Every command c and every node s: a step of s with c at the front of its queue is exec c on s with the queue's rest, and a step on an
empty queue is one tick of the clock (the model's choice, log entry 1). -/
def Obligations.StepRunsTheFrontCommand : Prop :=
  ∀ (s : State) (c : Instr) (rest : List Instr),
    step (s.queued (c :: rest)) = exec c (s.queued rest) ∧ step (s.queued []) = .next ((s.queued []).tick.queued [])

/-- A command completes exactly when its byte lists have the lengths and types that the link, the line or the message fixes; no command is refused.
It takes effect on everything but the queue, and what the queue holds makes no difference to its effect.
That an ill-formed list faults is the model's choice (log entry 4). -/
def Obligations.CommandsCompleteAndLeaveTheQueue : Prop :=
  (∀ (i : Instr) (s t : State), exec i s = .next t → t.pending = s.pending) ∧
  (∀ (i : Instr) (s : State), (i.wf = true ↔ ∃ t, exec i s = .next t) ∧ (i.wf = false ↔ exec i s = .fault .illFormed))

/-- A node whose waiting commands are all well formed never stops: n steps run, whatever its registers and memories hold; each takes one
command off the queue, in order, and the clock ticks after the last.
The tick on an empty queue is the model's choice (log entry 1). -/
def Obligations.WellFormedNodesNeverStop : Prop :=
  ∀ (n : Nat) (s : State), s.queueWf = true →
    ∃ t, Host.Core.run Sys2Proof.core n s = .next t ∧ t.queueWf = true ∧ t.pending = s.pending.drop n

/-- What every step keeps: the Basin, the local RAM, the flash and the registers stand in their one canonical form, so that equal contents
are equal data. From every node that has it, not only from runs that start at reset. -/
def Obligations.StepsKeepTheCanonicalForm : Prop :=
  ∀ s t : State, s.canonical = true → step s = .next t → t.canonical = true

/-- Registers whose reset value is not 0 (the reset column of the register tables), by address, but for the identity of VOICE_GRPSLICE. -/
def Claims.resetValues : List (Nat × Nat) :=
  [(Adr.SYS_ID, 0x00010512), (Adr.PWR_STAT, 0x0E), (Adr.PWR_RSTCAUSE, 0x01), (Adr.PWR_WAKECFG, 0x0B), (Adr.PWR_WDOG, 1000),
   (Adr.DSP_STAT, 0x400), (Adr.DSP_CQCTL, 10), (Adr.BASIN_REPWIN, 1000), (Adr.SPE_BLOCK, 5), (Adr.TRAIL_LEAD, 72),
   (Adr.VOICE_NOTICEEN, 0x1F2), (Adr.VOICE_LIGHTCFG, 0xFF), (Adr.TRAIL_RELAYT, 5), (Adr.TRAIL_CMDCFG, 0x304), (Adr.APORT_LOOPCTL, 0x20), (Adr.ADAC_CTL, 0xF),
   (Adr.PACK_ULEN, 4), (Adr.FAULT_CFG, 0x03E80003), (Adr.HOST_STAT, 3), (Adr.HOST_IRQEN, 1), (Adr.BASIN_SWCTL, 0x03E80001),
   (Adr.TRAIL_ZONEMEM1, 0x80000000), (Adr.PACK_FLASH, 0x00100000)] ++
  (List.range 12).map (fun q => (Adr.DSP_SRCCFG q, if q = 6 then 0x40000 else 0x10000)) ++
  (List.range 8).flatMap (fun p => [(Adr.APORT_CTL p, if 6 ≤ p then 2 else 0), (Adr.APORT_FMT p, if p < 4 then 0x424 else 0),
    (Adr.APORT_RXRCTL p, if p < 6 then 2 else 0), (Adr.APORT_TXRCTL p, if p < 4 ∨ 6 ≤ p then 2 else 0), (Adr.APORT_TLEVEL p, if p < 6 then 4 else 0),
    (Adr.COUT_CTL p, 0x100), (Adr.COUT_SLEW p, 0x100), (Adr.COUT_STAT p, 0x60000)]) ++
  (List.range 2).flatMap (fun n => [(Adr.SER_CTL n, 0xD00), (Adr.SER_FMT n, 8), (Adr.SER_DIV n, 0xD5), (Adr.SER_STAT n, 0x100000), (Adr.SER_DE n, 0x101),
    (Adr.SER_STUCK n, 100), (Adr.SER_DMXCTL n, 0x03E80000), (Adr.SER_DMXTIM n, 0x2E18B0)]) ++
  (List.range 16).map (fun n => (Adr.TMR_STAT n, 0x100))

/-- The state after a cold reset: nothing waits, the memories, the Basin and the flash list nothing, every descriptor is FREE, the cores hold no
item and every stage is at rest; a register reads the reset value that its row of the register map gives, which for those named is the tables',
and an address that names no register holds nothing. It is in canonical form.
The values that no table gives, and the erased flash, are the model's choice (log entries 41 to 43); a field that does not apply to an audio port's
kind is 0 by R343 (log 73). -/
def Obligations.ResetLeavesTheTableValues : Prop :=
  State.reset.canonical = true ∧ State.reset.pending = [] ∧ (∀ a, State.reset.memByte a = 0) ∧ State.reset.disp.desc = [] ∧
  (∀ k : Fin 8, State.reset.coreAt k.val = Core.idle) ∧
  (∀ p ∈ Claims.resetValues, State.reset.reg p.1 = p.2) ∧
  (∀ g : Fin 32, State.reset.reg (Adr.VOICE_GRPSLICE g.val) = g.val) ∧
  (∀ a r, regRow a = some r → a < Adr.VOICE_GRPSLICE 0 ∨ Adr.VOICE_GRPSLICE 32 ≤ a → r.reset < 2 ^ 32 → State.reset.reg a = r.reset) ∧
  (∀ a, regRow a = none → a < Adr.VOICE_GRPSLICE 0 ∨ Adr.VOICE_GRPSLICE 32 ≤ a → State.reset.reg a = 0) ∧
  (∀ c : Fin 16, State.reset.reg (Adr.SPE_RLEN c.val) = 0) ∧ (∀ u : Fin 64, State.reset.reg (Adr.FAULT_ERR u.val) = 0) ∧
  State.reset.voice = VoiceArr.reset ∧ State.reset.spe = Spe.reset ∧ State.reset.trail = Trail.reset ∧ State.reset.aports = APorts.reset ∧
  State.reset.ana = Ana.reset ∧ State.reset.tmr = Tmrs.reset

/-! ### Control cores (chapter 06) -/

/-- Instructions that read two sources and write a destination (Table CC-6): constructor, MAJOR, and the result from the instruction,
SW before it, and the two codes read; none where R194 traps. -/
def Claims.twoSource : List ((Fin 8 → Instr) × Nat × (CoreInstr → Nat → Nat → Nat → Option CRes)) := [
  (.add, 0x0D, fun c _ a b => some (addRes (sizeBits c.size) a b 0)),
  (.addc, 0x0E, fun c sw a b => some (addRes (sizeBits c.size) a b (b2n (bit sw 0))).chainZ),
  (.sub, 0x0F, fun c _ a b => some (subRes (sizeBits c.size) a b 0)),
  (.subc, 0x10, fun c sw a b => some (subRes (sizeBits c.size) a b (b2n (bit sw 0))).chainZ),
  (.adds, 0x11, fun c _ a b => some (satRes (sizeBits c.size) (sx (sizeBits c.size) a + sx (sizeBits c.size) b))),
  (.subs, 0x12, fun c _ a b => some (satRes (sizeBits c.size) (sx (sizeBits c.size) a - sx (sizeBits c.size) b))),
  (.min, 0x17, fun c _ a b => some (minMaxRes (sizeBits c.size) false (bit c.word.toNat 4) a b)),
  (.max, 0x18, fun c _ a b => some (minMaxRes (sizeBits c.size) true (bit c.word.toNat 4) a b)),
  (.mul, 0x19, fun c _ a b => some (mulRes (sizeBits c.size) a b)),
  (.div, 0x1A, fun c _ a b => divRes (sizeBits c.size) (bits c.word.toNat 5 4) a b),
  (.and, 0x1B, fun c _ a b => some (logicRes (sizeBits c.size) (a &&& b))),
  (.or, 0x1C, fun c _ a b => some (logicRes (sizeBits c.size) (a ||| b))),
  (.xor, 0x1D, fun c _ a b => some (logicRes (sizeBits c.size) (a ^^^ b))),
  (.andn, 0x1E, fun c _ a b => some (logicRes (sizeBits c.size) (a &&& (2 ^ sizeBits c.size - 1 - b)))),
  (.shl, 0x20, fun c _ a n => some (shlRes (sizeBits c.size) a n)),
  (.shr, 0x21, fun c _ a n => some (shrRes (sizeBits c.size) a n)),
  (.sar, 0x22, fun c _ a n => some (sarRes (sizeBits c.size) a n)),
  (.rol, 0x23, fun c _ a n => some (rolRes (sizeBits c.size) a n)),
  (.perm, 0x28, fun c _ a b => some (permRes a b (c.ext.toNat % 4096))),
  (.mulf, 0x2B, fun c _ a b => some (mulfRes (sizeBits c.size) (bits c.word.toNat 5 4) a b))]

/-- Instructions that read one source and write a destination: constructor, MAJOR, and the result from the instruction, the bits of
the destination, and the code read. -/
def Claims.oneSource : List ((Fin 8 → Instr) × Nat × (CoreInstr → Nat → Nat → CRes)) := [
  (.mov, 0x02, fun c _ a => resZN (sizeBits c.size) (a : Int)),
  (.movs, 0x03, fun c d a => resZN d (sx (sizeBits c.size) a)),
  (.movz, 0x04, fun _ d a => resZN d (a : Int)),
  (.neg, 0x13, fun c _ a => subRes (sizeBits c.size) 0 a 0),
  (.abs, 0x14, fun c _ a => absRes (sizeBits c.size) a),
  (.not, 0x1F, fun c _ a => logicRes (sizeBits c.size) (2 ^ sizeBits c.size - 1 - a)),
  (.bfx, 0x24, fun c _ a => bfxRes (sizeBits c.size) a c.ext.toNat),
  (.clz, 0x26, fun c _ a => clzRes (sizeBits c.size) a),
  (.cls, 0x27, fun c _ a => clsRes (sizeBits c.size) a),
  (.ftoa, 0x29, fun c _ a => ftoaRes (sizeBits c.size) a),
  (.rnda, 0x2A, fun c _ a => rndaRes (sizeBits c.size) (bits c.word.toNat 5 4) a)]

/-- SW after writes that y made: COL is set where one of them was dropped in a collision (R182). -/
def Claims.col (sw : Nat) (y : CX) : Nat := if y.lost then putBit sw 6 true else sw

/-- A row of Claims.twoSource: the instruction reads its two sources in order, writes the result to its third operand and sets SW from the result. -/
def Claims.writesTwo (p : (Fin 8 → Instr) × Nat × (CoreInstr → Nat → Nat → Nat → Option CRes)) : Prop :=
  ∀ (s : State) (k : Fin 8) (i len cost : Nat) (c : CoreInstr) (words : List Nat) (r : CRes),
    s.about k i c len words cost → c.major = p.2.1 →
    let x := s.operands k c len words cost
    let a := x.get 0
    let b := a.2.get 1
    let y := b.2.put 2 r.val
    p.2.2 c (s.coreAt k.val).sw a.1 b.1 = some r → y.trap = none →
    completesAs (p.1 k) s y (((s.coreAt k.val).pc + len) % 2 ^ 32) (r.sw (Claims.col (s.coreAt k.val).sw y)) (s.coreAt k.val).wp x.ptr

/-- A row of Claims.oneSource: the instruction reads its source, writes the result to its second operand and sets SW from the result. -/
def Claims.writesOne (p : (Fin 8 → Instr) × Nat × (CoreInstr → Nat → Nat → CRes)) : Prop :=
  ∀ (s : State) (k : Fin 8) (i len cost : Nat) (c : CoreInstr) (words : List Nat),
    s.about k i c len words cost → c.major = p.2.1 →
    let x := s.operands k c len words cost
    let a := x.get 0
    let r := p.2.2 c (x.width 1) a.1
    let y := a.2.put 1 r.val
    y.trap = none →
    completesAs (p.1 k) s y (((s.coreAt k.val).pc + len) % 2 ^ 32) (r.sw (Claims.col (s.coreAt k.val).sw y)) (s.coreAt k.val).wp x.ptr

/-- Item i of core k ends by a trap that leaves everything as it stood but for the words, of those listed, whose errors were met; at least 1 and at
most worst cycles count; unit is the one that the fault rule charges. -/
def Claims.trapsAs (s : State) (k : Fin 8) (i : Nat) (ins : Instr) (endCode at_ worst : Nat) (words : List Nat) (unit : Option Nat) : Prop :=
  let u := s.checkTouched k.val words
  ∃ n, 1 ≤ n ∧ n ≤ worst ∧
    let e := ({ u with fresh := u.fresh + 1 } : State).endItem k.val i endCode 0 at_ ((u.coreAt k.val).cycles + n)
    exec ins s = .next (State.queued (match unit with | some v => (e.clean.noteErr v).settle | none => e) s.pending)

/-- R186, R188: an instruction with one or two sources reads them in order, writes its result to its last operand, sets SW from the result (and COL where the write was dropped, R182), steps
the PC past itself and leaves A0 to A3 as its specifiers left them; WP and every memory byte it does not store stay.
The cycles are a free value (log entry 11). -/
def Obligations.SourceInstructionsWriteTheirResult : Prop :=
  (∀ p ∈ Claims.twoSource, Claims.writesTwo p) ∧ ∀ p ∈ Claims.oneSource, Claims.writesOne p

/-- R188, R194 to R200: the instructions that read an operand and write it back. BFI inserts a field into d; MACF and MSCF change an
accumulator; MACM writes the moved sample first and the accumulator second; CAS writes d or e, and where its write is dropped in a collision reports Z = 0 with
the word that stands in memory in e; XADD writes r first and d second. A dropped write sets COL (R182).
The cycles are a free value (log entry 11). -/
def Obligations.ReadModifyWriteInstructionsWriteBack : Prop :=
  ∀ (s : State) (k : Fin 8) (i len cost : Nat) (c : CoreInstr) (words : List Nat),
    s.about k i c len words cost →
    let x := s.operands k c len words cost
    let done (ins : Instr) (y : CX) (sw : Nat → Nat) : Prop :=
      y.trap = none →
      completesAs ins s y (((s.coreAt k.val).pc + len) % 2 ^ 32) (sw (Claims.col (s.coreAt k.val).sw y)) (s.coreAt k.val).wp x.ptr
    let a := x.get 0
    let b := a.2.get 1
    let d := b.2.get 2
    let product := macProduct (sizeBits c.size) (bits c.word.toNat 5 4) a.1 b.1
    (c.major = 0x25 → let r := bfiRes (sizeBits c.size) a.1 b.1 c.ext.toNat; done (.bfi k) (b.2.put 1 r.val) r.sw) ∧
    (c.major = 0x2C → let r := accRes d.1 product; done (.macf k) (d.2.put 2 r.val) r.sw) ∧
    (c.major = 0x2D → let r := accRes d.1 (-product); done (.mscf k) (d.2.put 2 r.val) r.sw) ∧
    (c.major = 0x2E →
      let r := accRes d.1 product
      let size := (x.op 1).2
      done (.macm k) ((d.2.write 1 ((d.2.addr 1 + size) % 2 ^ 32) (natLE size b.1)).put 2 r.val) r.sw) ∧
    (c.major = 0x0B →
      let x := x.lockedPlace 2
      let e := x.get 0
      let n := e.2.get 1
      let d := n.2.get 2
      let y := d.2.put 2 n.1
      (d.1 = e.1 → y.lost = false → done (.cas k) y (putBit · 2 true)) ∧
      (d.1 = e.1 → y.lost = true → done (.cas k) (y.put 0 (leNat (y.s.memBytes (x.addr 2) 4))) (putBit · 2 false)) ∧
      (d.1 ≠ e.1 → done (.cas k) ((d.2.put 0 d.1).spend (if x.addr 2 < basinSize then 20 else 1)) (putBit · 2 false))) ∧
    (c.major = 0x0C →
      let x := x.lockedPlace 1
      let a := x.get 0
      let d := a.2.get 1
      let r := addRes 32 d.1 a.1 0
      done (.xadd k) ((d.2.put 2 d.1).put 1 r.val) r.sw)

/-- R179, R186, R188, R190, R201: the instructions that compare, move a core register, or branch. CMP and TST write nothing; LDP and LDSW load a register, which
prevails over a pointer step of the same instruction; STP, STSW, LEA, CLR, TIME and CYC store; COL is set where the store was dropped. Bcc goes to its target exactly when COND holds, and steps past
itself otherwise; BAL stores the address of the next instruction first; JMP goes to the word it reads.
The cycles are a free value (log entry 11). -/
def Obligations.RegisterAndBranchInstructions : Prop :=
  (∀ (s : State) (k : Fin 8) (i len cost : Nat) (c : CoreInstr) (words : List Nat),
    s.about k i c len words cost →
    let x := s.operands k c len words cost
    let pc := ((s.coreAt k.val).pc + len) % 2 ^ 32
    let sw := (s.coreAt k.val).sw
    let wp := (s.coreAt k.val).wp
    let w := sizeBits c.size
    let a := x.get 0
    let b := a.2.get 1
    let old (p : Nat) : Nat :=
      let r := x.s.coreAt k.val
      [r.a0, r.a1, r.a2, r.a3].getD p r.wp
    (c.major = 0x01 → x.trap = none → completesAs (.nop k) s x pc sw wp x.ptr) ∧
    (c.major = 0x15 → b.2.trap = none → completesAs (.cmp k) s b.2 pc ((subRes w a.1 b.1 0).compare.sw sw) wp x.ptr) ∧
    (c.major = 0x16 → a.2.trap = none → completesAs (.tst k) s a.2 pc ((tstRes w a.1).sw sw) wp x.ptr) ∧
    (c.major = 0x07 → a.2.trap = none →
      (c.opt < 4 → completesAs (.ldp k) s a.2 pc sw wp (x.ptr.set c.opt a.1)) ∧
      (4 ≤ c.opt → completesAs (.ldp k) s a.2 pc sw a.1 x.ptr)) ∧
    (c.major = 0x09 → a.2.trap = none → completesAs (.ldsw k) s a.2 pc (a.1 % 128) wp x.ptr) ∧
    let stores (ins : Instr) (y : CX) (f : Nat → Nat) : Prop := y.trap = none → completesAs ins s y pc (f (Claims.col sw y)) wp x.ptr
    (c.major = 0x08 → stores (.stp k) (x.put 0 (old c.opt)) id) ∧
    (c.major = 0x0A → stores (.stsw k) (x.put 0 sw) id) ∧
    (c.major = 0x06 → stores (.lea k) (x.put 1 (x.addr 0)) id) ∧
    (c.major = 0x05 → stores (.clr k) (x.put 0 0) (fun sw => putBit (putBit sw 2 true) 3 false)) ∧
    (c.major = 0x38 → stores (.time k) (x.putBytes 0 (natLE 8 x.s.time)) id) ∧
    (c.major = 0x39 → stores (.cyc k) (x.put 0 (x.s.coreAt k.val).cycles) id)) ∧
  (∀ (s : State) (k : Fin 8) (i len cost : Nat) (c : CoreInstr) (words : List Nat),
    s.about k i c len words cost →
    let x := s.operands k c len words cost
    let pc := ((s.coreAt k.val).pc + len) % 2 ^ 32
    let sw := (s.coreAt k.val).sw
    let wp := (s.coreAt k.val).wp
    (c.major = 0x30 → x.trap = none →
      (condHolds c.cond sw = true → completesAs (.bcc k) s (x.spend 1) (x.addr 0) sw wp x.ptr) ∧
      (condHolds c.cond sw = false → completesAs (.bcc k) s x pc sw wp x.ptr)) ∧
    (c.major = 0x31 → (x.put 1 pc).trap = none →
      completesAs (.bal k) s (x.put 1 pc) (x.addr 0) (Claims.col sw (x.put 1 pc)) wp x.ptr) ∧
    (c.major = 0x32 → (x.get 0).2.trap = none → completesAs (.jmp k) s (x.get 0).2 (x.get 0).1 sw wp x.ptr))

/-- R31, R32, R183, R186: what an operand write changes: exactly the operand's bytes, little endian, an accumulator as 8 bytes with the sign of bit 55, in the Basin
where no other write of the same FCLK cycle reached the same words (R241), or in the core's own local RAM; every other byte of both, every engine and
the core's own pointers, SW and PC stay. Wherever it meets other writes in the Basin, every byte outside the words it touches stays, and SW gains COL
exactly when the write was dropped (R182). A literal is not written. -/
def Obligations.OperandWritesStoreTheirBytesOnly : Prop :=
  ∀ (x : CX) (i v : Nat),
    let n := (x.op i).2
    let l := if n = 8 then natLE 8 (ux 64 (sx 56 v)) else natLE n v
    let y := x.put i v
    let same := y.trap = x.trap ∧ y.ptr = x.ptr ∧ y.wp = x.wp ∧ y.sw = x.sw ∧ y.next = x.next ∧ y.ending = x.ending
    let clear (a : Nat) : Prop := ∀ w ∈ touchedWords a l.length, w ∉ fullWords a l.length → x.s.eccOf w = none
    (∀ u, (x.op i).1 = .val u → y = x) ∧
    (∀ a, (x.op i).1 = .at a → a + l.length ≤ 0xC00000 → clear a → x.lost = false →
      y.sw = Claims.col x.sw y ∧ y.trap = x.trap ∧
      ∀ b, b < a / 4 * 4 ∨ (a + l.length + 3) / 4 * 4 ≤ b → y.s.memByte b = x.s.memByte b) ∧
    (∀ a, (x.op i).1 = .at a → a + l.length ≤ 0xC00000 → clear a →
      (∀ g ∈ x.s.basin.groups, g.word ∈ touchedWords a l.length → g.clk ≠ x.s.clk) →
      (∀ b, y.s.memByte b = if a ≤ b ∧ b < a + l.length then l.getD (b - a) 0 else x.s.memByte b) ∧ same ∧
      y.s = { x.s with regs := y.s.regs, basin := y.s.basin, voice := { x.s.voice with dirtied := y.s.voice.dirtied } } ∧
      ∀ r, r ≠ Adr.VOICE_HASHCTL → y.s.reg r = x.s.reg r) ∧
    (∀ a, (x.op i).1 = .at a → 0x00F00000 ≤ a → a + l.length ≤ 0x00F10000 → x.s.lramEcc = [] →
      let key (b : Nat) : Nat := 0x10000 * x.k.val + (b - 0x00F00000)
      (∀ b, 0x00F00000 ≤ b → b < 0x00F10000 → Sp.get (fun _ => (0 : Byte)) y.s.lram (key b) =
        if a ≤ b ∧ b < a + l.length then l.getD (b - a) 0 else Sp.get (fun _ => (0 : Byte)) x.s.lram (key b)) ∧ same ∧
      y.s = { x.s with lram := y.s.lram } ∧
      ∀ j, j / 0x10000 ≠ x.k.val → Sp.get (fun _ => (0 : Byte)) y.s.lram j = Sp.get (fun _ => (0 : Byte)) x.s.lram j)

/-- R207 to R209, R488: POST, SIGNAL, CANCEL and SEND make their request of the node that the operand reads leave, write its status to r and
set Z exactly when the status is OK (and COL where the write of r was dropped); where r cannot be written the instruction traps (TrapsArePrecise).
The cycles are a free value (log entry 11). -/
def Obligations.RequestInstructionsAnswerTheirStatus : Prop :=
  ∀ (s : State) (k : Fin 8) (i len cost : Nat) (c : CoreInstr) (words : List Nat),
    s.about k i c len words cost →
    let x := s.operands k c len words cost
    let answers (ins : Instr) (y : CX) (status word : Nat) : Prop :=
      (y.put 1 word).trap = none →
      completesAs ins s (y.put 1 word) (((s.coreAt k.val).pc + len) % 2 ^ 32)
        (putBit (Claims.col (s.coreAt k.val).sw (y.put 1 word)) 2 (status = 0))
        (s.coreAt k.val).wp x.ptr
    let i := x.get 0
    (c.major = 0x34 →
      let b := x.read 0 (x.addr 0) 32
      let r := b.2.s.postImage b.1 13
      answers (.post k) { b.2 with s := r.2.2 } r.1 (r.1 + (if r.1 = 0 then r.2.1 * 2 ^ 16 else 0))) ∧
    (c.major = 0x35 → let r := i.2.s.pullPeg i.1 14; answers (.signal k) { i.2 with s := r.2 } r.1 r.1) ∧
    (c.major = 0x36 → let r := i.2.s.cancelDesc i.1; answers (.cancel k) { i.2 with s := r.2 } r.1 r.1) ∧
    (c.major = 0x37 →
      let n := leNat (x.read 0 (x.addr 0) 1).1
      let b := x.read 0 (x.addr 0) (Nat.max 1 n)
      let r := b.2.s.sendImage (b.1.take n) false
      answers (.send k) { b.2 with s := r.2 } r.1 r.1)

/-- R203, R205, R206: an item ends with DONE and a status of Table SC-7, with TRAP and its code in the record, or, its budget used up, with
TRAP_BUDGET before the next instruction is fetched: with that end code, status, PC and cycle count.
The cycles are a free value (log entry 11). -/
def Obligations.ItemsEndWithTheirEndCode : Prop :=
  ∀ (s : State) (k : Fin 8) (i : Nat),
    (∀ (len cost : Nat) (c : CoreInstr) (words : List Nat), s.about k i c len words cost →
      let x := s.operands k c len words cost
      let a := x.get 0
      let ends (ins : Instr) (endCode : Nat) : Prop :=
        ∃ n, 1 ≤ n ∧ n ≤ a.2.cost + eCycles c.major c.size ∧
          exec ins s = .next
            (((a.2.leaves (((s.coreAt k.val).pc + len) % 2 ^ 32) (s.coreAt k.val).sw (s.coreAt k.val).wp x.ptr n).endItem
              k.val i endCode a.1 (s.coreAt k.val).pc ((a.2.s.coreAt k.val).cycles + n)).queued s.pending)
      a.2.trap = none →
      (c.major = 0x33 → a.1 ≤ 0x12 → ends (.done k) 0x00) ∧ (c.major = 0x3A → ends (.trap k) 0x15)) ∧
    (s.coresOn = true → (s.coreAt k.val).item = some i → s.budgetOf i ≤ (s.coreAt k.val).cycles →
      exec (.trapBudget k) s = .next
        ((s.endItem k.val i 0x13 0 (s.coreAt k.val).pc (s.coreAt k.val).cycles).queued s.pending))

/-- The core instructions with their own effects on the operands. -/
def Claims.coreRows : List ((Fin 8 → Instr) × Nat × (CX → CX)) := [
  (.nop, 0x01, id), (.mov, 0x02, Eff.mov), (.movs, 0x03, Eff.movs), (.movz, 0x04, Eff.movz), (.clr, 0x05, Eff.clr), (.lea, 0x06, Eff.lea),
  (.ldp, 0x07, Eff.ldp), (.stp, 0x08, Eff.stp), (.ldsw, 0x09, Eff.ldsw), (.stsw, 0x0A, Eff.stsw), (.cas, 0x0B, Eff.cas),
  (.xadd, 0x0C, Eff.xadd), (.add, 0x0D, Eff.add), (.addc, 0x0E, Eff.addc), (.sub, 0x0F, Eff.sub), (.subc, 0x10, Eff.subc),
  (.adds, 0x11, Eff.adds), (.subs, 0x12, Eff.subs), (.neg, 0x13, Eff.neg), (.abs, 0x14, Eff.abs), (.cmp, 0x15, Eff.cmp),
  (.tst, 0x16, Eff.tst), (.min, 0x17, Eff.min), (.max, 0x18, Eff.max), (.mul, 0x19, Eff.mul), (.div, 0x1A, Eff.div), (.and, 0x1B, Eff.and),
  (.or, 0x1C, Eff.or), (.xor, 0x1D, Eff.xor), (.andn, 0x1E, Eff.andn), (.not, 0x1F, Eff.not), (.shl, 0x20, Eff.shl), (.shr, 0x21, Eff.shr),
  (.sar, 0x22, Eff.sar), (.rol, 0x23, Eff.rol), (.bfx, 0x24, Eff.bfx), (.bfi, 0x25, Eff.bfi), (.clz, 0x26, Eff.clz), (.cls, 0x27, Eff.cls),
  (.perm, 0x28, Eff.perm), (.ftoa, 0x29, Eff.ftoa), (.rnda, 0x2A, Eff.rnda), (.mulf, 0x2B, Eff.mulf), (.macf, 0x2C, Eff.macf),
  (.mscf, 0x2D, Eff.mscf), (.macm, 0x2E, Eff.macm), (.bcc, 0x30, Eff.bcc), (.bal, 0x31, Eff.bal), (.jmp, 0x32, Eff.jmp),
  (.done, 0x33, Eff.done), (.post, 0x34, Eff.post), (.signal, 0x35, Eff.signal), (.cancel, 0x36, Eff.cancel), (.send, 0x37, Eff.send),
  (.time, 0x38, Eff.time), (.cyc, 0x39, Eff.cyc), (.trap, 0x3A, Eff.trap)]

/-- R210, R487: a trap is precise. Whatever the instruction had done, the node from which its item ends holds every memory, pointer, SW and
PC as they stood before it, but for the words whose errors its reads met (R244); at least one cycle of it counts.
The order of the traps of one instruction is the model's reading (log entry 10), its cycles a free value (log entry 11). -/
def Obligations.TrapsArePrecise : Prop :=
  ∀ (s : State) (k : Fin 8) (i : Nat),
    let pc := (s.coreAt k.val).pc
    let traps := Claims.trapsAs s k i
    (∀ p ∈ Claims.coreRows, ∀ (len cost : Nat) (c : CoreInstr) (words : List Nat) (t : CTrap),
      s.about k i c len words cost → c.major = p.2.1 →
      let x := p.2.2 (s.operands k c len words cost)
      x.trap = some t → traps (p.1 k) t.code pc (x.cost + eCycles c.major c.size) x.words t.unit) ∧
    (s.coresOn = true → (s.coreAt k.val).item = some i → (s.coreAt k.val).cycles < s.budgetOf i →
      (∀ words cost, s.fetch k.val = (.illegal, words, cost) → traps (.trapIllegal k) 0x10 pc (cost + 1) words none) ∧
      (∀ code at_ unit words cost, s.fetch k.val = (.fault code at_ unit, words, cost) →
        traps (.instructionFetchFault k) code at_ (cost + 1) words unit))

/-- R191, R192: the sums and differences of the cores are modular in their width; C is the carry out or the borrow, V says that the signed
result does not fit, a wrap in 56 bits sets GOV; the chained forms clear Z on a non-zero result and otherwise leave it. -/
def Obligations.SumsAndDifferencesSetTheirFlags : Prop :=
  (∀ w a b cin : Nat, 0 < w → a < 2 ^ w → b < 2 ^ w → cin ≤ 1 →
    let fits (x : Int) : Prop := -(2 ^ (w - 1) : Int) ≤ x ∧ x < (2 ^ (w - 1) : Int)
    let s := addRes w a b cin
    let d := subRes w a b cin
    s.val = (a + b + cin) % 2 ^ w ∧ s.c = some (decide (2 ^ w ≤ a + b + cin)) ∧
    (s.v = some true ↔ ¬ fits (sx w a + sx w b + cin)) ∧ (s.gov = true ↔ w = 56 ∧ s.v = some true) ∧
    s.z = some (decide (s.val = 0)) ∧ s.n = some (bit s.val (w - 1)) ∧
    d.val = (a + 2 ^ (w + 1) - b - cin) % 2 ^ w ∧ d.c = some (decide (a < b + cin)) ∧
    (d.v = some true ↔ ¬ fits (sx w a - sx w b - cin)) ∧ (d.gov = true ↔ w = 56 ∧ d.v = some true) ∧
    d.z = some (decide (d.val = 0)) ∧ d.n = some (bit d.val (w - 1)) ∧
    s.chainZ.z = (if s.val = 0 then none else some false) ∧ d.chainZ.z = (if d.val = 0 then none else some false)) ∧
  ∀ q ∈ [0x0D, 0x0E, 0x0F, 0x10], ∀ p ∈ Claims.twoSource, p.2.1 = q → Claims.writesTwo p

/-- R193: the shifts, for every count. SHL and SHR give 0 and SAR the sign for counts of the width or more; C is the last bit shifted out, or
bit 0 of a rotation, and stays for a count of 0. The count is an operand of 8 bits, and the instructions write these results. -/
def Obligations.ShiftsFollowTheirCount : Prop :=
  (∀ w a n : Nat, 0 < w → a < 2 ^ w → n < 256 →
    (shlRes w a n).val = a * 2 ^ n % 2 ^ w ∧ (shrRes w a n).val = a / 2 ^ n ∧
    sx w (sarRes w a n).val = sx w a / (2 ^ n : Int) ∧
    (∀ j, j < w → bit (rolRes w a n).val ((j + n) % w) = bit a j) ∧
    (w ≤ n → (shlRes w a n).val = 0 ∧ (shrRes w a n).val = 0 ∧ (sarRes w a n).val = (if bit a (w - 1) then 2 ^ w - 1 else 0)) ∧
    (0 < n → n ≤ w → (shlRes w a n).c = some (bit a (w - n)) ∧ (shrRes w a n).c = some (bit a (n - 1)) ∧
      (sarRes w a n).c = some (bit a (n - 1))) ∧
    (w < n → (shlRes w a n).c = some false ∧ (shrRes w a n).c = some false ∧ (sarRes w a n).c = some (bit a (w - 1))) ∧
    (n % w ≠ 0 → (rolRes w a n).c = some (bit (rolRes w a n).val 0)) ∧
    ((shlRes w a 0).c = none ∧ (shrRes w a 0).c = none ∧ (sarRes w a 0).c = none ∧ (n % w = 0 → (rolRes w a n).c = none)) ∧
    ((shlRes w a n).v = some true ↔ sx w (shlRes w a n).val ≠ sx w a * (2 ^ n : Int))) ∧
  (∀ (s : State) (k : Fin 8) (i len cost : Nat) (c : CoreInstr) (words : List Nat),
    s.about k i c len words cost → 0x20 ≤ c.major → c.major ≤ 0x23 → (s.operands k c len words cost).width 1 = 8) ∧
  Claims.writesTwo (.shl, 0x20, fun c _ a n => some (shlRes (sizeBits c.size) a n)) ∧
  Claims.writesTwo (.shr, 0x21, fun c _ a n => some (shrRes (sizeBits c.size) a n)) ∧
  Claims.writesTwo (.sar, 0x22, fun c _ a n => some (sarRes (sizeBits c.size) a n)) ∧
  Claims.writesTwo (.rol, 0x23, fun c _ a n => some (rolRes (sizeBits c.size) a n))

/-- R194: DIV gives the quotient rounded toward zero or the remainder with the sign of a, signed or unsigned by K, and the most negative value
and V for its division by −1; a zero divisor ends the item with TRAP_OPERAND, precisely. -/
def Obligations.DivisionFollowsK : Prop :=
  (∀ w a b : Nat, 1 < w → a < 2 ^ w → b < 2 ^ w →
    (∀ k, divRes w k a 0 = none) ∧
    (b ≠ 0 → ∃ q uq r ur, divRes w 0 a b = some q ∧ divRes w 1 a b = some uq ∧ divRes w 2 a b = some r ∧ divRes w 3 a b = some ur ∧
      uq.val = a / b ∧ ur.val = a % b ∧
      sx w r.val = Int.tmod (sx w a) (sx w b) ∧
      (sx w a = -(2 ^ (w - 1) : Int) ∧ sx w b = -1 → q.val = a ∧ r.val = 0 ∧ q.v = some true ∧ r.v = some true) ∧
      (¬(sx w a = -(2 ^ (w - 1) : Int) ∧ sx w b = -1) →
        sx w q.val = Int.tdiv (sx w a) (sx w b) ∧ q.v = some false ∧ r.v = some false))) ∧
  Claims.writesTwo (.div, 0x1A, fun c _ a b => divRes (sizeBits c.size) (bits c.word.toNat 5 4) a b) ∧
  ∀ (s : State) (k : Fin 8) (i len cost : Nat) (c : CoreInstr) (words : List Nat),
    s.about k i c len words cost → c.major = 0x1A →
    let x := s.operands k c len words cost
    let b := (x.get 0).2.get 1
    let y := b.2.put 2 0
    b.1 = 0 → y.trap = none → Claims.trapsAs s k i (.div k) 0x12 (s.coreAt k.val).pc (y.cost + eCycles 0x1A c.size) y.words none

/-- R196: CLZ counts the leading zero bits and sets C exactly for 0; CLS counts the bits below the sign bit that equal it. -/
def Obligations.LeadingBitsAreCounted : Prop :=
  (∀ w a : Nat, 1 < w → a < 2 ^ w →
    let z := clzRes w a
    let c := clsRes w a
    z.val ≤ w ∧ (∀ j, j < z.val → bit a (w - 1 - j) = false) ∧ (z.val < w → bit a (w - 1 - z.val) = true) ∧
    (z.c = some true ↔ a = 0) ∧ (z.z = some true ↔ z.val = 0) ∧ z.n = some false ∧
    c.val < w ∧ (∀ j, j < c.val → bit a (w - 2 - j) = bit a (w - 1)) ∧
    (c.val < w - 1 → bit a (w - 2 - c.val) ≠ bit a (w - 1)) ∧ c.c = some false ∧ (c.z = some true ↔ c.val = 0) ∧ c.n = some false) ∧
  Claims.writesOne (.clz, 0x26, fun c _ a => clzRes (sizeBits c.size) a) ∧
  Claims.writesOne (.cls, 0x27, fun c _ a => clsRes (sizeBits c.size) a)

/-- R184, R185, R187 to R189, R195, R197: a decoder reads back every instruction that the tables list, with every operand at every value its
place admits, whatever bytes follow it, and takes exactly its bytes, 14 at most. -/
def Obligations.DecodeReadsBackEveryListedInstruction : Prop :=
  ∀ (i : CoreInstr) (rest : List Byte), i.wf = true →
    decodeCore (encodeCore i ++ rest) = .done i (encodeCore i).length ∧ (encodeCore i).length ≤ 14


/-! ### Dispatcher (chapter 07) -/

/-- R214, R232: POST from the host or the Trail takes the image at DSP_IMGADR and, where no check refuses it, makes the lowest FREE descriptor
an item with the image's fields: a TEMPLATE, WAITING while it has pegs, READY behind the others where it has none; the index and the
status are in DSP_CMDRES. A refused image changes the CODE alone. -/
def Obligations.PostCreatesAnItem : Prop :=
  ∀ (s : State) (src : Source), s.reaches src = true → srcIsCore src = false →
    let a := s.fld Adr.DSP_IMGADR 23 0
    let b := s.memBytes a 32
    let d : Desc := { Desc.ofImage b with origin := 12 }
    (0xC00000 < a + 32 → ∃ t, exec (.dspPost src) s = .next t ∧ t = { s with regs := t.regs } ∧ t.fld Adr.DSP_CMDRES 23 16 = 0x02) ∧
    (a + 32 ≤ 0xC00000 → (∀ w ∈ touchedWords a 32, s.eccOf w = none) →
      (s.postStatus b ≠ 0 → ∃ t, exec (.dspPost src) s = .next t ∧ t = { s with regs := t.regs } ∧
        t.fld Adr.DSP_CMDRES 23 16 = s.postStatus b ∧ ∀ x, x ≠ Adr.DSP_CMDRES → t.reg x = s.reg x) ∧
      (s.postStatus b = 0 → ∃ i t, i < 1024 ∧ (s.descAt i).st = 0 ∧ (∀ j, j < i → (s.descAt j).st ≠ 0) ∧ exec (.dspPost src) s = .next t ∧
        t.fld Adr.DSP_CMDRES 23 16 = 0x00 ∧ t.fld Adr.DSP_CMDRES 9 0 = i ∧
        t.descAt i = { d with st := if d.template then 1 else if d.pegs ≠ 0 then 2 else 3 } ∧ (∀ j, j ≠ i → t.descAt j = s.descAt j) ∧
        t.disp.ready = (if d.template ∨ d.pegs ≠ 0 then s.disp.ready else s.disp.ready ++ [i]) ∧
        t = { s with regs := t.regs, disp := t.disp } ∧ ∀ x, x ≠ Adr.DSP_CMDRES → t.reg x = s.reg x))

/-- R215, R218, R219: SIGNAL pulls a peg of a WAITING item, which is READY, behind the others, with its last peg; a FREE descriptor is refused with E_NOADDR,
a TEMPLATE with E_MODE, and a READY or RUNNING one is an underflow: E_RANGE, counted. CANCEL frees a WAITING or READY item, takes it off the ready list
and frees its ring entry; a RUNNING item is E_BUSY, a FREE descriptor E_NOADDR; a TEMPLATE that no source uses is freed. Direct successors stay unless
the item cascades. -/
def Obligations.SignalAndCancelFollowTheState : Prop :=
  (∀ (s : State) (src : Source) (i : BitVec 10), s.reaches src = true → srcIsCore src = false →
    let n := i.toNat
    let d := s.descAt n
    ∃ t, exec (.dspSignal src i) s = .next t ∧ (∀ j, j ≠ n → t.descAt j = s.descAt j) ∧
      (d.st = 0 → t.fld Adr.DSP_CMDRES 23 16 = 0x06 ∧ t.disp = s.disp) ∧
      (d.st = 1 → t.fld Adr.DSP_CMDRES 23 16 = 0x03 ∧ t.disp = s.disp) ∧
      (d.st = 2 → t.fld Adr.DSP_CMDRES 23 16 = 0x00 ∧
        (1 < d.pegs → t.descAt n = { d with pegs := d.pegs - 1 } ∧ t.disp.ready = s.disp.ready) ∧
        (d.pegs ≤ 1 → t.descAt n = { d with pegs := 0, st := 3 } ∧ t.disp.ready = s.disp.ready ++ [n])) ∧
      (3 ≤ d.st → t.fld Adr.DSP_CMDRES 23 16 = 0x02 ∧ t.descAt n = d ∧ t.disp.ready = s.disp.ready ∧
        (s.reg Adr.DSP_PEGUF < 2 ^ 31 - 1 → t.reg Adr.DSP_PEGUF = s.reg Adr.DSP_PEGUF + 1)) ∧
      t.basin = s.basin ∧ t.cores = s.cores ∧ t.voice = s.voice ∧ t.spe = s.spe ∧ t.trail = s.trail) ∧
  (∀ (s : State) (src : Source) (i : BitVec 10), s.reaches src = true → srcIsCore src = false →
    let n := i.toNat
    let d := s.descAt n
    ∃ t, exec (.dspCancel src i) s = .next t ∧
      (d.st = 0 → t.fld Adr.DSP_CMDRES 23 16 = 0x06 ∧ t.disp = s.disp) ∧
      (d.st = 4 → t.fld Adr.DSP_CMDRES 23 16 = 0x04 ∧ t.disp = s.disp) ∧
      (d.st = 2 ∨ d.st = 3 → t.fld Adr.DSP_CMDRES 23 16 = 0x00 ∧ t.descAt n = Desc.free ∧ n ∉ t.disp.ready ∧
        (d.cascade = false → (∀ j, j ≠ n → t.descAt j = s.descAt j) ∧ t.disp.ready = s.disp.ready.filter (· ≠ n))) ∧
      (d.st = 1 →
        let used := ∃ q : Fin 12, s.fld (Adr.DSP_SRCCFG q.val) 9 0 = n ∧
          (s.flag (Adr.DSP_SRCCFG q.val) 15 = true ∨ (s.ring q.val).occupied ≠ [])
        (used → t.fld Adr.DSP_CMDRES 23 16 = 0x04 ∧ t.disp = s.disp) ∧
        (¬ used → t.fld Adr.DSP_CMDRES 23 16 = 0x00 ∧ t.descAt n = Desc.free ∧ ∀ j, j ≠ n → t.descAt j = s.descAt j)) ∧
      t.cores = s.cores ∧ t.voice.runs = s.voice.runs ∧ t.spe = s.spe ∧ t.trail = s.trail)

/-- R204, R221: DISPATCH gives a READY item to an idle core in service whose affinity bit is set: of the highest PRIO for which there is such a core, the
oldest, to the lowest core, which starts at ENTRY with SW and the pointers clear, A0 = ARG and WP at its local RAM. Where there is none, nothing happens.
What a row does when it is not due is the model's choice (log entry 3). -/
def Obligations.DispatchStartsTheFirstItem : Prop :=
  ∀ s : State, s.coresOn = true → s.disp.stopped = false →
    let free (k : Nat) : Prop := (s.coreAt k).item = none ∧ (s.coreAt k).testing = false ∧ s.flag Adr.FAULT_RETIRED1 (24 + k) = false
    let may (i k : Nat) : Prop := k < 8 ∧ bit (s.descAt i).affinity k = true ∧ free k
    ((∀ i ∈ s.disp.ready, ∀ k, ¬ may i k) → exec .dispatch s = .next s) ∧
    ((∃ i ∈ s.disp.ready, ∃ k, may i k) → ∃ before i after k,
      s.disp.ready = before ++ i :: after ∧ may i k ∧ (∀ j, j < k → ¬ may i j) ∧
      (∀ j ∈ s.disp.ready, (s.descAt i).prio < (s.descAt j).prio → ∀ c, ¬ may j c) ∧
      (∀ j ∈ before, (s.descAt j).prio = (s.descAt i).prio → ∀ c, ¬ may j c) ∧
      ∃ ds, exec .dispatch s = .next { s with
          disp := { s.disp with ready := s.disp.ready.filter (· ≠ i), desc := ds }
          cores := s.cores.set k { s.coreAt k with
            pc := (s.descAt i).entry, sw := 0, wp := 0x00F00000, a0 := (s.descAt i).arg, a1 := 0, a2 := 0, a3 := 0,
            item := some i, cycles := 0 } } ∧
        ∀ j, Sp.get (fun _ => Desc.free) ds j = if j = i then { s.descAt i with st := 4 } else s.descAt j)

/-- R217, R218, R225: the next occupied entry of a source, in ring order, becomes a READY item from the source's template, with the entry's address as ARG, in the
lowest FREE descriptor, while descriptors and completion credit last for it after the lower-numbered sources that wait; without an entry, a template, a
descriptor or credit nothing happens. The next entry of the
oldest successor list pulls a peg of the descriptor it names, or, in a cascade, cancels it where it is WAITING or READY; an entry with a high bit set, or
one that names no item, is skipped and counted. The list moves on by one entry, and ends with its last; outside SERVICE and RUN it stands still (R223).
What a row does when it is not due is the model's choice (log entry 3). -/
def Obligations.EntriesAndSuccessorsTakeEffect : Prop :=
  (∀ (s : State) (q : Fin 12),
    let len := 2 ^ s.fld (Adr.DSP_SRCCFG q.val) 19 16
    let d := s.descAt (s.fld (Adr.DSP_SRCCFG q.val) 9 0)
    let r := s.ring q.val
    let able := s.coresOn = true ∧ d.st = 1 ∧ s.sourcesAhead q.val < s.credit ∧ s.sourcesAhead q.val < s.nFree ∧
      (∃ i, i < 1024 ∧ (s.descAt i).st = 0) ∧ ∃ k ∈ r.waiting, k < len
    (¬ able → exec (.instantiate q) s = .next s) ∧
    (able → ∃ i k t, i < 1024 ∧ (s.descAt i).st = 0 ∧ (∀ j, j < i → (s.descAt j).st ≠ 0) ∧
      k ∈ r.waiting ∧ k < len ∧ (∀ m ∈ r.waiting, m < len → (k + len - r.next % len) % len ≤ (m + len - r.next % len) % len) ∧
      exec (.instantiate q) s = .next t ∧ t = { s with disp := t.disp } ∧
      t.descAt i = { d with
        arg := s.fld (Adr.DSP_SRCBASE q.val) 23 5 * 32 + 32 * k, ctl := d.ctl % 64 + d.ctl / 128 * 128, origin := q.val, qentry := k, st := 3 } ∧
      (∀ j, j ≠ i → t.descAt j = s.descAt j) ∧ t.disp.ready = s.disp.ready ++ [i] ∧
      (∀ p, p ≠ q.val → t.ring p = s.ring p) ∧ (q.val < s.disp.rings.length →
        t.ring q.val = { r with waiting := r.waiting.filter (· ≠ k), next := k + 1 }))) ∧
  (∀ s : State, s.coresOn = false ∨ s.disp.jobs = [] → exec .successorListEntry s = .next s) ∧
  (∀ (s : State) (j : ListJob) (js : List ListJob), s.coresOn = true → s.disp.jobs = j :: js →
    j.addr + 2 ≤ 0xC00000 → (∀ w ∈ touchedWords j.addr 2, s.eccOf w = none) →
    let e := leNat (s.memBytes j.addr 2)
    let i := e % 1024
    let st := (s.descAt i).st
    ∃ t, exec .successorListEntry s = .next t ∧
      (2 ≤ j.left → { j with addr := j.addr + 2, left := j.left - 1 } ∈ t.disp.jobs) ∧ (j.left ≤ 1 → j ∉ t.disp.jobs) ∧
      (1024 ≤ e ∨ (j.cascade = false ∧ st < 2) → (∀ n, t.descAt n = s.descAt n) ∧
        (s.reg Adr.DSP_BADSUCC < 2 ^ 31 - 1 → t.reg Adr.DSP_BADSUCC = s.reg Adr.DSP_BADSUCC + 1)) ∧
      (e < 1024 → j.cascade = false → st = 2 → t.reg Adr.DSP_BADSUCC = s.reg Adr.DSP_BADSUCC ∧ (∀ n, n ≠ i → t.descAt n = s.descAt n) ∧
        t.descAt i = { s.descAt i with pegs := (s.descAt i).pegs - 1, st := if (s.descAt i).pegs ≤ 1 then 3 else 2 }) ∧
      (e < 1024 → j.cascade = true → st = 2 ∨ st = 3 → t.descAt i = Desc.free ∧ i ∉ t.disp.ready) ∧
      t.cores = s.cores ∧ t.spe = s.spe ∧ t.trail = s.trail)

/-- R212, R232, R337 to R339: a write of DSP_DSEL copies the descriptor, STATE, ORIGIN and QENTRY with it, into DSP_DWORD0 to 7 at one instant, and changes no
other register. An accepted write of a port's enables, of its block control with CSUPD, or of the loop's control stores every bit that the register
holds; CSUPD also marks the staged words for the next block. Nothing else changes: directions start and stop at the next boundary.
That a source acts where it reaches the node is the model's reading (log entry 5). -/
def Obligations.ControlWritesTakeEffect : Prop :=
  (∀ (s : State) (src : Source) (i : BitVec 10), s.accepts src Adr.DSP_DSEL i.toNat = true →
    ∃ t, exec (.dspDsel src i) s = .next t ∧ t = { s with regs := t.regs } ∧ t.fld Adr.DSP_DSEL 9 0 = i.toNat ∧
      (∀ k : Fin 8, t.reg (Adr.DSP_DWORD k.val) = leAt (s.descAt i.toNat).image (4 * k.val) 4) ∧
      ∀ a, a ≠ Adr.DSP_DSEL → (∀ k : Fin 8, a ≠ Adr.DSP_DWORD k.val) → t.reg a = s.reg a) ∧
  (∀ (s : State) (src : Source) (p : Fin 8) (value : Word),
    let v := value.toNat
    (s.accepts src (Adr.APORT_CTL p.val) v = true → exec (.aportCtl src p value) s =
      .next (s.setFld (Adr.APORT_CTL p.val) 8 0 (if 6 ≤ p.val then putBit v 1 (s.flag (Adr.APORT_CTL p.val) 1) else v))) ∧
    (s.accepts src (Adr.APORT_CSCTL p.val) (v ||| 1) = true → exec (.csupd src p value) s =
      .next ((s.setFld (Adr.APORT_CSCTL p.val) 3 1 (v / 2)).setAport p.val (fun q => { q with csPend := true }))) ∧
    (s.accepts src Adr.APORT_LOOPCTL v = true → exec (.aportLoopctl src value) s = .next (s.setFld Adr.APORT_LOOPCTL 15 0 v)))

/-- R203, R206, R218, R229: the end of an item opens its record, behind those still to be written, with its end code, status, index, core, PC, TAG and cycles,
needed unless it is DONE with OK and no NOTIFY; HELD says that its successors never run or that one already runs; the descriptor and the ring entry
are free.
The STATUS of a trap's record is the model's reading (log entry 12). -/
def Obligations.EndsOpenARecord : Prop :=
  ∀ (s : State) (i endCode status pc core cause cycles : Nat),
    let d := s.descAt i
    let r := s.endOne i endCode status pc core cause cycles
    let act := endCode = 0 ∨ d.cascade = true
    r.2.descAt i = Desc.free ∧ (∀ j, j ≠ i → r.2.descAt j = s.descAt j) ∧ i ∉ r.2.disp.ready ∧
    (∃ e, r.2.disp.recs = s.disp.recs ++ [e] ∧ e.endCode = endCode ∧ e.status = status ∧ e.index = i ∧ e.core = core ∧ e.pc = pc ∧
      e.tag = d.tag ∧ e.src = d.origin ∧ e.cause = cause ∧ e.cycles = cycles ∧
      (e.needed = true ↔ endCode ≠ 0 ∨ status ≠ 0 ∨ d.notify = true) ∧ (e.closed = false ↔ act ∧ d.slcount ≠ 0) ∧
      (e.held = true ↔ endCode ≠ 0 ∧ d.hasSucc = true ∧ (d.cascade = false ∨ ∃ j ∈ d.direct, j ≠ i ∧ (s.descAt j).st = 4))) ∧
    (act → d.slcount ≠ 0 → ∃ x, r.2.disp.jobs = s.disp.jobs ++ [x] ∧ x.addr = d.slist ∧ x.left = d.slcount ∧ x.cascade = decide (endCode ≠ 0)) ∧
    (¬ (act ∧ d.slcount ≠ 0) → r.2.disp.jobs = s.disp.jobs) ∧
    r.1 = (if endCode ≠ 0 ∧ d.cascade = true then d.direct else []) ∧
    r.2 = ({ s with disp := r.2.disp } : State)

/-! ### Stream Program Engine (chapter 05) -/

/-- R163, R164, R167: COMMIT makes a commit pending at CTIME as it stands, or is refused with E_BUSY while one is pending; CANCEL withdraws it and
the dirty set stays; DISCARD gives every dirty shadow entry the value in force and clears the dirty marks. SPE_CSTAT.CODE keeps the
status and nothing else changes. The end of a copy-back clears COPYBACK (R166).
That a source acts where it reaches the node is the model's reading (log entry 5). -/
def Obligations.CommitCommandsTakeEffect : Prop :=
  ∀ (s : State) (src : Source), s.reaches src = true →
    let done (e : Spe) (code : Nat) : Out := .next (({ s with spe := e } : State).setFld Adr.SPE_CSTAT 31 24 code)
    (∀ noramp, exec (.ccmdCommit src noramp) s =
      if s.spe.commit.isSome then done s.spe 0x04
      else done { s.spe with commit := some (s.reg Adr.SPE_CTIMELO + 2 ^ 32 * s.reg Adr.SPE_CTIMEHI, noramp) } 0x00) ∧
    exec (.ccmdCancel src) s = done { s.spe with commit := none } 0x00 ∧
    (s.spe.commit ≠ none → exec (.ccmdDiscard src) s = done s.spe 0x04) ∧
    (s.spe.commit = none → ∃ sh, exec (.ccmdDiscard src) s = done { s.spe with shadow := sh, dirty := [] } 0x00 ∧
      ∀ i, getS24 sh i = if i ∈ s.spe.dirty then getS24 s.spe.coef i else getS24 s.spe.shadow i) ∧
    exec .copybackEnd s = .next (s.setFlag Adr.SPE_CSTAT 14 false)

/-- R164, R165: a commit that acts takes every dirty coefficient, and only those: each ramps from its value in force to its shadow value, over the length of its class,
or at once with NORAMP; no commit is pending after it and no entry is dirty. The values of a ramp: v0 + floor(k (v1 − v0) / N) in run k, v1 from
run N on; a step where N is 0; never outside v0 to v1, and never turning back. -/
def Obligations.CommitsRampTheDirtySet : Prop :=
  (∀ (r : Ramp) (k : Nat),
    (k < r.n → r.value k = r.v0 + Int.fdiv (k * (r.v1 - r.v0)) r.n) ∧ (r.n ≤ k → r.value k = r.v1) ∧
    (r.v0 ≤ r.v1 → r.v0 ≤ r.value k ∧ r.value k ≤ r.v1 ∧ r.value k ≤ r.value (k + 1)) ∧
    (r.v1 ≤ r.v0 → r.v1 ≤ r.value k ∧ r.value k ≤ r.v0 ∧ r.value (k + 1) ≤ r.value k)) ∧
  (∀ (s : State) (noramp : Bool),
    let t := s.commitActs noramp
    t.spe.dirty = [] ∧ t.spe.commit = none ∧ t.spe.coef = s.spe.coef ∧ t.spe.shadow = s.spe.shadow ∧
    (∀ i, Sp.find t.spe.ramps i = if i ∈ s.spe.dirty
      then some ⟨getS24 s.spe.coef i, getS24 s.spe.shadow i, if noramp then 0 else s.rampLen i, 0⟩ else Sp.find s.spe.ramps i) ∧
    (t.flag Adr.SPE_CSTAT 14 = true ↔ s.spe.dirty ≠ [] ∨ s.flag Adr.SPE_CSTAT 14 = true))

/-- R169, R171, Table SP-10: LOAD checks LEN, then that no LOAD is under way, and starts validation with the swap time as it stands; CANCEL ends a LOAD with DONE and its
interrupt cause, leaves CODE as it is, and does nothing while STATE is 0. Validation passes exactly the programs none of whose steps breaks a rule,
and reports the first failure of the lowest step; its end leaves the program waiting, or unlocks the staging program with that code, step and rule. -/
def Obligations.LoadsAreValidated : Prop :=
  (∀ (s : State) (src : Source), s.reaches src = true →
    let stat (v : State) (st : Nat) : State := v.setFld Adr.SPE_PSTAT 15 14 st
    let code (v : State) (c : Nat) : State := v.setFld Adr.SPE_PSTAT 23 16 c
    let ended : State :=
      ((stat ({ s with spe := { s.spe with load := none } } : State) 0).setFlag Adr.SPE_PSTAT 24 true).setFlag Adr.HOST_IRQ 4 true
    (∀ (len : BitVec 14) (clrt : Bool), exec (.pcmdLoad src len clrt) s =
      if len.toNat = 0 ∨ (if s.dbl then 4096 else 8192) < len.toNat then .next (code s 0x02)
      else if s.fld Adr.SPE_PSTAT 15 14 ≠ 0 then .next (code s 0x04)
      else .next (code (stat ({ s with spe := { s.spe with
        load := some ⟨len.toNat, clrt, s.reg Adr.SPE_PTIMELO + 2 ^ 32 * s.reg Adr.SPE_PTIMEHI⟩ } } : State) 1) 0x00)) ∧
    exec (.pcmdCancel src) s = (if s.fld Adr.SPE_PSTAT 15 14 = 0 then .next s else .next ended) ∧
    (∀ l, s.spe.load = some l → s.fld Adr.SPE_PSTAT 15 14 = 1 →
      exec .loadValidated s =
        match speValidate (if s.dbl then 512 else 1024) ((List.range l.len).map s.stageStep) 0 [] 0 with
        | none => .next (stat s 2)
        | some (step, rule) => .next ((code ended (if rule ≤ 3 then 0x01 else 0x02)).setReg Adr.SPE_PERR (step + rule * 2 ^ 16)))) ∧
  (∀ (lim : Nat) (prog : List Nat),
    let before (k : Nat) : List Nat × Nat :=
      (((prog.take k).filter (fun w => speOp w = 0x1D)).map (fun w => bits w 41 36), ((prog.take k).map speAccesses).sum)
    let breaks (k : Nat) : Nat := speStepRule (prog.getD k 0) (before k).1 (before k).2 lim
    (speValidate lim prog 0 [] 0 = none ↔ ∀ k, k < prog.length → breaks k = 0) ∧
    (∀ k r, speValidate lim prog 0 [] 0 = some (k, r) ↔ k < prog.length ∧ r ≠ 0 ∧ breaks k = r ∧ ∀ j, j < k → breaks j = 0))

/-- R142, R163: a write to coefficient bank 1 stores the shadow value and marks the coefficient dirty; a write to a temporary waits for the next run.
A host or Trail word whose top byte is not the extension of bit 23 is refused; a core's top byte is ignored. Nothing else changes but a copy-back,
which has ended. -/
def Obligations.SpeWordWritesAreStored : Prop :=
  ∀ (s : State) (src : Source) (value : Word), s.reaches src = true →
    let x : S24 := value.truncate 24
    let fits := srcIsCore src = true ∨ x.signExtend 32 = value
    (fits → ∀ i : Fin 4096, ∃ sh d, exec (.coefWrite src i value) s =
        .next (({ s with spe := { s.spe with shadow := sh, dirty := d } } : State).setFlag Adr.SPE_CSTAT 14 false) ∧
      (∀ j, Sp.get (fun _ => (0 : S24)) sh j = if j = i.val then x else Sp.get (fun _ => (0 : S24)) s.spe.shadow j) ∧
      (∀ j, j ∈ d ↔ j = i.val ∨ j ∈ s.spe.dirty)) ∧
    (fits → ∀ i : Fin 256, exec (.speTempWrite src i value) s =
      .next { s with spe := { s.spe with heldT := s.spe.heldT ++ [(i.val, x)] } }) ∧
    (¬ fits → (∀ i : Fin 4096, exec (.coefWrite src i value) s = .next s) ∧ ∀ i : Fin 256, exec (.speTempWrite src i value) s = .next s)

/-- R154, R159, R160: an accepted delay-line write stores EN, FMT and LENM1; with CLEAR set CLEARING is set too. A clear that has zeroed its whole line
ends: the line has no clear in progress and CLEARING is 0; until then the end changes nothing.
What a row does when it is not due is the model's choice (log entry 3). -/
def Obligations.DelayLinesAreSetAndCleared : Prop :=
  ∀ (s : State) (src : Source) (j : Fin 64) (value : Word),
    let a := Adr.SPE_DLCTL j.val
    let kept := (value.toNat &&& 0xFFFFF3) ||| (s.reg a &&& 0xFF00000C)
    (s.accepts src a value.toNat = true → bit value.toNat 2 = false →
      exec (.speDlctl src j value) s = .next (s.setReg a kept)) ∧
    (s.accepts src a (value.toNat ||| 4) = true → exec (.delayClear src j value) s = .next (s.setReg a (kept ||| 8))) ∧
    (∀ n, (s.dline j.val).clr = some n → (s.dline j.val).clrSet.len * (if (s.dline j.val).clrSet.w16 then 2 else 3) ≤ n →
      ∃ l, exec (.delayClearEnd j) s = .next (({ s with spe := { s.spe with lines := l } } : State).setFlag a 3 false) ∧
        ∀ i, Sp.get (fun _ => DLine.never) l i = if i = j.val then { s.dline j.val with clr := none, wrote := [] } else s.dline i) ∧
    ((∀ n, (s.dline j.val).clr = some n → n < (s.dline j.val).clrSet.len * (if (s.dline j.val).clrSet.w16 then 2 else 3)) →
      exec (.delayClearEnd j) s = .next s)

/-! ### Voice Array (chapters 02 to 04) -/

/-- R48, R82, R85, R100, R119, R123: a ramp of 64 rendered samples ends in the deferred start, at the boundary of the intake, or in IDLE; a release phase longer than N(RELMAX) begins
the ramp. A start's generators take SEED as it and its held writes leave it. At the zero of a switch fade the held changes act and the gain begins to rise; a crossfade that has run 32 samples ends, and a change held in
the word starts its own from the new setting; a glide at its target ends. Only that voice's running state changes; where nothing is due, nothing does.
What a row does when it is not due is the model's choice (log entry 3). -/
def Obligations.RampsFadesAndGlidesEnd : Prop :=
  (∀ (s : State) (v : Fin 512), s.inRun = false →
    exec (.rampEnd v) s = .next s ∧ exec (.releaseLimit v) s = .next s ∧ (∀ u, exec (.switchFadeZero v u) s = .next s) ∧
    (∀ w, exec (.crossfadeEnd v w) s = .next s) ∧ ∀ w, exec (.glideEnd v w) s = .next s) ∧
  (∀ (s : State) (v : Fin 512), s.inRun = true →
    let r := s.vRun v.val
    let b := s.lastIntake
    let others (t : State) : Prop := (∀ u, u ≠ v.val → t.vRun u = s.vRun u) ∧ ∀ u w, u ≠ v.val → w < 1024 → t.vWord u w = s.vWord u w
    (r.st = 3 → 64 ≤ r.rampK → r.defer = none → ∃ t, exec (.rampEnd v) s = .next t ∧ others t ∧
      (t.vRun v.val).st = 0 ∧ (t.vRun v.val).mirrored = false ∧ (t.vRun v.val).glides = [] ∧ ∀ w, t.vWord v.val w = s.vWord v.val w) ∧
    (∀ d, r.st = 3 → 64 ≤ r.rampK → r.defer = some d → ∃ t, exec (.rampEnd v) s = .next t ∧ others t ∧
      (t.vRun v.val).st = 1 ∧ (t.vRun v.val).start = b ∧ (t.vRun v.val).patchno = d.patch ∧ (t.vRun v.val).prio = d.prio ∧
      (t.vRun v.val).notekey = d.key / 256 ∧ (t.vRun v.val).defer = none ∧
      (t.vRun v.val).seed = t.vWord v.val 0x8A + 2 ^ 16 * t.vWord v.val 0x8B ∧
      (r.deferWrites = [] → (t.vRun v.val).seed = d.seed % 2 ^ 32 ∧ t.vWord v.val 0x80 = d.key % 2 ^ 16 ∧ t.vWord v.val 0x81 = d.vel % 2 ^ 16)) ∧
    (r.st ≠ 3 ∨ r.rampK < 64 → exec (.rampEnd v) s = .next s) ∧
    (let n := timeCode s.rateCode (bits (s.vWord v.val 0x7B) 13 0)
     let due := r.st = 2 ∧ bits (s.vWord v.val 0x7B) 13 0 ≠ 0 ∧ r.reltime + n * s.spt ≤ b
     (due → exec (.releaseLimit v) s = .next (s.setVRun v.val { r with st := 3, rampK := 0, fin := false })) ∧
     (¬ due → exec (.releaseLimit v) s = .next s))) ∧
  (∀ (s : State) (v : Fin 512), s.inRun = true →
    let r := s.vRun v.val
    (∀ u, r.fade u = some ⟨0, true⟩ → ∃ t, exec (.switchFadeZero v u) s = .next t ∧
      (t.vRun v.val).fade u = some ⟨0, false⟩ ∧ (∀ w ∈ fadeWords u, Sp.find (t.vRun v.val).fHold w = none) ∧
      (t.vRun v.val).st = r.st ∧ (t.vRun v.val).env = r.env ∧ (t.vRun v.val).lfo = r.lfo ∧ (t.vRun v.val).glides = r.glides ∧
      (∀ x, x ≠ v.val → t.vRun x = s.vRun x) ∧ (∀ x w, t.vWord x w = s.vWord x w)) ∧
    (∀ u, r.fade u ≠ some ⟨0, true⟩ → exec (.switchFadeZero v u) s = .next s) ∧
    (∀ w, ∃ xs, exec (.crossfadeEnd v w) s = .next (s.setVRun v.val { r with xfades := xs }) ∧
      ∀ p, p ∈ xs ↔ (p ∈ r.xfades ∧ (p.1 / 4 ≠ w ∨ p.2.i < 32)) ∨
        ∃ x, (p.1, x) ∈ r.xfades ∧ p.1 / 4 = w ∧ 32 ≤ x.i ∧
          let f := (wordXFields w).getD (p.1 % 4) (0, 0)
          let now := bits (s.vWord v.val w) f.1 f.2
          now ≠ x.new ∧ p.2 = ⟨x.new, now, 0⟩) ∧
    (∀ w, ∃ gs, exec (.glideEnd v w) s = .next (s.setVRun v.val { r with glides := gs }) ∧
      ∀ p, p ∈ gs ↔ p ∈ r.glides ∧ ¬ (p.1 = w ∧ p.2.v = p.2.target * 2 ^ 32 ∧ 0 < p.2.i)))

/-- Segment k of the envelope whose words begin at e (Table VM-3): SEGT, SEGL, its kind, and the samples of its time. -/
def Claims.segment (rc : Nat) (g : Nat → Nat) (e k : Nat) : Nat × Nat × Nat × Nat :=
  let segt := g (e + 2 * k)
  let segl := g (e + 2 * k + 1)
  (segt, segl, bits segl 15 13, timeCode rc (bits segt 13 0))

/-- Envelope o at the start of segment k. -/
def Claims.enters (rc : Nat) (g : Nat → Nat) (e k : Nat) (o : Env) : Env :=
  let x := Claims.segment rc g e k
  { o with seg := k, segt := x.1, segl := x.2.1, l0 := o.level, i := 0, n := x.2.2.2, hold := false, entered := o.entered || x.2.2.1 = 4 }

/-- R60, R96, R97, R102: an envelope whose count has reached N enters its next segment: one that lasts starts there; an END, or a RELEASE before the release phase,
holds; a LOOP goes to its target, or past it in the release phase; a segment of no samples leaves its level and passes on; SUSTAIN holds before release, and
behind segment 7 the envelope holds its level. An LFO phase past 1 wraps, the held value becomes v0 and the generator draws v1. A sample position at a loop
point is shifted, reflected or ended; one that reaches none stays.
What a row does when it is not due is the model's choice (log entry 3). -/
def Obligations.SegmentsWrapsAndLoopsTurn : Prop :=
  (∀ (s : State) (v : Fin 512), s.inRun = false ∨ (s.vRun v.val).st = 0 →
    (∀ e, exec (.envelopeSegmentEnd v e) s = .next s) ∧ (∀ l, exec (.lfoWrap v l) s = .next s) ∧ ∀ o, exec (.sampleLoopPoint v o) s = .next s) ∧
  ∀ (s : State) (v : Fin 512), s.inRun = true → (s.vRun v.val).st ≠ 0 →
    let r := s.vRun v.val
    (∀ e : Fin 3, ∃ x, exec (.envelopeSegmentEnd v e) s = .next (s.setVRun v.val { r with env := r.env.set e.val x }) ∧
      let o := r.env.getD e.val Env.idle
      let seg := Claims.segment s.rateCode (s.vWord v.val) (0x20 + 16 * e.val)
      let enters := Claims.enters s.rateCode (s.vWord v.val) (0x20 + 16 * e.val)
      let kind (k : Nat) := (seg k).2.2.1
      let time (k : Nat) := (seg k).2.2.2
      let runs (k : Nat) : Prop := k < 8 ∧ time k ≠ 0 ∧ (1 ≤ kind k ∧ kind k ≤ 3 ∨ kind k = 4 ∧ o.rel = true)
      let k := o.seg + 1
      (o.hold = true ∨ o.i < o.n → x = o) ∧
      (o.hold = false → o.n ≤ o.i →
        (bits o.segl 15 13 = 3 ∧ o.rel = false → x = { o with hold := true }) ∧
        (¬ (bits o.segl 15 13 = 3 ∧ o.rel = false) →
          (8 ≤ k → x = { o with seg := 8, hold := true, i := 0, n := 0 }) ∧
          (runs k → x = enters k o) ∧
          (k < 8 → kind k = 0 ∨ kind k = 4 ∧ o.rel = false → x = { o with
            seg := k, segt := (seg k).1, segl := (seg k).2.1, l0 := o.level, i := 0, n := 0, hold := true }) ∧
          (k < 8 → kind k = 5 → o.rel = false → runs (bits (seg k).2.1 2 0) → x = enters (bits (seg k).2.1 2 0) o) ∧
          (k < 8 → kind k = 5 → o.rel = true → runs (k + 1) → x = enters (k + 1) o) ∧
          (k < 8 → time k = 0 → kind k = 2 → runs (k + 1) → x = enters (k + 1) o) ∧
          (k < 8 → time k = 0 → kind k = 1 ∨ (kind k = 3 ∨ kind k = 4) ∧ o.rel = true → runs (k + 1) →
            x = enters (k + 1) { o with level := segTarget (seg k).2.1, entered := o.entered || kind k = 4 }) ∧
          (k < 8 → time k = 0 → kind k = 3 → o.rel = false → x = { enters k o with level := segTarget (seg k).2.1, hold := true })))) ∧
    (∀ l : Fin 2, ∃ x, exec (.lfoWrap v l) s = .next (s.setVRun v.val { r with lfo := r.lfo.set l.val x }) ∧
      let o := r.lfo.getD l.val Lfo.idle
      let gen := (o.gen * 1664525 + 1013904223) % 2 ^ 32
      (o.phase < 2 ^ 32 → x = o) ∧
      (2 ^ 32 ≤ o.phase → x = { o with phase := o.phase % 2 ^ 32, gen := gen, v0 := o.v1, v1 := sx 24 (gen / 256) })) ∧
    (∀ o : Fin 2,
      let x := if o.val = 0 then r.osc1 else r.osc2
      let due := oscMode (r.inForce (s.vWord v.val) (0x08 + 8 * o.val)) = 2 ∧ x.loaded = false ∧ x.ended = false
      (x.entry = none ∨ ¬ due → exec (.sampleLoopPoint v o) s = .next s) ∧
      ∀ e, x.entry = some e → due →
        let p := x.pos + x.inc
        let q := x.pos - x.inc
        let fst : Int := e.loopStart * 2 ^ 32
        let lst : Int := e.loopEnd * 2 ^ 32
        let once := x.looping = false ∨ (e.loop ≠ 1 ∧ e.loop ≠ 2)
        let done (y : Osc) : Prop := exec (.sampleLoopPoint v o) s =
          .next (s.setVRun v.val (if o.val = 0 then { r with osc1 := { y with loaded := true } } else { r with osc2 := { y with loaded := true } }))
        (x.rev = true → q < fst → done { x with pos := 2 * fst - q, rev := false }) ∧
        (x.rev = false → x.looping = true → e.loop = 1 → lst ≤ p → fst < lst → done { x with pos := p - (lst - fst), inloop := true }) ∧
        (x.rev = false → x.looping = true → e.loop = 2 → lst - 2 ^ 32 < p →
          done { x with pos := 2 * (lst - 2 ^ 32) - p, rev := true, inloop := true }) ∧
        (x.rev = false → once → (e.length : Int) * 2 ^ 32 ≤ p → done { x with pos := p, ended := true }) ∧
        (x.rev = true ∧ fst ≤ q ∨ x.rev = false ∧ x.looping = true ∧ (e.loop = 1 ∧ p < lst ∨ e.loop = 2 ∧ p ≤ lst - 2 ^ 32) ∨
          x.rev = false ∧ once ∧ p < (e.length : Int) * 2 ^ 32 → exec (.sampleLoopPoint v o) s = .next s))

/-- R25, R33, R38: a write of words of one voice that every rule accepts is held, whole, behind the writes already held, and changes nothing
else before the next intake; one that a rule refuses changes nothing; the words must lie in a voice that exists, and come in whole
32-bit words from the host and the Trail.
How the words of one command are held together is the model's reading (log entry 21). -/
def Obligations.VoiceWritesAreHeldWhole : Prop :=
  ∀ (s : State) (src : Source) (v : Fin 512) (w : Nat) (x : Half) (xs : List Half), s.reaches src = true →
    let vals := x :: xs
    let fits := v.val % 16 < (if s.dbl then 8 else 16) ∧ w + vals.length ≤ 1024 ∧ (srcIsCore src = true ∨ (w % 2 = 0 ∧ vals.length % 2 = 0)) ∧
      (runStatus (s.vWord v.val) w (vals.map (·.toNat))).1 = 0
    let from_ := match src with | .trail n => VSrc.trailWrite n | _ => VSrc.localWrite
    (fits → exec (.voiceParamWrite src v w vals) s =
      .next { s with voice := { s.voice with held := s.voice.held ++ [⟨from_, v.val, w, vals, none⟩] } }) ∧
    (¬ fits → srcIsCore src = false → exec (.voiceParamWrite src v w vals) s = .next s)

/-- R132: RECALC sets BUSY and starts over with no content written; its end stores the digest's first 8 bytes, clears BUSY, and leaves STALE exactly
where content was written while it ran. A change of content sets STALE. Errors that the hash's reads meet are counted as any (R244; log entry 124). -/
def Obligations.TheContentHashFollowsTheContent : Prop :=
  (∀ (s : State) (src : Source), s.accepts src Adr.VOICE_HASHCTL 1 = true → ∃ t, exec (.recalc src) s = .next t ∧
    t = { s.setFlag Adr.VOICE_HASHCTL 1 true with voice := { s.voice with dirtied := false } }) ∧
  (∀ s : State, s.flag Adr.VOICE_HASHCTL 1 = true → ∃ t, exec .recalcDone s = .next t ∧
    t.reg Adr.VOICE_HASHLO = leAt s.contentHash 0 4 ∧ t.reg Adr.VOICE_HASHHI = leAt s.contentHash 4 4 ∧
    t.flag Adr.VOICE_HASHCTL 1 = false ∧ t.flag Adr.VOICE_HASHCTL 2 = t.voice.dirtied ∧
    (s.contentErrors = [] → t = { s with regs := t.regs } ∧
      ∀ a, a ≠ Adr.VOICE_HASHLO → a ≠ Adr.VOICE_HASHHI → a ≠ Adr.VOICE_HASHCTL → t.reg a = s.reg a)) ∧
  (∀ s : State, s.flag Adr.VOICE_HASHCTL 1 = false → exec .recalcDone s = .next s) ∧
  (∀ (s : State) (a : Nat) (l : List Byte), s.touchesContent a l.length = true → a + l.length ≤ 0xC00000 →
    (s.memPut a l).flag Adr.VOICE_HASHCTL 2 = true ∧ (s.flag Adr.VOICE_HASHCTL 1 = true → (s.memPut a l).voice.dirtied = true))

/-- R24, R462: GO takes the image at VOICE_EVADR and queues it as an event of this node, node-directed, behind every event that comes no later at its intake: by
boundary, then source, and behind the Trail's; the status in CODE is the first that applies, and a refused image queues nothing. What the read of the image
finds (R244) is as for any read of the host. That an image of another system is counted and not acted on is the model's reading (log entry 110). -/
def Obligations.GoQueuesAnEvent : Prop :=
  ∀ (s : State) (src : Source), s.reaches src = true →
    let a := s.fld Adr.VOICE_EVADR 23 0
    let n := (s.memByte a).toNat
    let rd := s.basinRead Master.host a (Nat.max 1 n)
    let u := rd.2
    let code (t : State) (c : Nat) : State := t.setFld Adr.VOICE_EVCMD 15 8 c
    (0xC00000 < a + Nat.max 1 n → exec (.go src) s = .next (code s 0x02)) ∧
    ((∀ w ∈ touchedWords a (Nat.max 1 n), s.eccOf w = none) → rd = (some (s.memBytes a (Nat.max 1 n)), s)) ∧
    (a + Nat.max 1 n ≤ 0xC00000 → rd.1 = none → exec (.go src) s = .next (code u 0x0B)) ∧
    ∀ img, a + Nat.max 1 n ≤ 0xC00000 → rd.1 = some img →
      let reserved := (2 ≤ n ∧ Msg.isEvent (Msg.type img) = false) ∨ Msg.src img ≠ 0 ∨ Msg.seq img ≠ 0 ∨ Msg.auth img = true
      let mine := ¬ reserved ∧ msgMalformed img = false ∧ Msg.syschk img = u.fld Adr.TRAIL_SYSID 15 0
      (reserved → exec (.go src) s = .next (code u 0x01)) ∧
      (¬ reserved → msgMalformed img = true → exec (.go src) s = .next (code u 0x02)) ∧
      (¬ reserved → msgMalformed img = false → Msg.syschk img ≠ u.fld Adr.TRAIL_SYSID 15 0 →
        exec (.go src) s = .next (code (u.count Adr.TRAIL_FOREIGN) 0x00)) ∧
      (mine → 1024 ≤ u.trail.events.length → exec (.go src) s = .next (code u 0x0A)) ∧
      (mine → u.trail.events.length < 1024 → ∃ before after,
        let e : QEvent :=
          { time := leAt img 14 8, src := u.nodeNo, seq := 0, zone := 0, zd := false, go := true, act := eventAct img }
        let sooner (r : QEvent) : Prop := boundaryAt u.spt e.time < boundaryAt u.spt r.time ∨
          boundaryAt u.spt e.time = boundaryAt u.spt r.time ∧ e.src < r.src
        u.trail.events = before ++ after ∧ (∀ r ∈ before, ¬ sooner r) ∧ (∀ r, after.head? = some r → sooner r) ∧
        exec (.go src) s = .next (code { u with trail := { u.trail with events := before ++ e :: after } } 0x00))

/-! ### Trail (chapters 09 and 10) -/

/-- R260, R262 to R265, R293: signal energy takes an inserted, DOWN port to SIGNAL, a comma to ALIGNING, and the 1,024th error-free training set to UP, where the
port sends sets itself and the peer is ready; a training set with a code error or a reserved STATE is counted and starts the count again. Loss of signal and a training failure count against the port and take it down. A
port re-aligns on the latest comma after four misplaced ones, and the relay's change time ends.
What a row does when it is not due is the model's choice (log entry 3). -/
def Obligations.PortsTrainAndFall : Prop :=
  ∀ (s : State) (p : Port),
    let i := portIx p
    let moved (t : State) (x : Nat) : State := (t.setFld (Adr.TRAIL_PSTAT i) 2 0 x).tstat 0x02 i 0 x
    (s.inserted = true → s.power.bypassN = true → s.power.relayAt = none → s.link p = 0 → s.retired i = false →
      exec (.signalDetect p) s = .next (moved (s.setPort p (fun q => { q with signalAt := s.clk })) 1)) ∧
    (s.link p ≠ 0 → exec (.signalDetect p) s = .next s) ∧
    (s.link p = 1 → exec (.commaFound p) s = .next (moved (s.setPort p (fun q => { q with sets := 0, peer := 0 })) 2)) ∧
    (s.link p ≠ 1 → exec (.commaFound p) s = .next s) ∧
    (∀ (x : Byte) (n : Nat), s.link p = 2 → ∃ t, exec (.trainingSet p ⟨x, n⟩) s = .next t ∧ t.link (portOther p) = s.link (portOther p) ∧
      (let sends := s.power.bypassN = true ∧ s.power.relayAt = none ∧ s.power.burstA = none ∧ s.power.burstB = none
       x.toNat < 3 → n = 0 → (t.port p).peer = x.toNat ∧ (t.port p).sets = (s.port p).sets + 1 ∧
        (sends → t.link p = (if 1024 ≤ (s.port p).sets + 1 ∧ x ≠ 0 then 3 else 2)) ∧ (s.power.bypassN = false → t.link p = 2)) ∧
      (3 ≤ x.toNat ∨ n ≠ 0 → (t.port p).sets = 0 ∧ (t.link p = 2 ∨ t.retired i = true) ∧
        (s.reg (Adr.TRAIL_CODEERRA + 4 * i) + n + 1 < 2 ^ 31 → t.reg (Adr.TRAIL_CODEERRA + 4 * i) =
          s.reg (Adr.TRAIL_CODEERRA + 4 * i) + n + (if 3 ≤ x.toNat then 1 else 0)))) ∧
    (∀ (x : Byte) (n : Nat), s.link p ≠ 2 → s.link p ≠ 3 → exec (.trainingSet p ⟨x, n⟩) s = .next s.clean) ∧
    (∀ x : Byte, s.link p = 3 → x.toNat < 3 → ∃ t, exec (.trainingSet p ⟨x, 0⟩) s = .next t ∧ t.link p = 3 ∧ (t.port p).peer = x.toNat ∧
      (t.port p).cadence = none ∧ (t.port p).hdr = none) ∧
    (let down (t : State) : Prop := (t.link p = 0 ∨ (t.link p = 4 ∧ t.retired i = true)) ∧
       t.link (portOther p) = s.link (portOther p) ∧ (t.port p).hdr = none ∧ (t.port p).good = none ∧
       (s.retired i = false → s.reg (Adr.FAULT_ERR i) < 2 ^ 31 - 1 → t.reg (Adr.FAULT_ERR i) = s.reg (Adr.FAULT_ERR i) + 1)
     (s.link p = 1 ∨ s.link p = 2 ∨ s.link p = 3 → ∃ t, exec (.los p) s = .next t ∧ down t ∧
       (s.reg (Adr.TRAIL_LOSA + 4 * i) < 2 ^ 31 - 1 → t.reg (Adr.TRAIL_LOSA + 4 * i) = s.reg (Adr.TRAIL_LOSA + 4 * i) + 1)) ∧
     (s.link p = 1 ∨ s.link p = 2 → (s.port p).signalAt + s.msTicks 10 ≤ s.clk → ∃ t, exec (.trainingFailure p) s = .next t ∧ down t) ∧
     (s.clk < (s.port p).signalAt + s.msTicks 10 → exec (.trainingFailure p) s = .next s.clean)) ∧
    (s.link p = 3 → 4 ≤ (s.port p).misplaced →
      exec (.portRealign p) s = .next (s.setPort p (fun q => { q with cadence := q.commas.head?, misplaced := 0 }))) ∧
    (s.link p ≠ 3 ∨ (s.port p).misplaced < 4 → exec (.portRealign p) s = .next s) ∧
    (∀ x, s.power.relayAt = some x → exec .relayTime s =
      .next (if x ≤ s.clk then { s with power := { s.power with relayAt := none } } else s))

/-- R284 to R286: LOCKED is entered from LOCKING after 256 good frames within 2 ns; HOLDOVER after 32 trail cycles without a good copy. After 16 good
frames in HOLDOVER an error e, measured among theirs, within 20 ms is slewed out and a larger one starts a hard realignment; slewing and the mute of a realignment
end in LOCKED. Trail time is not stepped by any of them.
What a row does when it is not due, and that e may be any value between the least and the greatest of the 16, are the model's choice (log entries 3, 31, 77 and 105). -/
def Obligations.LockStatesFollowTheCopies : Prop :=
  ∀ s : State,
    let trailBut (t : State) (u : Trail) : Prop := Claims.onlyPosts ({ s with trail := u } : State) t ∧
      Claims.regsBut s t [Adr.TRAIL_STAT, Adr.TRAIL_OFFSET, Adr.TRAIL_ROLE]
    (s.lock = 1 → 256 ≤ s.trail.steady → ∃ t, exec .locked s = .next t ∧ t.lock = 2 ∧ trailBut t s.trail) ∧
    (s.lock ≠ 1 ∨ s.trail.steady < 256 → exec .locked s = .next s) ∧
    (s.lock ≠ 0 → s.isHead = false → 32 ≤ s.trail.missed → s.trail.realign = 0 → ∃ t, exec .holdover s = .next t ∧
      t.lock = 3 ∧ t.flag Adr.TRAIL_STAT 2 = false ∧ t.reg Adr.TRAIL_OFFSET = 0 ∧
      trailBut t { s.trail with errs := [], steady := 0, offs := 0, timingPort := none }) ∧
    (s.lock = 0 ∨ s.isHead = true ∨ s.trail.missed < 32 ∨ s.trail.realign ≠ 0 → exec .holdover s = .next s) ∧
    (∀ e : Int,
     let due := s.lock = 3 ∧ s.flag Adr.TRAIL_STAT 2 = false ∧ s.trail.realign = 0 ∧ s.trail.errs.length = 16 ∧
       (∃ x ∈ s.trail.errs, x ≤ e) ∧ (∃ x ∈ s.trail.errs, e ≤ x)
     let within := e.natAbs ≤ 256 * s.baseHz / 50
     (due → within → exec (.holdoverExit e) s = .next (({ s with trail := { s.trail with steady := 0 } } : State).setFlag Adr.TRAIL_STAT 2 true
        |>.setReg Adr.TRAIL_OFFSET (ux 32 (s.trail.err / 256)))) ∧
     (due → ¬ within → exec (.holdoverExit e) s = .next (({ s with trail := { s.trail with realign := 1 } } : State).setFlag Adr.TRAIL_STAT 3 true)) ∧
     (¬ due → exec (.holdoverExit e) s = .next s)) ∧
    (s.lock = 3 → s.flag Adr.TRAIL_STAT 2 = true → 1 ≤ s.trail.steady → ∃ t, exec .slewEnd s = .next t ∧
      t.lock = 2 ∧ t.flag Adr.TRAIL_STAT 2 = false ∧ t.reg Adr.TRAIL_OFFSET = 0 ∧ trailBut t s.trail) ∧
    (s.lock ≠ 3 ∨ s.flag Adr.TRAIL_STAT 2 = false ∨ s.trail.steady = 0 → exec .slewEnd s = .next s) ∧
    (s.trail.realign = 3 → s.trail.realignEnd ≤ s.time → ∃ t, exec .realignMuteEnd s = .next t ∧
      t.lock = 2 ∧ t.flag Adr.TRAIL_STAT 3 = false ∧ trailBut t { s.trail with realign := 0 }) ∧
    (s.trail.realign ≠ 3 ∨ s.time < s.trail.realignEnd → exec .realignMuteEnd s = .next s)

/-- R265, R267 to R270, R274, R275: a checked header says where its copy goes: nowhere at the trailhead, to the other port while that is UP, in
service and its peer sends frames, else back out as a wrapped copy, but never twice; and the copy begins to leave there at once, 400 ns within 1 UI after its
comma, with HOPS + 1 and a good check code. A whole copy is good when its header, trailer and FCRC are and no code error occurred; a bad FCRC counts as poisoned
or as this link's own error. What leaves of it at a node with nothing to send keeps its header but for HOPS, its audio but for the slots the node
owns, and carries a valid FCRC, or its complement where it was bad. A misplaced comma begins no frame, counts one code error, and spoils the copy it falls in.
Where in its range the forwarding delay lies is a free value (log entry 40). -/
def Obligations.CopiesAreJudgedAndForwarded : Prop :=
  ∀ (s : State) (p : Port) (b : List Byte) (codeErrors rx : Nat), s.inserted = true → s.link p = 3 →
    let i := portIx p
    let q := portOther p
    (b.length = 16 → s.learning = false →
      let placed := (s.port p).cadence = none ∨ ∃ c, (s.port p).cadence = some c ∧ c + 512 * 256 ≤ rx + 25 ∧ rx ≤ c + 512 * 256 + 25
      (placed → ∃ t h, exec (.frameHeader p b rx) s = .next t ∧ (t.port p).peer = 2 ∧ (t.port p).cadence = some rx ∧ (t.port p).hdr = some h ∧
        h.rx = rx ∧ h.head = b ∧ h.bad = !Frame.headerGood b s.dbl ∧
        h.dest = (if s.isHead then 0
          else if s.link q = 3 ∧ (s.port q).peer = 2 ∧ s.retired (portIx q) = false then 1
          else if Frame.wrap b then 0 else 2) ∧
        let o := if h.dest = 2 then p else q
        (h.dest = 0 ∨ s.carries o = false → h.tx = none) ∧
        (h.dest ≠ 0 → s.carries o = true → ∃ tx, h.tx = some tx ∧ (t.port o).sentAt.head? = some (tx, false) ∧
          let delay := 400 * s.baseHz * 256 / 1000000000
          rx + delay ≤ tx + 12 ∧ tx ≤ rx + delay + 12 ∧
          let f := (t.port o).txFrame
          f.length = 16 ∧ crc16 ((f.drop 1).take 13) = leAt f 14 2 ∧ Frame.hops f = (Frame.hops b + 1) % 4096 ∧ Frame.stamp f = Frame.stamp b ∧
          Machine.Frame.copy f = Machine.Frame.copy b ∧
          (h.dest = 1 → Frame.wrap f = Frame.wrap b ∧ Frame.wrappos f = Frame.wrappos b) ∧
          (h.dest = 2 → Frame.wrap f = true ∧ Frame.wrappos f = s.posFor (Frame.stamp b) % 2048))) ∧
      (¬ placed → ∃ t, exec (.frameHeader p b rx) s = .next t ∧ (t.port p).misplaced = (s.port p).misplaced + 1 ∧
        (s.retired i = true ∨ t.retired i = true ∨ (t.port p).hdr = (s.port p).hdr.map (fun h => { h with bad := true })) ∧
        (s.reg (Adr.TRAIL_CODEERRA + 4 * i) < 2 ^ 31 - 1 → t.reg (Adr.TRAIL_CODEERRA + 4 * i) = s.reg (Adr.TRAIL_CODEERRA + 4 * i) + 1))) ∧
    (∀ h, b.length = 1024 → (s.port p).hdr = some h → h.rx = rx → rx ∈ (s.port p).commas → s.trail.txq = [] →
      let good := h.bad = false ∧ codeErrors = 0 ∧ Frame.fcrc b = leAt b 1020 4 ∧ h.head = b.take 16 ∧ Frame.headerGood b s.dbl = true ∧
        Frame.trailerGood b = true
      ∃ t, exec (.frameReceived p b codeErrors rx) s = .next t ∧ t.trail.events = s.trail.events ∧
        (good → (t.port p).hdr = none ∧ (t.port p).good = some (Frame.hops b, Frame.stamp b) ∧ (t.port p).copy = some b ∧
          t.flag (Adr.TRAIL_PSTAT i) 3 = true ∧ t.reg (Adr.FAULT_ERR i) = s.reg (Adr.FAULT_ERR i)) ∧
        (¬ good → (t.port p).hdr = none ∧ (t.port p).good = none ∧ (t.port p).copy = (s.port p).copy ∧ t.flag (Adr.TRAIL_PSTAT i) 3 = false) ∧
        (leAt b 1020 4 ≠ Frame.fcrc b →
          let a := (if leAt b 1020 4 = Frame.fcrc b ^^^ 0xFFFFFFFF then Adr.TRAIL_POISONA else Adr.TRAIL_CRCERRA) + 4 * i
          s.reg a < 2 ^ 31 - 1 → t.reg a = s.reg a + 1) ∧
        (∀ tx, h.dest = 1 → h.tx = some tx → s.carries q = true → codeErrors = 0 →
          let f := (t.port q).txFrame
          f.length = 1024 ∧ crc16 ((f.drop 1).take 13) = leAt f 14 2 ∧ Frame.hops f = (Frame.hops b + 1) % 4096 ∧ Frame.stamp f = Frame.stamp b ∧
          Machine.Frame.copy f = Machine.Frame.copy b ∧ Frame.wrap f = Frame.wrap b ∧ Frame.relay f = Frame.relay b ∧
          (s.ownSlots (Frame.stamp b) = [] → (f.drop 16).take 768 = (b.drop 16).take 768) ∧
          (good → leAt f 1020 4 = Frame.fcrc f) ∧ (¬ good → leAt f 1020 4 = Frame.fcrc f ^^^ 0xFFFFFFFF)))

/-- R19, R287, R315, R316: the trailhead that has nothing to send starts one frame on each port that carries frames, at the start of its trail cycle, stamped with it,
its header, trailer and FCRC good, no hop made, its PATHDLY that of the trailhead; not twice in a cycle and not within one; one that a claim has ended stops
instead and joins as a member. A good copy that waits is delivered once: its taps' fresh slots, and those that no node owns, enter the
buffer, and a copy without messages changes no queue.
What a row does when it is not due is the model's choice (log entry 3). -/
def Obligations.FramesStartAndAreDelivered : Prop :=
  ∀ s : State,
    (let x := s.time8 - s.trail.delay
     let stamp := x / 131072 * 512
     let due := s.isHead = true ∧ s.inserted = true ∧ s.trail.delay ≤ s.time8 ∧ x % 131072 < 256 ∧ ∀ y, s.trail.started = some y → y < stamp
     (due → s.trail.stopping = false → s.trail.txq = [] → s.trail.relays = [] → s.trail.commitFor = none →
       ∃ t, exec .frameStart s = .next t ∧ t.trail.started = some stamp ∧
        ∀ p, s.carries p = true →
          let f := (t.port p).txFrame
          f.length = 1024 ∧ Frame.headerGood f s.dbl = true ∧ Frame.trailerGood f = true ∧ leAt f 1020 4 = Frame.fcrc f ∧
          Frame.stamp f = stamp % 2 ^ 64 ∧ Frame.hops f = 0 ∧ Frame.wrap f = false ∧ leAt f 1008 4 = s.trail.delay % 2 ^ 32 ∧ (frameMsgs f).1 = []) ∧
     (due → s.trail.stopping = true → ∃ t, exec .frameStart s = .next t ∧ t.isHead = false ∧ t.tookOver = false ∧ t.lock = 0 ∧
        t.admitted = false ∧ t.trail.nodes = [] ∧ t.trail.helloNow = true) ∧
     (¬ due → s.trail.commitFor = none → exec .frameStart s = .next s)) ∧
    (∀ p, (s.port p).copy = none → exec (.frameDelivery p) s = .next s) ∧
    (∀ p b k, (s.port p).copy = some b → frameMsgs b = ([], k, false) → ∃ t, exec (.frameDelivery p) s = .next t ∧
      (t.port p).copy = none ∧ t.trail.events = s.trail.events ∧ t.trail.txq = s.trail.txq ∧
      (s.isHead = false → t.port (portOther p) = s.port (portOther p)) ∧ t.lock = s.lock ∧ t.time = s.time ∧
      (s.member = true → ∀ k ∈ s.tapSlots,
        (∀ o, s.slotOwner (Frame.stamp b) k = some o → slotFresh b s.isHead o (s.posFor (Frame.stamp b)) = true) →
        (∀ x, (Frame.stamp b, k, x) ∉ s.trail.buf) →
        (Frame.stamp b, k, Frame.slot b k) ∈ t.trail.buf))

/-- A whole message b of this system that the node hears and acts on: it is well formed, its address selects the node, its number is new to its
source's window, no tag is required, and the node has a pack. -/
def Claims.passes (s : State) (b : List Byte) : Prop :=
  s.inserted = true ∧ s.booting = false ∧ b.length = Msg.len b ∧ Msg.syschk b = s.fld Adr.TRAIL_SYSID 15 0 ∧ msgMalformed b = false ∧
  s.selects b = true ∧ s.authReq = false ∧ s.noPack = false ∧
  (Msg.isNew b = true ∨ (windowTake (Sp.find s.trail.win (Msg.src b)) (Msg.seq b)).1 = 0)

/-- The node once it has heard b: its source is present in the table, and its number is in the window. -/
def Claims.heard (s : State) (b : List Byte) : State :=
  if Msg.isNew b then s else ((s.heardFrom (Msg.src b)).windowAccept (Msg.src b) (Msg.seq b)).2

/-- R278: the duplicate window. A number above the highest is new, moves the mask up and becomes the highest; the highest again, or one of the 32 below it
seen before, is a duplicate; one of those 32 not seen is new; all others are stale. A duplicate of any message is counted, and nothing
else changes but that its source has been heard.
The window of the node's own number is the model's reading (log entry 29). -/
def Obligations.MessagesAreTakenOnce : Prop :=
  (∀ (h m q : Nat), h < 65536 → m < 2 ^ 32 → q < 65536 →
    let d := (q + 65536 - h) % 65536
    let r := windowTake (some (h, m)) q
    (d = 0 → r = (1, (h, m))) ∧
    (1 ≤ d → d ≤ 32767 → r.1 = 0 ∧ r.2.1 = q ∧ r.2.2 < 2 ^ 32 ∧
      (∀ i, i < 32 → bit r.2.2 i = (decide (i + 1 = d) || (decide (d ≤ i) && bit m (i - d))))) ∧
    (65504 ≤ d → (bit m (65535 - d) = true → r = (1, (h, m))) ∧
      (bit m (65535 - d) = false → r.1 = 0 ∧ r.2.1 = h ∧ ∀ i, bit r.2.2 i = (bit m i || decide (i = 65535 - d)))) ∧
    (32767 < d → d < 65504 → r = (2, (h, m)))) ∧
  (∀ q, windowTake none q = (0, (q, 0))) ∧
  (∀ (s : State) (b : List Byte) (ins : Instr), s.inserted = true → s.booting = false → s.noPack = false →
    Msg.syschk b = s.fld Adr.TRAIL_SYSID 15 0 → msgMalformed b = false → Msg.isNew b = false →
    (windowTake (Sp.find s.trail.win (Msg.src b)) (Msg.seq b)).1 = 1 → ins.wf = true →
    ins ∈ [Instr.eventMessage b, .cmdRead b, .cmdWrite b, .timeSnap b, .coreCmd b, .reply b, .hello b, .admitMsg b, .refuse b, .mapset b, .slotset b,
      .headClaim b] →
    ∃ t, exec ins s = .next t ∧ t = ({ s.heardFrom (Msg.src b) with
        regs := t.regs, trail := { (s.heardFrom (Msg.src b)).trail with win := t.trail.win } } : State) ∧
      (∀ k, Sp.find t.trail.win k = Sp.find s.trail.win k) ∧
      (s.reg Adr.TRAIL_DUPDROP < 2 ^ 31 - 1 → t.reg Adr.TRAIL_DUPDROP = s.reg Adr.TRAIL_DUPDROP + 1) ∧
      ∀ a, a ≠ Adr.TRAIL_DUPDROP → t.reg a = s.reg a)

/-- R24, R290, R305, R308, R310, R458: an event that selects the node is queued behind every event that comes no later at its intake (by boundary, source,
the Trail's before GO's, sequence number), or counted where it is more than 2^24 ticks ahead or the queue is full. A
command is executed once and answered: CMD_READ with the words, CMD_WRITE of one register with the effect of that write, TIME_SNAP with trail
time, CORE_CMD with what source TCMD says; a command whose REPLY is kept is answered with it again. -/
def Obligations.TrailMessagesTakeEffect : Prop :=
  ∀ (s : State) (b : List Byte), Claims.passes s b →
    let u := Claims.heard s b
    let answers (i : Instr) (w : State) (status : Nat) (words : List Nat) : Prop := ∃ t m, exec i s = .next t ∧
      t = { w with trail := t.trail } ∧ t.trail.txq = w.trail.txq ++ [m] ∧ t.trail.events = w.trail.events ∧
      Msg.type m.bytes = 0x2F ∧ Msg.node m.bytes = Msg.src b ∧ Msg.orig m.bytes = Msg.orig b ∧ byteAt m.bytes 16 = status ∧
      byteAt m.bytes 17 = words.length ∧ (m.bytes.drop 18).take (4 * words.length) = bytesOfWords words
    let fresh := ∀ k ∈ s.trail.kept, ¬ (k.src = Msg.src b ∧ k.orig = Msg.orig b)
    let a := leAt b 16 4
    (Msg.isEvent (Msg.type b) = true →
      (s.time + 2 ^ 24 < leAt b 14 8 → exec (.eventMessage b) s = .next (u.count Adr.TRAIL_BADMSG)) ∧
      (leAt b 14 8 ≤ s.time + 2 ^ 24 → 1024 ≤ s.trail.events.length → exec (.eventMessage b) s = .next (u.count Adr.TRAIL_EVFULL)) ∧
      (leAt b 14 8 ≤ s.time + 2 ^ 24 → s.trail.events.length < 1024 → ∃ before after,
        let e := queuedEvent b (Msg.src b) false
        let sooner (r : QEvent) : Prop := boundaryAt s.spt e.time < boundaryAt s.spt r.time ∨ boundaryAt s.spt e.time = boundaryAt s.spt r.time ∧
          (e.src < r.src ∨ e.src = r.src ∧ (r.go = true ∨ 32768 ≤ (e.seq + 65536 - r.seq) % 65536))
        s.trail.events = before ++ after ∧ (∀ r ∈ before, ¬ sooner r) ∧ (∀ r, after.head? = some r → sooner r) ∧
        exec (.eventMessage b) s = .next { u with trail := { u.trail with events := before ++ e :: after } } ∧
        e.time = leAt b 14 8 ∧ e.src = Msg.src b ∧ e.seq = Msg.seq b ∧ e.go = false ∧ e.act = eventAct b)) ∧
    (Msg.type b = 0x22 → Msg.engine b = 0 → fresh → answers (.timeSnap b) u 0x00 [s.time % 2 ^ 32, s.time / 2 ^ 32 % 2 ^ 32]) ∧
    (Msg.type b = 0x20 → Msg.engine b = 0 → fresh → a % 4 = 0 →
      let r := u.readWords a (byteAt b 20)
      answers (.cmdRead b) r.2.2.2 r.1 r.2.2.1) ∧
    (∀ row, Msg.type b = 0x21 → Msg.engine b = 0 → fresh → byteAt b 20 = 1 → regRow a = some row → codeReg a = false →
      0x02000000 ≤ a → a < 0x02010000 → a % 4 = 0 → u.draw.2.accepts (.trail (Msg.src b)) a (leAt b 22 4) = true →
      answers (.cmdWrite b) (u.draw.2.regApply row a (leAt b 22 4)) 0x00 []) ∧
    (Msg.type b = 0x23 → Msg.engine b = 3 → fresh →
      let r := u.offer 1 ((b.drop 16).take 16)
      answers (.coreCmd b) r.2 (match r.1 with | .written => 0x00 | .full => 0x0A | .disabled => 0x03) []) ∧
    (∀ k, Msg.type b = 0x22 → s.trail.kept.find? (fun k => k.src = Msg.src b && k.orig = Msg.orig b) = some k →
      exec (.timeSnap b) s = .next (u.enqueue k.reply (s.isHead && Msg.node b = 0) false))

/-- R295 to R299, R309, R316: the trailhead answers a new node's HELLO with an ADMIT and a row of its table, or with a REFUSE; the node whose serial an ADMIT carries
takes its number, lead and reference hash, enters LOCKING and answers, but not where the lead is none of Table NS-4; every other member records the entry; a REFUSE changes nothing. MAPSET and SLOTSET entries join their
epoch, a later entry in place of an earlier one. A REPLY ends its command, or leaves it for a repeat after E_FULL and E_BUSY. A generating node that hears
another's claim will stop at its next frame (FramesStartAndAreDelivered).
What a node does before it is admitted, and a full table, are the model's reading (log entries 30 to 34). -/
def Obligations.MembersJoinTheTrail : Prop :=
  ∀ (s : State) (b : List Byte), Claims.passes s b →
    let u := Claims.heard s b
    let serial := leAt b 14 8
    let epoch := leAt b 14 2
    let own := Config.serial % 2 ^ 64
    let sent (t : State) (type : Nat) (body : List Byte) : Prop := ∃ m, t.trail.txq = s.trail.txq ++ [m] ∧ Msg.type m.bytes = type ∧
      (m.bytes.drop 14).take body.length = body
    (Msg.type b = 0x30 → s.isHead = false → exec (.hello b) s = .next u) ∧
    (Msg.type b = 0x30 → s.isHead = true → Msg.isNew b = true →
      (s.admitStatus b false ≠ 0 → ∃ t, exec (.hello b) s = .next t ∧ t.trail.nodes = s.trail.nodes ∧
        sent t 0x32 (natLE 8 serial ++ [BitVec.ofNat 8 (s.admitStatus b false)])) ∧
      (∀ n, s.admitStatus b false = 0 → s.grantNode serial (leAt b 38 2) = some n → ∃ t e, exec (.hello b) s = .next t ∧
        e ∈ t.trail.nodes ∧ e.serial = serial ∧ e.node = n ∧ e.present = true ∧ e.admitRun.isSome = true ∧
        (∀ x ∈ s.trail.nodes, x.serial ≠ serial → x.node ≠ n → x ∈ t.trail.nodes) ∧ sent t 0x31 (natLE 8 serial ++ natLE 2 n))) ∧
    (Msg.type b = 0x31 → serial = own → s.isHead = false → s.leadOk (leAt b 24 2) = false →
      exec (.admitMsg b) s = .next (u.count Adr.TRAIL_BADMSG)) ∧
    (Msg.type b = 0x31 → serial ≠ own → s.isHead = false → ∃ t e, exec (.admitMsg b) s = .next t ∧ t.trail.txq = s.trail.txq ∧
      e ∈ t.trail.nodes ∧ e.serial = serial ∧ e.node = leAt b 22 2 ∧ e.present = true ∧ Sp.find t.trail.win (leAt b 22 2) = none) ∧
    (Msg.type b = 0x31 → serial = own → s.isHead = false → s.leadOk (leAt b 24 2) = true → ∃ t, exec (.admitMsg b) s = .next t ∧
      t.nodeNo = leAt b 22 2 ∧ t.admitted = true ∧ t.fld Adr.TRAIL_LEAD 8 0 = leAt b 24 2 ∧ t.reg Adr.VOICE_REFHASHLO = leAt b 26 4 ∧ t.reg Adr.VOICE_REFHASHHI = leAt b 30 4 ∧
      (¬ (s.admitted = true ∧ s.nodeNo = leAt b 22 2) → t.lock = 1 ∧ t.trail.needTime = true) ∧
      sent t 0x2F (natLE 2 (Msg.seq b) ++ [0])) ∧
    (Msg.type b = 0x32 → exec (.refuse b) s = .next u) ∧
    (Msg.type b = 0x33 → epoch ≠ s.reg Adr.TRAIL_EPOCH → s.trail.wanted ≠ some epoch → ∃ t, exec (.mapset b) s = .next t ∧
      t = { u with trail := { u.trail with maps := t.trail.maps } } ∧ (t.mapOf epoch).slots = (s.mapOf epoch).slots ∧
      (∀ k, k < leAt b 16 2 → (leAt b (18 + 4 * k) 2 % 2048, leAt b (20 + 4 * k) 2 % 2048) ∈ (t.mapOf epoch).pos) ∧
      (∀ x, x ≠ epoch → t.mapOf x = s.mapOf x)) ∧
    (Msg.type b = 0x34 → epoch ≠ s.reg Adr.TRAIL_EPOCH → s.trail.wanted ≠ some epoch → s.dbl = false → ∃ t, exec (.slotset b) s = .next t ∧
      t = { u with trail := { u.trail with maps := t.trail.maps } } ∧ (t.mapOf epoch).pos = (s.mapOf epoch).pos ∧
      (∀ k, k < byteAt b 17 → (byteAt b 16 + k, leAt b (20 + 2 * k) 2) ∈ (t.mapOf epoch).slots) ∧
      (∀ x, x ≠ epoch → t.mapOf x = s.mapOf x)) ∧
    (∀ c, Msg.type b = 0x2F → s.isHead = false → s.trail.cmds.find? (fun c => c.dest = Msg.src b && c.orig = Msg.orig b) = some c →
      ∃ t, exec (.reply b) s = .next t ∧
        (¬ (byteAt b 16 = 0x0A ∨ byteAt b 16 = 0x04) ∨ c.left = 0 → t.trail.cmds = s.trail.cmds.filter (· ≠ c)) ∧
        (byteAt b 16 = 0x0A ∨ byteAt b 16 = 0x04 → c.left ≠ 0 →
          t.trail.cmds = s.trail.cmds.map (fun x => if x = c then { c with last := byteAt b 16 } else x))) ∧
    (Msg.type b = 0x35 →
      (s.isHead = true → serial ≠ own → exec (.headClaim b) s = .next { u with trail := { u.trail with stopping := true } }) ∧
      (s.isHead = false ∨ serial = own → exec (.headClaim b) s = .next u))

/-- R294, R296, R297, R299, R309, R315, R316: what falls due by the clock. A HELLO is sent in its turn; an unanswered ADMIT is repeated and after five repeats its
row is dropped; an admitted node unheard for a second is absent; the map is repeated; a command without its reply is repeated, or ends with the
last status; a standby takes over from a trailhead whose frames are missed; an eligible node that has heard no comma for 2 ms generates. Before it
is due, none changes anything.
R290, R306: SNAP captures all 64 bits of trail time in TRAIL_SNAPLO and TRAIL_SNAPHI; a read of TRAIL_TIMELO captures the high word that
TRAIL_TIMEHI then returns; a write of TRAIL_LEAD on the trailhead does not change the lead, but sends it to zone 63 as a LEAD event stamped two
old leads later; in the boot a record of the pack stores it.
What a row does when it is not due is the model's choice (log entries 3, 34, 35 and 36). -/
def Obligations.TrailTimersRunAndTimeIsCaptured : Prop :=
  (∀ s : State,
    (let due := s.inserted = true ∧ s.booting = false ∧ s.isHead = false ∧ (s.link .a = 3 ∨ s.link .b = 3) ∧ s.learning = false ∧
       (s.trail.helloNow = true ∨ s.trail.helloAt + s.msTicks (if s.admitted then 250 else 20) ≤ s.clk)
     (due → ∃ t m, exec .helloTimer s = .next t ∧ t = { s with trail := t.trail } ∧ t.trail.txq = s.trail.txq ++ [m] ∧
       Msg.type m.bytes = 0x30 ∧ Msg.isNew m.bytes = !s.admitted ∧ leAt m.bytes 14 8 = Config.serial % 2 ^ 64 ∧
       t.trail.helloNow = false ∧ t.trail.helloAt = s.clk) ∧
     (¬ due → exec .helloTimer s = .next s)) ∧
    (∀ (x : BitVec 64) (e : NodeEnt) (q n at_ : Nat), s.trail.nodes.find? (fun e => e.serial = x.toNat) = some e → e.admitRun = some (q, n, at_) →
      let due := s.isHead = true ∧ at_ + s.msTicks 10 ≤ s.clk
      (¬ due → exec (.admitRepeat x) s = .next s) ∧
      (due → 5 ≤ n → exec (.admitRepeat x) s =
        .next { s with trail := { s.trail with nodes := s.trail.nodes.filter (fun y => y.serial ≠ x.toNat) } }) ∧
      (due → n < 5 → ∃ t m, exec (.admitRepeat x) s = .next t ∧ t = { s with trail := t.trail } ∧ t.trail.txq = s.trail.txq ++ [m] ∧
        Msg.type m.bytes = 0x31 ∧ leAt m.bytes 22 2 = e.node % 65536 ∧ ∃ f ∈ t.trail.nodes, f.serial = e.serial ∧ ∃ q', f.admitRun = some (q', n + 1, s.clk))) ∧
    (∀ (n : BitVec 11) (e : NodeEnt), s.trail.nodes.find? (fun e => e.node = n.toNat) = some e →
      let due := s.isHead = true ∧ e.present = true ∧ e.admitRun = none ∧ e.heard + s.msTicks 1000 ≤ s.clk
      (¬ due → exec (.nodeAbsent n) s = .next s) ∧
      (due → ∃ t, exec (.nodeAbsent n) s = .next t ∧ { e with present := false } ∈ t.trail.nodes ∧ t.trail.txq = s.trail.txq ∧
        Claims.onlyPosts ({ s with trail := t.trail } : State) t)) ∧
    (let due := s.isHead = true ∧ s.inserted = true ∧ s.trail.mapSent + s.msTicks 100 ≤ s.clk
     (¬ due → exec .mapRepeat s = .next s) ∧
     (due → ∃ t ms, exec .mapRepeat s = .next t ∧ t = { s with trail := t.trail } ∧ t.trail.mapSent = s.clk ∧ t.trail.txq = s.trail.txq ++ ms ∧
       5 ≤ ms.length ∧ (∀ m ∈ ms, Msg.type m.bytes = 0x33 ∨ Msg.type m.bytes = 0x34) ∧
       ((ms.filter (fun m => Msg.type m.bytes = 0x34)).map (fun m => byteAt m.bytes 16)) = [0, 64, 128, 192])) ∧
    (∀ (n : BitVec 11) (c : CmdOut), s.trail.cmds.find? (fun c => c.dest = n.toNat) = some c →
      let due := c.since + s.msTicks (s.fld Adr.TRAIL_CMDCFG 7 0) ≤ s.clk
      (¬ due → exec (.commandTimeout n) s = .next s) ∧
      (due → c.left = 0 → ∃ t, exec (.commandTimeout n) s = .next t ∧ t.trail.cmds = s.trail.cmds.filter (· ≠ c) ∧ t.trail.txq = s.trail.txq) ∧
      (due → c.left ≠ 0 → ∃ t m, exec (.commandTimeout n) s = .next t ∧ t = { s with trail := t.trail } ∧ t.trail.txq = s.trail.txq ++ [m] ∧
        t.trail.cmds = s.trail.cmds.map (fun x => if x = c then { c with left := c.left - 1, since := s.clk } else x))) ∧
    (∀ stamp path, s.flag Adr.TRAIL_ROLE 4 = true → s.isHead = false → s.inserted = true → s.missedFrame = some (stamp, path) →
      ∃ t m, exec .headTakeover s = .next t ∧ t.isHead = true ∧ t.tookOver = true ∧ t.flag Adr.TRAIL_ROLE 4 = false ∧
        t.trail.delay = path + 16 * 256 ∧ t.trail.started = some (stamp - 512) ∧ t.nodeNo = s.nodeNo ∧
        t.trail.txq = s.trail.txq ++ [m] ∧ Msg.type m.bytes = 0x35) ∧
    (s.flag Adr.TRAIL_ROLE 4 = false ∨ s.isHead = true → exec .headTakeover s = .next s) ∧
    (∀ x, s.trail.listenAt = some x → s.isHead = false →
      (s.clk < x + s.msTicks 2 → exec .headListenEnd s = .next s) ∧
      (x + s.msTicks 2 ≤ s.clk → ∃ t, exec .headListenEnd s = .next t ∧ t.trail.listenAt = none ∧
        (s.trail.heard = true → t = { s with trail := t.trail }) ∧
        (s.trail.heard = false → t.isHead = true ∧ t.lock = 2 ∧ t.nodeNo = 0 ∧ t.admitted = true ∧ t.reg Adr.TRAIL_POS = 0)))) ∧
  (∀ (s : State) (src : Source), s.reaches src = true →
    (∃ t, exec (.snap src) s = .next t ∧ t = { s with regs := t.regs } ∧ t.reg Adr.TRAIL_SNAPLO + 2 ^ 32 * t.reg Adr.TRAIL_SNAPHI = s.time % 2 ^ 64 ∧
      ∀ a, a ≠ Adr.TRAIL_SNAPLO → a ≠ Adr.TRAIL_SNAPHI → t.reg a = s.reg a) ∧
    (∃ t, exec (.trailTimeloRead src) s = .next t ∧ t = { s with trail := { s.trail with hiHold := s.time / 2 ^ 32 % 2 ^ 32 } } ∧
      (t.regRead Adr.TRAIL_TIMEHI).1 = s.time / 2 ^ 32 % 2 ^ 32 ∧ (s.regRead Adr.TRAIL_TIMELO).1 = s.time % 2 ^ 32) ∧
    (∀ v : Word, s.accepts src Adr.TRAIL_LEAD v.toNat = true → s.booting = true →
      exec (.trailLeadWrite src v) s = .next (s.setFld Adr.TRAIL_LEAD 8 0 v.toNat)) ∧
    (∀ v : Word, s.accepts src Adr.TRAIL_LEAD v.toNat = true → s.booting = false → ∃ t m, exec (.trailLeadWrite src v) s = .next t ∧ t = { s with trail := t.trail } ∧
      t.trail.txq = s.trail.txq ++ [m] ∧ Msg.type m.bytes = 0x0B ∧ Msg.zd m.bytes = true ∧ Msg.zone m.bytes = 63 ∧
      leAt m.bytes 14 8 = (s.time + 2 * 512 * s.fld Adr.TRAIL_LEAD 8 0) % 2 ^ 64 ∧ leAt m.bytes 22 2 = v.toNat % 512))


/-! ### Audio ports (chapter 11) -/

/-- A period beside the mean of those before it is a glitch: it lies more than 6 % off (R327). -/
def Claims.glitch (c : PClk) (period : Nat) : Prop :=
  c.periods ≠ [] ∧ withinPm 60 (period * c.periods.length) (c.periods.foldl (· + ·) 0) = false

/-- The rate that a period leaves can be shown and is not found wrong (R327, R328). -/
def Claims.steady (s : State) (c : PClk) (period : Nat) : Prop :=
  let l := (period :: c.periods).take 256
  s.apHz l ≠ 0 ∧ (c.stable + 1 < 256 ∨ s.rateRight l = true)

/-- R323, R326, R327, R334: a running, unmuted slave port takes a whole frame into its FIFO, cut or filled to its channels, a channel with a parity
error, or invalid under VPOL, keeping its last sample, as every channel does in a glitch; errors and glitches are counted; a full FIFO counts OVER. A
frame start takes the oldest frame to send, zeros while muted, or repeats the last and counts UNDER. No other port changes.
What a row does when it is not due is the model's choice (log entry 3). -/
def Obligations.FramesPassThroughTheFifos : Prop :=
  ∀ (s : State) (p : Fin 6) (f : PortFrame), s.inserted = true → s.apRetired p.val = false → s.apSupplied = true →
    let q := s.aport p.val
    let bad (c : Nat) : Bool := 4 ≤ p.val && f.parErr.getD c false
    let inv (c : Nat) : Bool := 4 ≤ p.val && f.vbit.getD c false
    let x (g : Bool) := if g = true then q.prev else (List.range (s.apCh p.val)).map (fun c =>
      if bad c = true ∨ (s.flag (Adr.APORT_CTL p.val) 8 = true ∧ inv c = true) then q.prev.getD c 0
      else s.apCarry p.val ((f.samples.map (·.toInt)).getD c 0))
    (s.apSlave p.val = true → q.rxRun = true → s.apMuted p.val = false → s.apFlag p.val 0 = false →
      s.flag (Adr.APORT_STAT p.val) 0 = true → (f.mismatch = false ∨ q.txRun = false) → Claims.steady s q.clk f.period →
      ∀ g, (g = true ↔ Claims.glitch q.clk f.period) → ∃ t, exec (.sapFrameReceived p f) s = .next t ∧
        t = { s with regs := t.regs, aports := t.aports, flt := { s.flt with errs := [] } } ∧
        (t.aport p.val).fifo = (if q.fifo.length < 32 then q.fifo ++ [x g] else q.fifo) ∧ (t.aport p.val).prev = x g ∧
        (t.aport p.val).clk.periods = (f.period :: q.clk.periods).take 256 ∧
        (∀ o, o ≠ p.val → t.aport o = s.aport o) ∧ t.aports = { s.aports with ports := t.aports.ports } ∧
        t.reg (Adr.APORT_RATE p.val) = s.apHz ((f.period :: q.clk.periods).take 256) ∧
        (32 ≤ q.fifo.length → s.reg (Adr.APORT_OVER p.val) < 2 ^ 31 - 1 →
          t.reg (Adr.APORT_OVER p.val) = s.reg (Adr.APORT_OVER p.val) + 1) ∧
        (g = true → s.reg (Adr.APORT_GLITCH p.val) < 2 ^ 31 - 1 →
          t.reg (Adr.APORT_GLITCH p.val) = s.reg (Adr.APORT_GLITCH p.val) + 1) ∧
        (g = false → t.reg (Adr.APORT_GLITCH p.val) = s.reg (Adr.APORT_GLITCH p.val)) ∧
        (4 ≤ p.val → s.reg (Adr.APORT_PARERR p.val) + f.parErr.length < 2 ^ 31 →
          t.reg (Adr.APORT_PARERR p.val) = s.reg (Adr.APORT_PARERR p.val) + (f.parErr.filter id).length) ∧
        (4 ≤ p.val → s.reg (Adr.APORT_VALIDCNT p.val) + f.vbit.length < 2 ^ 31 →
          t.reg (Adr.APORT_VALIDCNT p.val) = s.reg (Adr.APORT_VALIDCNT p.val) + (f.vbit.filter id).length) ∧
        ∀ a, a ∉ [Adr.APORT_RATE p.val, Adr.APORT_OVER p.val, Adr.APORT_GLITCH p.val, Adr.APORT_PARERR p.val, Adr.APORT_VALIDCNT p.val] → t.reg a = s.reg a) ∧
    (s.apSlave p.val = false → exec (.sapFrameReceived p f) s = .next s.clean) ∧
    (∀ h : p.val < 4,
      let row := exec (.txFrameStart ⟨p.val, h⟩) s
      (s.apSlave p.val = true → q.txRun = true →
        (s.apMuted p.val = true → row = .next (s.setAport p.val (fun a => { a with txNow := List.replicate (s.apCh p.val) 0 }))) ∧
        (s.apMuted p.val = false → q.txFifo = [] → row = .next (s.count (Adr.APORT_UNDER p.val))) ∧
        (∀ y l, s.apMuted p.val = false → q.txFifo = y :: l → row = .next (s.setAport p.val (fun a => { a with txNow := y, txFifo := l })))) ∧
      (s.apSlave p.val = false ∨ q.txRun = false → row = .next s))

/-- R327, R328, R335, R340, R342: two periods without an edge stop the clock: CLKSTOP, MUTED, a rate of 0 and a record. Sixteen frames in a row more than 0.5 % off are a rate change:
RATECHG, MUTED, the measurement starts from the last period. 256 stable frames at a wrong rate set RATEERR and mute; 256 at the system rate mark the clock good, to
unmute at the next boundary. An edge on WCLK is measured and its distance to the boundary kept. A block that passes its check is shown, counted, and told of where its status words differ; one that fails is counted. A loop
that stood at its limit for 10 s, or lost its source, is released: RELEASED, not LOCKED, one record.
What a row does when it is not due is the model's choice (log entries 3 and 75). -/
def Obligations.ClocksBlocksAndTheLoopAreWatched : Prop :=
  (∀ (s : State) (p : Fin 9),
    let c := s.pclk p.val
    let regs := [Adr.APORT_STAT p.val, Adr.APORT_RATE p.val, Adr.APORT_RATECHG p.val, Adr.APORT_WCLK]
    let done (t : State) : Prop := Claims.onlyPosts { s with aports := t.aports } t ∧ Claims.regsBut s t regs ∧
      ∀ q, q ≠ p.val → q < 8 → t.aport q = s.aport q
    let used := p.val = 8 ∨ (s.apSlave p.val = true ∧ s.flag (Adr.APORT_STAT p.val) 0 = true ∧ s.apRetired p.val = false)
    let watched := s.inserted = true ∧ used
    let settling := s.apMuted p.val = true ∧ s.apFlag p.val 2 = false
    let good := used ∧ s.apMuted p.val = true ∧ s.apFlag p.val 0 = false ∧ 256 ≤ c.stable ∧ s.rateRight c.periods = true
    (watched → s.apFlag p.val 0 = false → c.since + 2 * s.spt ≤ s.clk → ∃ t, exec (.clkstop p) s = .next t ∧ done t ∧
      t.apFlag p.val 0 = true ∧ t.apMuted p.val = true ∧ (if p.val = 8 then t.fld Adr.APORT_WCLK 17 0 else t.reg (Adr.APORT_RATE p.val)) = 0) ∧
    (¬ watched ∨ s.apFlag p.val 0 = true ∨ s.clk < c.since + 2 * s.spt → exec (.clkstop p) s = .next s) ∧
    (used → ¬ settling → 16 ≤ c.off → s.shaped = true → ∃ t, exec (.ratechg p) s = .next t ∧ done t ∧
      t.apFlag p.val 0 = false ∧ t.apFlag p.val 1 = true ∧ t.apFlag p.val 2 = false ∧ t.apMuted p.val = true ∧
      t.pclk p.val = ⟨[c.periods.getD 0 0], 0, 1, s.clk, false⟩ ∧
      (p.val < 8 → s.reg (Adr.APORT_RATECHG p.val) < 2 ^ 31 - 1 → t.reg (Adr.APORT_RATECHG p.val) = s.reg (Adr.APORT_RATECHG p.val) + 1)) ∧
    (¬ used ∨ settling ∨ c.off < 16 → exec (.ratechg p) s = .next s) ∧
    (good → exec (.clkback p) s = .next (s.setPclk p.val { c with back := true })) ∧
    (¬ good → exec (.clkback p) s = .next s) ∧
    (∀ (q : Fin 6) (f : PortFrame), q.val = p.val → watched → s.apSupplied = true → s.shaped = true → s.apFlag p.val 0 = false → s.apFlag p.val 2 = false →
      (f.mismatch = false ∨ (s.aport p.val).txRun = false) → 255 ≤ c.stable → c.near f.period 5 = true →
      s.apHz ((f.period :: c.periods).take 256) ≠ 0 → s.rateRight ((f.period :: c.periods).take 256) = false →
      ∃ t, exec (.sapFrameReceived q f) s = .next t ∧ t.apFlag p.val 2 = true ∧ t.apFlag p.val 1 = false ∧ t.apMuted p.val = true ∧
        (t.aport p.val).fifo = (s.aport p.val).fifo) ∧
    (∀ period toBoundary : Nat, s.inserted = true → s.apSupplied = true → s.apFlag 8 0 = false → s.apMuted 8 = false →
      Claims.steady s s.aports.wclk period →
      ∃ t, exec (.wclkEdge period toBoundary) s = .next t ∧ t = { s with regs := t.regs, aports := t.aports } ∧
        t.aports = { s.aports with wclk := t.aports.wclk, wphase := toBoundary } ∧
        t.aports.wclk.periods = (period :: s.aports.wclk.periods).take 256 ∧
        (Claims.glitch s.aports.wclk period → t.flag Adr.APORT_WCLK 21 = true) ∧
        t.fld Adr.APORT_WCLK 17 0 = s.apHz ((period :: s.aports.wclk.periods).take 256) ∧ ∀ a, a ≠ Adr.APORT_WCLK → t.reg a = s.reg a)) ∧
  ((∀ (s : State) (p : Fin 2) (cs ub : List Byte), cs.length = 48 → ub.length = 48 →
    let q := 4 + p.val
    let good (l : List Byte) : Prop := bit (byteAt l 0) 0 = false ∨ crcCs (l.take 23) = byteAt l 23
    let fine := good (cs.take 24) ∧ good (cs.drop 24)
    let heard := (s.aport q).rxRun = true ∧ s.apMuted q = false ∧ s.apSupplied = true
    (¬ heard → exec (.csBlock p cs ub) s = .next s) ∧
    (heard → ∃ t, exec (.csBlock p cs ub) s = .next t ∧ Claims.onlyPosts s t ∧ t.flag (Adr.APORT_STAT q) 7 = bit (byteAt cs 0) 0 ∧
      (¬ fine → (s.reg (Adr.APORT_CSCRC q) < 2 ^ 31 - 1 → t.reg (Adr.APORT_CSCRC q) = s.reg (Adr.APORT_CSCRC q) + 1) ∧
        t.fld (Adr.APORT_STAT q) 31 24 = s.fld (Adr.APORT_STAT q) 31 24 ∧
        ∀ a, a ≠ Adr.APORT_STAT q → a ≠ Adr.APORT_CSCRC q → t.reg a = s.reg a) ∧
      (fine → (∀ k : Fin 12, t.reg (Adr.APORT_CS q k.val) = leAt cs (4 * k.val) 4 ∧ t.reg (Adr.APORT_UB q k.val) = leAt ub (4 * k.val) 4) ∧
        t.fld (Adr.APORT_STAT q) 31 24 = (s.fld (Adr.APORT_STAT q) 31 24 + 1) % 256 ∧
        (t.flag (Adr.APORT_STAT q) 8 = true ↔ s.flag (Adr.APORT_STAT q) 8 = true ∨
          ∃ k : Fin 12, leAt cs (4 * k.val) 4 ≠ s.reg (Adr.APORT_CS q k.val))))) ∧
  (∀ s : State,
    let src := s.fld Adr.APORT_LOOPCTL 4 1
    let dead := if src = 8 then s.apMuted 8 = true else s.apMuted src = true ∨ s.apRetired src = true ∨ (s.aport src).rxRun = false
    let due := s.flag Adr.APORT_LOOPCTL 0 = true ∧ s.flag Adr.TRAIL_STAT 4 = true ∧ s.aports.release = none ∧
      (dead ∨ ∃ x, s.aports.limitAt = some x ∧ x + s.msTicks 10000 ≤ s.clk)
    (due → ∃ t, exec .loopRelease s = .next t ∧ Claims.regsBut s t [Adr.APORT_LOOPSTAT] ∧
      Claims.onlyPosts { s with aports := { s.aports with
        release := some (sx 16 (s.fld Adr.APORT_LOOPSTAT 15 0), s.clk), relDead := t.aports.relDead } } t ∧ (t.aports.relDead = true ↔ dead) ∧
      t.flag Adr.APORT_LOOPSTAT 17 = true ∧ t.flag Adr.APORT_LOOPSTAT 16 = false) ∧
    (¬ due → exec .loopRelease s = .next s)))

/-! ### Analogue outputs (chapter 12) -/

/-- R346, R349, R352 to R354, R358, R359: accepted writes of MUTE and of a channel's control are stored, a change from RANGE 0 starting the channel afresh. A DAC that has fallen
closes its switch. At a step instant a limited output moves towards its target by at most STEP and never past it; in a range change it moves towards
the old range's zero code, where the clamp starts (RANGE 0 disconnects it), and after the clamp from the new range's zero code towards the target, where
the change ends. A current limit, or an output of at least 1 % of its range at its compliance limit, counts an error of its unit; the latter sets
COMPL until the condition has been absent, and retires the channel, output off, when it lasts 1 s.
What a row does when it is not due is the model's choice (log entries 3 and 83). -/
def Obligations.OutputsMoveAndFaultByTheirRules : Prop :=
  (∀ (s : State) (src : Source) (c : Fin 8) (value : Word),
    let v := value.toNat
    let d := s.cout c.val
    (s.accepts src Adr.ADAC_CTL v = true → exec (.adacCtl src value) s = .next (s.setFld Adr.ADAC_CTL 3 0 v)) ∧
    (s.accepts src (Adr.COUT_CTL c.val) v = true → exec (.coutCtl src c value) s =
      .next ((if s.coutRange c.val = 0 ∧ v % 8 ≠ 0 then s.setCout c.val { d with sourced := false, coded := false } else s).setReg
        (Adr.COUT_CTL c.val) v)) ∧
    (∀ k : Fin 4, let m := s.dac k.val
      let runs := s.presents = true ∧ s.power.trans = none ∧ s.power.held = false
      let falls := (s.flag Adr.ADAC_CTL k.val = true ∨ s.retired (10 + k.val) = true ∨ ¬ runs) ∧ s.trail.realign < 2
      (falls → m.opened = true → m.gain = 0 → exec (.dacFadeEnd k) s = .next (s.setDac k.val { m with opened := false })) ∧
      (m.opened = false ∨ m.gain ≠ 0 ∨ ¬ falls → exec (.dacFadeEnd k) s = .next s)) ∧
    (let l := Nat.max 1 (s.slew c.val).2
     let n := (s.slew c.val).1
     let o := if d.out < d.target then Nat.min d.target (d.out + n) else Nat.max d.target (d.out - n)
     let due := s.shaped = true ∧ s.inserted = true ∧ s.time % l = 0 ∧ d.nextStep ≤ s.time
     let ends (t : State) (e : Cout) : Prop := Claims.onlyPosts { s with ana := t.ana } t ∧ Claims.regsBut s t [] ∧ t.cout c.val = e ∧
       (∀ k, k ≠ c.val → t.cout k = s.cout k) ∧ t.ana.dacs = s.ana.dacs
     (due → d.seq = .none → d.range ≠ 0 → s.flag (Adr.COUT_CTL c.val) 8 = true →
       exec (.slewStep c) s = .next (s.setCout c.val { d with out := o, nextStep := s.time + 1 }) ∧
       (o ≤ d.out + s.fld (Adr.COUT_SLEW c.val) 15 0 ∧ d.out ≤ o + s.fld (Adr.COUT_SLEW c.val) 15 0) ∧
       (d.out ≤ d.target → d.out ≤ o ∧ o ≤ d.target) ∧ (d.target ≤ d.out → d.target ≤ o ∧ o ≤ d.out)) ∧
     (due → d.seq = .none → d.range = 0 ∨ s.flag (Adr.COUT_CTL c.val) 8 = false →
       exec (.slewStep c) s = .next (s.setCout c.val { d with nextStep := s.time + 1 })) ∧
     (due → d.seq = .toZero →
       let z := if d.range = 2 then 32768 else 0
       let p := if d.out < z then Nat.min z (d.out + n) else Nat.max z (d.out - n)
       (p ≠ z → exec (.slewStep c) s = .next (s.setCout c.val { d with out := p, nextStep := s.time + 1 })) ∧
       (p = z → s.coutRange c.val ≠ 0 →
         exec (.slewStep c) s = .next (s.setCout c.val { d with out := z, seq := .clamp s.time, nextStep := s.time + 1 })) ∧
       (p = z → s.coutRange c.val = 0 → ∃ t, exec (.slewStep c) s = .next t ∧
         ends t { d with range := 0, out := 0, target := 0, seq := .none, nextStep := s.time + 1 })) ∧
     (due → d.seq = .toTarget →
       (o ≠ d.target → exec (.slewStep c) s = .next (s.setCout c.val { d with out := o, nextStep := s.time + 1 })) ∧
       (o = d.target → ∃ t, exec (.slewStep c) s = .next t ∧ ends t { d with out := o, seq := .none, nextStep := s.time + 1 })) ∧
     (∀ since, due → d.seq = .clamp since → s.time < since + s.clampTicks →
       exec (.slewStep c) s = .next (s.setCout c.val { d with nextStep := s.time + 1 })) ∧
     (s.inserted = false ∨ s.time % l ≠ 0 ∨ s.time < d.nextStep → exec (.slewStep c) s = .next s) ∧
     (∀ since, d.seq = .clamp since → s.shaped = true →
       let z := if s.coutRange c.val = 2 then 32768 else 0
       ∃ t, exec (.rangeClampEnd c) s = .next t ∧
         ends t (if s.coutRange c.val = 0 then { d with range := 0, out := 0, target := 0, seq := .none }
           else { d with range := s.coutRange c.val, out := z, seq := if z = d.target then .none else .toTarget }))) ∧
    ((∀ since, d.seq ≠ .clamp since) → exec (.rangeClampEnd c) s = .next s)) ∧
  (∀ s : State,
    let charged (t : State) (u : Nat) : Prop := s.reg (Adr.FAULT_ERR u) < 2 ^ 31 - 1 → t.reg (Adr.FAULT_ERR u) = s.reg (Adr.FAULT_ERR u) + 1
    (∀ c : Fin 4,
      ((s.dac c.val).opened = true → s.retired (10 + c.val) = false → ∃ t, exec (.outputShort (.aout c)) s = .next t ∧ charged t (10 + c.val)) ∧
      ((s.dac c.val).opened = false → exec (.outputShort (.aout c)) s = .next s.clean)) ∧
    (∀ c : Fin 8,
      let d := s.cout c.val
      let voltage := d.range = 1 ∨ d.range = 2
      let current := d.range = 3 ∨ d.range = 4
      (voltage → s.retired (14 + c.val) = false → ∃ t, exec (.outputShort (.cout c)) s = .next t ∧ charged t (14 + c.val)) ∧
      (¬ voltage → exec (.outputShort (.cout c)) s = .next s.clean) ∧
      (current → s.flag (Adr.COUT_STAT c.val) 19 = false → s.retired (14 + c.val) = false → 65535 < 100 * d.out → s.shaped = true →
        ∃ t, exec (.compl c) s = .next t ∧ charged t (14 + c.val) ∧
          (t.retired (14 + c.val) = false → t.flag (Adr.COUT_STAT c.val) 19 = true ∧ t.cout c.val = { d with complAt := s.clk }) ∧
          (t.retired (14 + c.val) = true → t.cout c.val = Cout.off)) ∧
      (¬ current ∨ s.flag (Adr.COUT_STAT c.val) 19 = true ∨ 100 * d.out ≤ 65535 → exec (.compl c) s = .next s.clean) ∧
      (s.flag (Adr.COUT_STAT c.val) 19 = true → ∃ t, exec (.complclr c) s = .next t ∧ t.flag (Adr.COUT_STAT c.val) 19 = false ∧
        Claims.onlyPosts s t ∧ Claims.regsBut s t [Adr.COUT_STAT c.val]) ∧
      (s.flag (Adr.COUT_STAT c.val) 19 = false → exec (.complclr c) s = .next s ∧ exec (.complPersist c) s = .next s) ∧
      (s.flag (Adr.COUT_STAT c.val) 19 = true → s.retired (14 + c.val) = false → s.shaped = true →
        (d.complAt + s.msTicks 1000 ≤ s.clk + s.usTicks 100 → ∃ t, exec (.complPersist c) s = .next t ∧
          t.retired (14 + c.val) = true ∧ t.cout c.val = Cout.off ∧ ∀ k, k ≠ c.val → t.cout k = s.cout k) ∧
        (s.clk + s.usTicks 100 < d.complAt + s.msTicks 1000 → exec (.complPersist c) s = .next s))))


/-! ### Serial ports (chapter 13) -/

/-- Character or break x has gone into the shifter of port n, whose state was q (R365, R368, R374): its bits, the end of its stop time, Sn_DE high, a
written DIV in force. -/
def Claims.loaded (s : State) (n : Nat) (q : SerPort) (x : Nat) (brk : Option Nat) : SerPort :=
  let db := s.fld (Adr.SER_FMT n) 3 0
  let par := s.fld (Adr.SER_FMT n) 5 4
  let stop := 10 + 5 * s.fld (Adr.SER_FMT n) 7 6
  let lead := if q.de = true then 0 else s.bitUnit n * (10 * s.fld (Adr.SER_DE n) 7 0) / 160
  let tenths := match brk with
    | some len => 10 * (len + 1)
    | none => 10 * (1 + db + b2n (par ≠ 0)) + stop
  { q with
    shift := some (if brk = none then x % 2 ^ db else x)
    wire := match brk with
      | some len => List.replicate len false ++ [true]
      | none => [false] ++ (List.range db).map (bit x) ++ (if par = 0 then [] else [s.parityOf n x]) ++ [true]
    done := s.clk + lead + s.bitUnit n * tenths / 160, de := true, pendTx := false, tbit := s.bitUnit n }

/-- The receiver of port n, whose state was q, meets the end of a reception of so many tenths of a bit time: a DIV written before its start is in
force (R368). -/
def Claims.rxHeard (s : State) (n : Nat) (q : SerPort) (tenths : Nat) : SerPort :=
  if q.pendRx = true ∧ q.divAt + q.rbit * tenths / 160 ≤ s.clk then { q with rbit := s.bitUnit n, pendRx := false } else q

/-- R363, R365, R367 to R370, R372, R374, R375: a received character, each bit the majority of its three samples, enters the queue with its error flags, each error counted, or
sets LOST of the last entry and counts when 32 wait; a break keeps the line low; a disarmed or deaf receiver takes nothing. At the end of a stop time,
and not before, the next character, XON or XOFF first, goes out, cut to the format's data bits; Sn_DE falls TAIL after the last. A read of SER_RXDATA
takes the oldest entry, a write of SER_TXDATA queues one. A new divider waits for the next start bit in each direction of a working port; AUTORATE is
armed; a line low for STUCK_TIME disarms the receiver and one high for a character time arms it, each with its record.
What a row does when it is not due is the model's choice (log entries 3 and 84). -/
def Obligations.CharactersPassThroughTheQueues : Prop :=
  (∀ (s : State) (n : Fin 2) (ch : RxChar), s.shaped = true → s.serOn n.val = true → s.fld (Adr.SER_FMT n.val) 3 0 ≤ 9 →
    let q := s.serp n.val
    let put (x : SerPort) : State := s.setSerp n.val (fun _ => x)
    let stat (i : Nat) : Bool := s.flag (Adr.SER_STAT n.val) i
    let db := s.fld (Adr.SER_FMT n.val) 3 0
    let pb := b2n (s.fld (Adr.SER_FMT n.val) 5 4 ≠ 0)
    let high (i : Nat) : Bool := match ch.bits[i]? with
      | some b => decide (2 ≤ b2n (b.getLsbD 0) + b2n (b.getLsbD 1) + b2n (b.getLsbD 2))
      | none => true
    let par := decide (pb = 1) && high (1 + db)
    let stop := high (1 + db + pb)
    let noise := (ch.bits.take (2 + db + pb)).any (fun b => b ≠ 0 && b ≠ 7)
    let brk := !stop && !par && (List.range db).all (fun i => !high (i + 1))
    let parBad (e : Nat) : Bool := decide (pb = 1) && !brk && par != s.parityOf n.val (e % 512)
    let h := Claims.rxHeard s n.val q (10 * (2 + db + pb))
    let up (t : State) (a : Nat) (c : Bool) : Prop := s.reg a < 2 ^ 31 - 1 → t.reg a = s.reg a + b2n c
    let hears := stat 19 = false ∧ (q.de = false ∨ s.flag (Adr.SER_CTL n.val) 6 = true)
    (hears → s.serMode n.val < 2 → s.flag (Adr.SER_CTL n.val) 4 = false → s.flag (Adr.SER_CTL n.val) 5 = false → ∃ t rx e,
      exec (.receiveCharacter n ch) s = .next t ∧
      Claims.onlyPosts (put { h with rx := rx, lowAt := if brk = true then some (s.clk - h.rbit * (10 * (2 + db + pb)) / 160) else none }) t ∧
      e < 2 ^ 13 ∧ (∀ i < 9, bit e i = (decide (i < db) && high (i + 1))) ∧ bit e 9 = !stop ∧ bit e 10 = parBad e ∧ bit e 11 = brk ∧ bit e 12 = noise ∧
      rx = (if q.rx.length < 32 then q.rx ++ [e] else q.rx.set 31 (putBit (q.rx.getD 31 0) 13 true)) ∧
      up t (Adr.SER_FERR n.val) (!stop) ∧ up t (Adr.SER_PERR n.val) (parBad e) ∧
      up t (Adr.SER_NOISE n.val) noise ∧ up t (Adr.SER_OVR n.val) (decide (32 ≤ q.rx.length)) ∧
      Claims.regsBut s t [Adr.SER_FERR n.val, Adr.SER_PERR n.val, Adr.SER_NOISE n.val, Adr.SER_OVR n.val]) ∧
    (stat 19 = true ∨ (q.de = true ∧ s.flag (Adr.SER_CTL n.val) 6 = false ∧ s.serMode n.val < 2) →
      exec (.receiveCharacter n ch) s = .next s) ∧
    (q.shift ≠ none → s.clk < q.done → exec (.transmitCharacter n) s = .next s) ∧
    (q.shift ≠ none → q.done ≤ s.clk → q.frame = .idle → q.out = [] →
      (∀ c, q.flow = some c → exec (.transmitCharacter n) s =
        .next (put (Claims.loaded s n.val { q with flow := none } c none))) ∧
      (∀ x l, q.flow = none → q.tx = x :: l → stat 17 = false → ∃ t, exec (.transmitCharacter n) s = .next t ∧
        Claims.onlyPosts (put (Claims.loaded s n.val { q with tx := l } x (if bit x 9 then some 13 else none))) t ∧ Claims.regsBut s t []) ∧
      (q.flow = none → q.tx = [] ∨ stat 17 = true → exec (.transmitCharacter n) s = .next (put { q with shift := none }))) ∧
    (q.shift = none → exec (.transmitCharacter n) s = .next s) ∧
    (let silent := q.shift = none ∧ q.tx = [] ∧ q.out = [] ∧ q.flow = none ∧
       Nat.max q.done q.ends + q.tbit * (10 * s.fld (Adr.SER_DE n.val) 15 8) / 160 ≤ s.clk
     exec (.deTail n) s = .next (if q.de = true ∧ silent then put { q with de := false } else s)) ∧
    (∀ src, s.reaches src = true →
      (q.rx = [] → exec (.serRxdata src n) s = .next s ∧ (s.regRead (Adr.SER_RXDATA n.val)).1 = 0) ∧
      (∀ x l, q.rx = x :: l → l.length ≠ 8 ∨ stat 18 = false →
        exec (.serRxdata src n) s = .next (put { q with rx := l }) ∧ (s.regRead (Adr.SER_RXDATA n.val)).1 = x + 2 ^ 15)) ∧
    (∀ src (value : Word), s.accepts src (Adr.SER_TXDATA n.val) value.toNat = true →
      let x := value.toNat % 1024
      let row := exec (.serTxdata src n value) s
      (q.tx.length < 32 → q.shift ≠ none → row = .next (put { q with tx := q.tx ++ [x] })) ∧
      (q.tx = [] → q.shift = none → q.out = [] → q.flow = none → stat 17 = false →
        row = .next (put (Claims.loaded s n.val q x (if bit x 9 then some 13 else none)))) ∧
      (32 ≤ q.tx.length → row = .next (s.setFlag (Adr.SER_STAT n.val) 22 true)))) ∧
  (∀ (s : State) (src : Source) (n : Fin 2) (value : Word),
    let q := s.serp n.val
    let v := value.toNat
    (s.accepts src (Adr.SER_DIV n.val) v = true → exec (.serDiv src n value) s =
      .next ((s.setReg (Adr.SER_DIV n.val) v).setSerp n.val (fun q => { q with
        pendTx := s.serOn n.val, pendRx := s.serOn n.val, divAt := s.clk }))) ∧
    (s.accepts src (Adr.SER_CTL n.val) (v ||| 32) = true → s.flag (Adr.SER_CTL n.val) 3 = true → q.shift ≠ none →
      exec (.autorate src n value) s = .next (s.setReg (Adr.SER_CTL n.val) (v ||| 32))) ∧
    (let due := s.serOn n.val = true ∧ s.flag (Adr.SER_STAT n.val) 19 = false ∧
       ∃ x, q.lowAt = some x ∧ x + s.msTicks (s.fld (Adr.SER_STUCK n.val) 12 0) ≤ s.clk
     (due → ∃ t, exec (.lineStuck n) s = .next t ∧ t.flag (Adr.SER_STAT n.val) 19 = true ∧
       (s.serMode n.val = 5 → t.flag (Adr.SER_STAT n.val) 20 = true) ∧
       (s.serMode n.val ≠ 5 → Claims.onlyPosts s t ∧ Claims.regsBut s t [Adr.SER_STAT n.val])) ∧
     (¬ due → exec (.lineStuck n) s = .next s)) ∧
    (s.flag (Adr.SER_STAT n.val) 19 = true → ∃ t, exec (.lineIdle n) s = .next t ∧
      Claims.onlyPosts (s.setSerp n.val (fun q => { q with lowAt := none })) t ∧ Claims.regsBut s t [Adr.SER_STAT n.val] ∧ t.flag (Adr.SER_STAT n.val) 19 = false) ∧
    (s.flag (Adr.SER_STAT n.val) 19 = false → exec (.lineIdle n) s = .next s))

/-- R363, R376 to R379, R381: an accepted header goes out as break, sync byte and protected identifier; a response too late ends its frame with E_TIMEOUT. A DMX packet
is sent from the buffer once its period and the last packet have passed; a received one is written to its ring entry, its errors counted, a valid one
ending signal loss; 1,250 ms without one begin it. An RDM packet is sent from its buffer, or waits for RDM_TIMEOUT, which posts E_TIMEOUT.
What a row does when it is not due is the model's choice (log entries 3 and 79). -/
def Obligations.FramesAndPacketsAreSentAndTaken : Prop :=
  ∀ (s : State) (src : Source) (n : Fin 2) (value : Word), s.shaped = true →
    let q := s.serp n.val
    let v := value.toNat
    let put (x : SerPort) : State := s.setSerp n.val (fun _ => x)
    let busy (t : State) (b : Bool) : State := t.setFlag (Adr.SER_STAT n.val) 23 b
    let buf := s.fld (Adr.SER_BUFBASE n.val) 23 0
    let sound (a k : Nat) : Prop := ∀ w ∈ touchedWords a k, s.eccOf w = none
    let on := s.serOn n.val = true
    (v / 64 % 4 = 0 → s.accepts src (Adr.SER_FCMD n.val) v = true → q.shift = none → ∃ pid, exec (.sendHeader src n value) s =
        .next (busy (put (Claims.loaded s n.val { q with frame := .header (v % 64), out := [0x55, pid] } 256 (some (s.fld (Adr.SER_CTL n.val) 12 8)))) true) ∧
      pid % 64 = v % 64 ∧ pid < 256 ∧ (bit pid 6 = (bit v 0 ^^ bit v 1 ^^ bit v 2 ^^ bit v 4)) ∧
      (bit pid 7 = !(bit v 1 ^^ bit v 3 ^^ bit v 4 ^^ bit v 5))) ∧
    (∀ len, (∃ id enh got, q.frame = .listen id len enh got) ∨ (∃ id data, q.frame = .respond id data ∧ data.length = len) →
      (q.since + q.rbit * (140 * (len + 1)) / 160 ≤ s.clk → ∃ t, exec (.frameResponseTimeout n) s = .next t ∧
        Claims.onlyPosts (put { q with frame := .idle, out := [] }) t ∧ Claims.regsBut s t [Adr.SER_STAT n.val] ∧
        t.flag (Adr.SER_STAT n.val) 23 = false) ∧
      (s.clk < q.since + q.rbit * (140 * (len + 1)) / 160 → exec (.frameResponseTimeout n) s = .next s)) ∧
    (let len := Nat.min 513 (leNat (s.memBytes (buf + 2176) 2))
     let due := ∀ x, q.started = some x → x + s.msTicks (s.fld (Adr.SER_DMXTIM n.val) 24 17) ≤ s.clk ∧ q.ends ≤ s.clk
     let row := exec (.dmxTransmitPacket n) s
     (on → s.serMode n.val = 4 → q.rdm = none → due → sound (buf + 2176) 2 → sound (buf + 2192) len →
       row = .next (put { q with
         started := some s.clk, ends := s.startAt n.val + s.dmxTicks n.val len true, line := s.memBytes (buf + 2192) len, de := true
         pendTx := false, tbit := s.bitUnit n.val })) ∧
     (¬ on ∨ s.serMode n.val ≠ 4 ∨ ¬ due ∨ q.rdm ≠ none → row = .next s)) ∧
    (∀ pkt : DmxPacket, pkt.slots ≠ [] → on → s.serMode n.val = 5 → s.flag (Adr.SER_STAT n.val) 19 = false → q.de = false →
      let slots := pkt.slots.take 513
      let a := buf + 544 * q.ring
      let short := pkt.low < s.usTicks 88 ∨ pkt.mark < s.usTicks 8
      let entry := natLE 2 slots.length ++ natLE 1 (b2n (decide short) + 2 * b2n (pkt.fe ≠ 0)) ++ natLE 1 q.ring ++ natLE 8 pkt.breakEnd ++
        natLE 4 0 ++ slots
      let took : SerPort := { Claims.rxHeard s n.val q 110 with ring := (q.ring + 1) % 4, packetAt := s.clk, lowAt := none }
      let valid := byteAt slots 0 = 0 ∧ pkt.fe = 0
      let w := (s.basinWrite Master.host 0 a entry).2
      let counts := [Adr.SER_FERR n.val, Adr.SER_NOISE n.val]
      let up (t : State) (r k : Nat) : Prop := s.reg r + k < 2 ^ 31 → t.reg r = s.reg r + k
      (Claims.clear s a entry.length → ∀ b, w.memByte b = if a ≤ b ∧ b < a + entry.length then entry.getD (b - a) 0 else s.memByte b) ∧
      (Claims.clear s a entry.length → valid → s.flag (Adr.SER_CTL n.val) 7 = false → s.flag (Adr.SER_STAT n.val) 20 = false → s.flag (Adr.SER_DMXCTL n.val) 9 = false →
        ∃ t, exec (.dmxReceivePacket n pkt) s = .next t ∧ Claims.onlyPosts (w.setSerp n.val (fun _ => { took with validAt := s.clk })) t ∧
          t.basin = w.basin ∧ t.disp = s.disp ∧ up t (Adr.SER_NOISE n.val) pkt.noise ∧ Claims.regsBut s t counts) ∧
      (Claims.clear s a entry.length → ¬ valid → ∃ t, exec (.dmxReceivePacket n pkt) s = .next t ∧
        Claims.onlyPosts (w.setSerp n.val (fun _ => took)) t ∧ up t (Adr.SER_FERR n.val) pkt.fe ∧ up t (Adr.SER_NOISE n.val) pkt.noise ∧
        Claims.regsBut s t counts)) ∧
    (on → s.serMode n.val = 5 → s.flag (Adr.SER_STAT n.val) 20 = false → s.flag (Adr.SER_DMXCTL n.val) 9 = false →
      (q.validAt + s.msTicks 1250 ≤ s.clk → ∃ t, exec (.dmxloss n) s = .next t ∧ Claims.onlyPosts s t ∧
        Claims.regsBut s t [Adr.SER_STAT n.val] ∧ t.flag (Adr.SER_STAT n.val) 20 = true ∧ t.flag Adr.HOST_IRQ 10 = true) ∧
      (s.clk < q.validAt + s.msTicks 1250 → exec (.dmxloss n) s = .next s)) ∧
    (v / 64 % 4 = 1 → s.accepts src (Adr.SER_FCMD n.val) v = true →
      let len := v / 512 % 512
      let b := s.memBytes (buf + 2720) len
      let takes := s.dmxTicks n.val len (!bit v 8)
      let start := Nat.max (s.startAt n.val) (q.packetAt + s.usTicks 176)
      let row := exec (.sendRdm src n value) s
      sound (buf + 2720) len →
      (s.serMode n.val = 4 → ∃ t, row = .next (busy (put { q with
          line := b, de := true, ends := Nat.max (s.startAt n.val) q.ends + takes, rdm := some t, pendTx := false, tbit := s.bitUnit n.val }) true) ∧
        Nat.max (s.startAt n.val) q.ends + takes + s.usTicks 2800 ≤ t) ∧
      (s.serMode n.val = 5 → start ≤ q.packetAt + s.msTicks 2 →
        row = .next (busy (busy (put { q with
          line := b, de := true, ends := start + takes, pendTx := false
          tbit := s.bitUnit n.val }) true) false)) ∧
      (s.serMode n.val = 5 → q.packetAt + s.msTicks 2 < start → row = .next (busy (put { q with rdm := some (q.packetAt + s.msTicks 2) }) true))) ∧
    (∀ t, q.rdm = some t →
      (t ≤ s.clk → ∃ u, exec (.rdmTimeout n) s = .next u ∧ Claims.onlyPosts (put { q with rdm := none }) u ∧
        Claims.regsBut s u [Adr.SER_STAT n.val] ∧ u.flag (Adr.SER_STAT n.val) 23 = false) ∧
      (s.clk < t → exec (.rdmTimeout n) s = .next s)) ∧
    (q.rdm = none → exec (.rdmTimeout n) s = .next s)

/-! ### Timers (chapter 14) -/

/-- R387, R390 to R392: a step that takes the count to or past CMP, forward modulo the channel's modulus, sets CMPF and ends the active output; one that carries
it past the modulus sets OVF, starts the output where it does not also match, and puts staged values in force. The count moves by one step, time with it; a
step that does neither leaves the row without effect, and so does a base clock that has stopped (R386).
What a row does when it is not due is the model's choice (log entries 3 and 81). -/
def Obligations.TimersMatchAndWrap : Prop :=
  ∀ (s : State) (n : Fin 16), s.shaped = true → s.power.vddao = true → s.power.held = false →
    let x := s.tch n.val
    let k := if s.tmr.slow then s.slowPeriod.1 else 1
    let ticks := if s.tmr.slow then k - s.tmr.acc else 1
    let m := s.tmrMod n.val
    let c := s.tmrCount n.val
    let steps := s.linkedHigh n.val = false ∧ x.jump = none ∧ s.tmrStopped = false
    let hit := x.cmp < m ∧ (if c < x.cmp then x.cmp - c else x.cmp + m - c) ≤ k
    let wraps := m ≤ c + k
    (s.inserted = false ∨ s.time + ticks < s.nextBoundary) →
    (¬ (steps ∧ hit) → exec (.compareMatch n) s = .next s) ∧ (¬ (steps ∧ wraps) → exec (.timerWrap n) s = .next s) ∧
    (steps → ∀ row, (hit ∧ row = Instr.compareMatch n) ∨ (wraps ∧ row = Instr.timerWrap n) → ∃ t, exec row s = .next t ∧
      t.time = s.time + ticks ∧ t.clk = s.clk + ticks ∧ (t.tch n.val).jump = none ∧
      (¬ wraps → (t.tch n.val).cnt = (c + k) % 2 ^ 32) ∧
      (wraps → x.staged = none ∨ s.tmrMode n.val ≠ 1 → (t.tch n.val).cnt = (c + k - m) % m % 2 ^ 32) ∧
      (s.linkedLow n.val = true → ¬ wraps → (t.tch (n.val + 1)).cnt = (c + k) / 2 ^ 32 % 2 ^ 32) ∧
      (hit → x.staged = none → t.flag (Adr.TMR_STAT n.val) 0 = true ∧ (s.tmrMode n.val = 1 → (t.tch n.val).out = false)) ∧
      (wraps → t.flag (Adr.TMR_STAT n.val) 1 = true ∧ (s.tmrMode n.val = 1 → x.staged = none → ¬ hit → (t.tch n.val).out = true)) ∧
      (∀ a b, wraps → s.tmrMode n.val = 1 → x.staged = some (a, b) →
        (t.tch n.val).cmp = a ∧ (t.tch n.val).per = b ∧ (t.tch n.val).staged = none))

/-- R386, R387, R389, R391, R393, R395: a count write is a jump of the next step, that of an odd linked channel held for its partner's; a read of the even one
captures the high word; a change of MODE loads 0. A captured edge stores the count less the filter's steps, sets CAPF, and CAPOVR where it was
set. The source follows the lock of the base clock, which takes over at the next edge of the slow clock. START arms a group, whose members are loaded with their phase offsets at its
boundary; a start at a time already past sets GLATE.
What a row does when it is not due is the model's choice (log entries 3, 81 and 82). -/
def Obligations.TimerCommandsTakeEffect : Prop :=
  ∀ (s : State) (src : Source) (n : Fin 16) (value : Word), s.shaped = true →
    let v := value.toNat
    let x := s.tch n.val
    (s.accepts src (Adr.TMR_CNT n.val) v = true →
      (s.linkedHigh n.val = true → exec (.tmrCntWrite src n value) s = .next (s.setTch n.val (fun t => { t with held := some v }))) ∧
      (s.linkedHigh n.val = false → s.linkedLow n.val = false →
        exec (.tmrCntWrite src n value) s = .next (s.setTch n.val (fun t => { t with jump := some v }))) ∧
      (s.linkedHigh n.val = false → s.linkedLow n.val = true → exec (.tmrCntWrite src n value) s =
        .next ((s.setTch n.val (fun t => { t with
          jump := some (v + 2 ^ 32 * (s.tch (n.val + 1)).held.getD (s.tch (n.val + 1)).cnt) })).setTch (n.val + 1) (fun t => { t with held := none })))) ∧
    (s.reaches src = true →
      (s.linkedLow n.val = true → s.linkedHigh n.val = false → (s.regRead (Adr.TMR_CNT n.val)).1 = x.cnt ∧
        exec (.tmrCntRead src n) s = .next (s.setTch (n.val + 1) (fun t => { t with hold := t.cnt }))) ∧
      (s.linkedHigh n.val = true → (s.regRead (Adr.TMR_CNT n.val)).1 = x.hold ∧ exec (.tmrCntRead src n) s = .next s) ∧
      (s.linkedLow n.val = false → s.linkedHigh n.val = false → (s.regRead (Adr.TMR_CNT n.val)).1 = x.cnt ∧
        exec (.tmrCntRead src n) s = .next s)) ∧
    (s.accepts src (Adr.TMR_CTL n.val) v = true → ∃ t, exec (.tmrCtl src n value) s = .next t ∧ t.regs = (s.setReg (Adr.TMR_CTL n.val) v).regs ∧
      t = { s with regs := t.regs, tmr := t.tmr } ∧ (∀ k, k ≠ n.val → t.tch k = s.tch k) ∧
      (v % 4 = s.tmrMode n.val → t.tmr = s.tmr) ∧
      (v % 4 ≠ s.tmrMode n.val → (t.tch n.val).jump = some 0 ∧ (t.tch n.val).presc = 0 ∧ (t.tch n.val).cnt = x.cnt ∧ (t.tch n.val).out = x.out)) ∧
    (∀ rising : Bool,
      let edge := s.fld (Adr.TMR_CTL n.val) 6 5
      let able := s.tmrMode n.val = 2 ∧ (edge = 2 ∨ edge = if rising then 0 else 1) ∧ s.linkedHigh n.val = false ∧
        s.power.held = false ∧ s.power.vddao = true
      let div := s.fld (Adr.TMR_CTL n.val) 18 11
      let m := if s.linkedLow n.val then 2 ^ 64 else 2 ^ 32
      let at_ := (s.tmrCount n.val + m - s.filterTicks n.val) % m
      (¬ able → exec (.capture n rising) s = .next s) ∧
      (able → x.presc + 1 ≤ div → exec (.capture n rising) s = .next (s.setTch n.val (fun t => { t with presc := t.presc + 1 }))) ∧
      (able → div < x.presc + 1 → ∃ t, exec (.capture n rising) s = .next t ∧
        Claims.onlyPosts (s.setTch n.val (fun _ => t.tch n.val)) t ∧
        t.tch n.val = { x with presc := 0, evs := if x.evClk = s.clk then x.evs ||| 4 else 4, evClk := s.clk, sent := (t.tch n.val).sent } ∧
        Claims.regsBut s t [Adr.TMR_CAP n.val, Adr.TMR_CAP (n.val + 1), Adr.TMR_STAT n.val] ∧
        t.reg (Adr.TMR_CAP n.val) = at_ % 2 ^ 32 ∧ (s.linkedLow n.val = true → t.reg (Adr.TMR_CAP (n.val + 1)) = at_ / 2 ^ 32) ∧
        (s.linkedLow n.val = false → t.reg (Adr.TMR_CAP (n.val + 1)) = s.reg (Adr.TMR_CAP (n.val + 1))) ∧
        t.flag (Adr.TMR_STAT n.val) 2 = true ∧
        (t.flag (Adr.TMR_STAT n.val) 3 = true ↔ s.flag (Adr.TMR_STAT n.val) 2 = true ∨ s.flag (Adr.TMR_STAT n.val) 3 = true))) ∧
    (let slow := !(s.flag Adr.CLK_STAT 0 && s.flag Adr.CLK_STAT 1)
     exec .timerSourceChange s = .next (if s.tmr.slow = slow then s
       else if s.tmr.slow = true ∧ s.tmr.acc ≠ 0 then { s with tmr := { s.tmr with change := true } }
       else { s with tmr := { s.tmr with slow := slow, acc := 0, change := false } })) ∧
    (∀ g : Fin 4, s.accepts src (Adr.TMR_GCTL g.val) (v ||| 2 ^ 17) = true → ∃ t, exec (.staggerStart src g value) s = .next t ∧
      t = { s with regs := t.regs, tmr := { s.tmr with late := t.tmr.late } } ∧
      (g.val ∈ t.tmr.late ↔ g.val ∈ s.tmr.late ∨ (s.gtime g.val ≠ 0 ∧ s.gtime g.val < s.time)) ∧
      t.flag (Adr.TMR_GCTL g.val) 18 = true ∧ t.fld (Adr.TMR_GCTL g.val) 16 0 = v % 2 ^ 17 ∧
      ∀ a, a ≠ Adr.TMR_GCTL g.val → t.reg a = s.reg a) ∧
    (∀ (g : Fin 4) (b : Nat), s.flag (Adr.TMR_GCTL g.val) 18 = true → s.inserted = true → s.gtime g.val ≤ b →
      let t := s.staggerLoad g.val b
      let l := s.members g.val
      t.flag (Adr.TMR_GCTL g.val) 18 = false ∧ (g.val ∈ s.tmr.late → t.flag (Adr.TMR_GCTL g.val) 19 = true) ∧
      (g.val ∉ s.tmr.late → s.gtime g.val = 0 ∨ b < s.gtime g.val + s.spt → t.flag (Adr.TMR_GCTL g.val) 19 = s.flag (Adr.TMR_GCTL g.val) 19) ∧
      (∀ i, i ∉ l → t.tch i = s.tch i) ∧
      ∀ (i : Nat) (h : i < l.length), (t.tch l[i]).jump =
        some ((s.tmrMod l[i] - (if s.flag (Adr.TMR_GCTL g.val) 16 then s.reg (Adr.TMR_OFS l[i]) else i * s.tmrMod l[i] / l.length)) % s.tmrMod l[i]))

/-! ### Power modes, supplies and resets (chapter 15) -/

/-- Mode m is entered from s: PWR_STAT shows it, no transition is left, the cause MODE is set, a bypassed node that needs the Trail opens its relay,
the phase counter follows trail time, the serial ports go on with what their queues hold, and nothing else changes. -/
def Claims.entered (s t : State) (m : Nat) : Prop :=
  t.mode = m ∧ t.flag Adr.PWR_STAT 3 = false ∧ t.fld Adr.PWR_STAT 6 4 = 0 ∧ t.flag Adr.HOST_IRQ 1 = true ∧
  (let opens := s.power.bypassN = false ∧ ¬ (s.retired 0 = true ∧ s.retired 1 = true)
   t.power = { s.power with
     trans := none, runAge := 0, bypassN := s.power.bypassN || decide opens
     relayAt := if opens then some (s.clk + s.msTicks (s.fld Adr.TRAIL_RELAYT 4 0)) else s.power.relayAt }) ∧
  t.phase = s.time % s.spt * 16 + s.sub / 16 ∧
  (∀ n < 2, s.serOn n = false → s.flag (Adr.SER_CTL n) 3 = false → t.serp n = s.serp n) ∧ (∀ n < 2, (t.serp n).rx = (s.serp n).rx) ∧
  Claims.onlyPosts { s with power := t.power, phase := t.phase, ser := t.ser, disp := { s.disp with stopped := decide (m < 4) } } t ∧
  Claims.regsBut s t [Adr.PWR_STAT]

/-- R399, R400, R404 to R406: an accepted mode command is nothing when the node is in that mode; else BUSY and TARGET show it and the transition begins, 65 boundaries of it for
the DAC fall when it leaves RUN. A transition completes when its waits have ended: from REST with the PLL locked and the Trail's supplies valid; between
the Trail's modes at a sample boundary; into REST or LANTERN after the quiet cycle, off the Trail, outputs off, the core domain's state lost in LANTERN. A
wake starts a transition from REST and powers the core domain up from LANTERN; a burst wakes where TWAKE is set. Bursts are sent for 16 ms.
What a row does when it is not due is the model's choice (log entries 3, 49 and 51). -/
def Obligations.ModesAreCommandedAndEntered : Prop :=
  (∀ (s : State) (src : Source) (m : Nat) (row : Instr),
    (m, row) ∈ [(1, Instr.modeLantern src), (2, .modeRest src), (3, .modeRelay src), (4, .modeService src), (5, .modeRun src)] →
    s.accepts src Adr.PWR_MODECMD m = true →
    (m = s.mode → exec row s = .next s) ∧
    (m ≠ s.mode → ∃ t, exec row s = .next t ∧ t.flag Adr.PWR_STAT 3 = true ∧ t.fld Adr.PWR_STAT 6 4 = m ∧ t.mode = s.mode ∧
      (t.flag Adr.PWR_STAT 7 = true ↔ 3 ≤ m ∧ ¬ (s.supply .vddt = true ∧ s.supply .vdda = true)) ∧
      Claims.regsBut s t [Adr.PWR_STAT] ∧
      Claims.onlyPosts { s with
        power := { s.power with trans := some ⟨s.mode, m, if s.mode = 5 then 65 else 0, 0⟩ }
        disp := { s.disp with stopped := s.disp.stopped || (decide (s.mode ≠ 5) && decide (m < 4)) } } t)) ∧
  (∀ s : State,
    let idle := (∀ c ∈ s.cores, c.item = none) ∧ s.disp.jobs = [] ∧ s.disp.recs = []
    (s.power.trans = none → exec .modeEntered s = .next s) ∧
    (∀ tr, s.power.trans = some tr → s.sub < 256 → s.power.reloadQuiet = 0 →
      (tr.old = 2 → 3 ≤ tr.target → tr.target ≤ 5 →
        (s.flag Adr.CLK_STAT 0 = true → s.supply .vddt = true → s.supply .vdda = true → ∃ t, exec .modeEntered s = .next t ∧ Claims.entered s t tr.target) ∧
        (s.flag Adr.CLK_STAT 0 = false ∨ s.supply .vddt = false ∨ s.supply .vdda = false → exec .modeEntered s = .next s)) ∧
      (tr.old ≠ 2 → 3 ≤ tr.target → tr.target ≤ 5 → tr.fall = 0 →
        (s.time % s.spt = 0 → s.supply .vddt = true → s.supply .vdda = true → (tr.target = 3 → idle) →
          ∃ t, exec .modeEntered s = .next t ∧ Claims.entered s t tr.target) ∧
        (s.time % s.spt ≠ 0 → exec .modeEntered s = .next s)) ∧
      (tr.old ≠ 2 → tr.target = 1 ∨ tr.target = 2 →
        let done := tr.quiet = 2 ∧ s.basin.copying = [] ∧ s.borrowed = false ∧ idle
        (¬ done → exec .modeEntered s = .next s) ∧
        (done → ∃ t, exec .modeEntered s = .next t ∧ t.mode = tr.target ∧ t.tmr = s.tmr ∧ t.lock = 0 ∧ t.admitted = false ∧ t.power.bypassN = false ∧
          (∀ c : Fin 8, t.cout c.val = Cout.off) ∧
          (tr.target = 2 → t.flag Adr.CLK_STAT 0 = false ∧ t.cores = s.cores ∧ t.lram = s.lram ∧ t.spe = s.spe ∧ t.voice.words = s.voice.words ∧
            ∀ p, s.retired (portIx p) = false → t.link p = 0) ∧
          (tr.target = 1 → t.power.pwrenC = false ∧ t.basin = Basin.reset ∧ t.lram = [] ∧ t.spe = Spe.reset ∧ t.voice = VoiceArr.reset ∧
            (s.ustate ≠ 6 → t.pack.flash = s.pack.flash))))) ∧
    (let able := s.power.held = false ∧ s.power.vddao = true ∧ s.power.trans = none
     let m := s.fld Adr.PWR_WAKECFG 2 0
     (¬ able ∨ (s.mode ≠ 1 ∧ s.mode ≠ 2) → exec .wake s = .next s) ∧
     (able → s.mode = 2 → ∃ t, exec .wake s = .next t ∧ t.flag Adr.PWR_STAT 3 = true ∧ t.fld Adr.PWR_STAT 6 4 = m ∧
       Claims.onlyPosts { s with power := { s.power with trans := some ⟨2, m, 0, 0⟩ } } t ∧ Claims.regsBut s t [Adr.PWR_STAT]) ∧
     (able → s.mode = 1 → ∃ t, exec .wake s = .next t ∧ t.mode = 6 ∧ t.booting = true ∧ t.power.pwrenC = true ∧
       t.flag Adr.PWR_RSTCAUSE 7 = true ∧ t.tmr = s.tmr)) ∧
    exec .wakeBurst s = (if s.flag Adr.PWR_WAKECFG 3 then exec .wake s else .next s) ∧
    (∀ (src : Source) (value : Word), s.accepts src Adr.PWR_WAKESEND value.toNat = true → s.power.burstA = none → s.power.burstB = none →
      ∃ t, exec (.pwrWakesend src value) s = .next t ∧
        (let ends (i : Nat) : Option Nat := if bit value.toNat i then some (s.clk + s.msTicks 16) else none
         t = { s with regs := t.regs, power := { s.power with burstA := ends 0, burstB := ends 1 } }) ∧
        (∀ i < 2, t.flag Adr.PWR_WAKESEND i = (bit value.toNat i || s.flag Adr.PWR_WAKESEND i)) ∧
        ∀ a, a ≠ Adr.PWR_WAKESEND → t.reg a = s.reg a) ∧
    (∀ p : Port,
      let b := match p with | .a => s.power.burstA | .b => s.power.burstB
      let quiet : Power := match p with | .a => { s.power with burstA := none } | .b => { s.power with burstB := none }
      (∀ x, b = some x → x ≤ s.clk → exec (.wakeBurstEnd p) s =
        .next (({ s with power := quiet } : State).setFlag Adr.PWR_WAKESEND (portIx p) false)) ∧
      ((∀ x, b = some x → s.clk < x) → exec (.wakeBurstEnd p) s = .next s)))

/-- The core domain after a reset that is not cold: boot is next, the Trail, the Dispatcher, the ports and the outputs are at rest, retirements and the
cause stay; what a warm reset keeps of the memories is kept. -/
def Claims.coreReset (s t : State) (warm keepTimers : Bool) : Prop :=
  t.mode = 6 ∧ t.booting = true ∧ t.clk = s.clk ∧ t.time = 0 ∧ t.disp = Disp.reset ∧ t.cores = List.replicate 8 Core.idle ∧
  t.trail = Trail.reset ∧ t.aports = APorts.reset ∧ t.ser = List.replicate 2 SerPort.reset ∧ t.ana.couts = List.replicate 8 Cout.off ∧
  t.tmr = (if keepTimers then s.tmr else Tmrs.reset) ∧ t.power.trans = none ∧ t.power.bypassN = false ∧
  (s.ustate ≠ 6 → t.pack.flash = s.pack.flash) ∧ t.pack.fuses = s.pack.fuses ∧
  (warm = true → t.lram = s.lram ∧ t.voice.words = s.voice.words ∧ t.spe.prog = s.spe.prog ∧ t.spe.stage = s.spe.stage ∧ t.spe.coef = s.spe.coef ∧
    t.spe.shadow = s.spe.shadow ∧ t.spe.temps = s.spe.temps ∧
    (s.basin.copying = [] → s.borrowed = false → t.basin = { s.basin with sweepAt := 0, groups := [] }) ∧ ∀ u, u < 64 → t.retired u = s.retired u) ∧
  (warm = false → t.lram = [] ∧ t.voice = VoiceArr.reset ∧ t.spe = Spe.reset ∧ t.basin = Basin.reset)

/-- R398, R407, R409, R410, R412, R414 to R416: each reset sets its cause and leaves what its domain keeps: a cold one only the flash, the fuses and the other supplies; a
brownout the Lantern domain and the timers; a warm one the memories besides. SYS_RESET asks for one 10 µs later, a watchdog at 0 makes
one; where its condition is absent a row does nothing. A lost supply of the Trail resets an inserted node; any other is shown.
What a row does when it is not due is the model's choice (log entries 3, 41 and 44). -/
def Obligations.ResetsKeepTheirDomains : Prop :=
  ∀ s : State,
    let cause (t : State) (i : Nat) : Prop := t.flag Adr.PWR_RSTCAUSE i = true
    (∃ t, exec .coldReset s = .next t ∧ t.power = Power.reset ∧ t.time = 0 ∧ t.clk = 0 ∧ t.basin = Basin.reset ∧ t.lram = [] ∧ t.disp = Disp.reset ∧
      t.voice = VoiceArr.reset ∧ t.spe = Spe.reset ∧ t.trail = Trail.reset ∧ t.aports = APorts.reset ∧ t.tmr = Tmrs.reset ∧
      (∀ a, a ≠ Adr.PWR_SUPPLY → a ≠ Adr.PWR_RSTCAUSE → t.reg a = State.reset.reg a) ∧ t.reg Adr.PWR_SUPPLY = s.reg Adr.PWR_SUPPLY ∧
      cause t 0 ∧ t.flag Adr.PWR_RSTCAUSE 6 = s.power.order ∧ (s.ustate ≠ 6 → t.pack.flash = s.pack.flash) ∧ t.pack.fuses = s.pack.fuses) ∧
    (∃ t, exec .powerOff s = .next t ∧ t.power.vddao = false ∧ t.mode = 0 ∧ t.basin = Basin.reset ∧ t.lram = [] ∧ t.tmr = Tmrs.reset ∧
      (s.ustate ≠ 6 → t.pack.flash = s.pack.flash) ∧ t.pack.fuses = s.pack.fuses) ∧
    (s.power.vddao = true → s.power.held = false → s.mode ≠ 1 →
      (∃ t, exec (.warmReset .pin) s = .next t ∧ cause t 1 ∧ t.power.held = true ∧ Claims.coreReset s t true false) ∧
      (∀ x, s.power.resetAt = some x → x ≤ s.clk → ∃ t, exec (.warmReset .cmd) s = .next t ∧ cause t 2 ∧ t.power.held = false ∧
        Claims.coreReset s t true false) ∧
      (s.flag Adr.PWR_WDOG 16 = true → s.coresOn = true → s.power.wdog = 0 →
        (∃ t, exec (.warmReset .wdog) s = .next t ∧ cause t 3 ∧ Claims.coreReset s t true false) ∧
        (∃ t, exec .watchdogExpiry s = .next t ∧ cause t 3 ∧ Claims.coreReset s t true false)) ∧
      (∃ t, exec .brownout s = .next t ∧ cause t 4 ∧ t.flag Adr.PWR_SUPPLY 0 = false ∧ Claims.coreReset s t false true) ∧
      (∀ u, u = Supply.vddt ∨ u = Supply.vdda → s.supply u = true → s.inserted = true →
        ∃ t, exec (.supplyInvalid u) s = .next t ∧ cause t 5 ∧ t.supply u = false ∧ Claims.coreReset s t true false)) ∧
    ((∀ x, s.power.resetAt = some x → s.clk < x) → exec (.warmReset .cmd) s = .next s) ∧
    (s.flag Adr.PWR_WDOG 16 = false ∨ s.coresOn = false ∨ s.power.wdog ≠ 0 →
      exec (.warmReset .wdog) s = .next s ∧ exec .watchdogExpiry s = .next s) ∧
    (∀ u, s.supply u = false → exec (.supplyInvalid u) s = .next s) ∧
    (∀ u, s.supply u = true → (u ≠ .vddt ∧ u ≠ .vdda) ∨ s.inserted = false → ∃ t, exec (.supplyInvalid u) s = .next t ∧ t.supply u = false ∧
      (u ≠ .vddio1 → t.ser = s.ser) ∧ Claims.onlyPosts { s with ana := t.ana, ser := t.ser } t ∧
      Claims.regsBut s t [Adr.PWR_SUPPLY, Adr.SER_STAT 0, Adr.SER_STAT 1]) ∧
    (∀ u, s.supply u = true → exec (.supplyValid u) s = .next s) ∧
    (∀ u, s.supply u = false → s.power.vddao = true → ∃ t, exec (.supplyValid u) s = .next t ∧ t.supply u = true ∧
      (∀ v, v ≠ u → t.supply v = s.supply v) ∧ (u ≠ .vddio1 → t.ser = s.ser) ∧
      Claims.onlyPosts { s with ana := t.ana, ser := t.ser, fresh := t.fresh } t ∧
      Claims.regsBut s t [Adr.PWR_SUPPLY, Adr.PWR_STAT] ∧ (t.supply .vddt = true → t.supply .vdda = true → t.flag Adr.PWR_STAT 7 = false)) ∧
    (∀ (src : Source) (value : Word), s.accepts src Adr.SYS_RESET value.toNat = true → s.power.resetAt = none →
      value.toNat % 2 ^ 16 = 0x5AFE ∧ exec (.sysReset src value) s =
        .next { s with power := { s.power with resetAt := some (s.clk + s.usTicks 10), reloadBank := 0 } })

/-- R411, R412, R429, R431: a released reset starts the clocks; the crystal qualifies, or fails after 1 s; the oscillator, then the PLL, are qualified in their turn, the
Basin clear between PLL and boot where the Basin lost its contents; boot loads a candidate bank or finds no pack; its end enters the target
mode with the relay open and the causes BOOT and MODE set. A row whose step is not next does nothing.
What a row does when it is not due is the model's choice (log entries 3, 50, 62 and 97). -/
def Obligations.StartUpRunsInOrder : Prop :=
  ∀ s : State,
    let only (t : State) (p : Power) (l : List Nat) : Prop := Claims.onlyPosts { s with power := p } t ∧ Claims.regsBut s t l
    (exec .resetRelease s = .next (if s.power.held then { s with power := { s.power with
        held := false, coldHold := false, pwrenC := s.power.pwrenC || s.power.coldHold
        xtalStart := if s.power.coldHold then s.clk else s.power.xtalStart } } else s)) ∧
    (let waits := s.power.vddao = true ∧ s.power.held = false ∧ s.power.xtal = false ∧ s.flag Adr.PWR_STAT 8 = false
     (waits → s.clk ≤ s.power.xtalStart + s.msTicks 1000 → ∃ t, exec .lxtal s = .next t ∧ t.flag Adr.CLK_STAT 2 = true ∧
       only t { s.power with xtal := true } [Adr.CLK_STAT]) ∧
     (waits → s.power.xtalStart + s.msTicks 1000 < s.clk → exec .lxtal s = .next s) ∧
     (waits → s.power.xtalStart + s.msTicks 1000 ≤ s.clk → ∃ t, exec .lxfail s = .next t ∧ t.flag Adr.PWR_STAT 8 = true ∧
       only t s.power [Adr.PWR_STAT]) ∧
     (waits → s.clk < s.power.xtalStart + s.msTicks 1000 → exec .lxfail s = .next s) ∧
     (¬ waits → exec .lxtal s = .next s ∧ exec .lxfail s = .next s)) ∧
    (let due := s.power.held = false ∧ s.power.pwrenC = true ∧ s.flag Adr.CLK_STAT 1 = false ∧ s.supply .vddc = true ∧
       s.supply .vddt = true ∧ s.supply .vdda = true
     (due → ∃ t, exec .oscok s = .next t ∧ t.flag Adr.CLK_STAT 1 = true ∧
       only t { s.power with startup := Nat.max s.power.startup 1 } [Adr.CLK_STAT]) ∧
     (¬ due → exec .oscok s = .next s)) ∧
    (let due := s.power.held = false ∧ s.flag Adr.CLK_STAT 1 = true ∧ s.flag Adr.CLK_STAT 0 = false ∧ (s.mode = 6 ∨ (s.mode = 2 ∧ s.power.trans ≠ none))
     let next := s.mode = 6 ∧ s.power.startup = 1
     (due → ∃ t, exec .pllLock s = .next t ∧ t.flag Adr.CLK_STAT 0 = true ∧
       only t { s.power with startup := if next then (if s.power.needClear then 2 else 3) else s.power.startup } [Adr.CLK_STAT, Adr.BASIN_STAT] ∧
       (t.flag Adr.BASIN_STAT 0 = true ↔ s.flag Adr.BASIN_STAT 0 = true ∨ (next ∧ s.power.needClear = true))) ∧
     (¬ due → exec .pllLock s = .next s)) ∧
    (let due := s.booting = true ∧ s.power.held = false ∧ s.power.vddao = true ∧ s.mode = 6 ∧ s.power.startup = 3 ∧ s.pack.bootDone = false ∧
       s.supply .vddio1 = true
     (¬ due → exec .boot s = .next s) ∧
     (due → ∃ t, exec .boot s = .next t ∧ t.pack.bootDone = true ∧ t.mode = 6 ∧
       (∀ b, t.pack.bootBank = some b → b < 2 ∧ s.candidate b = true) ∧
       ((∀ b < 2, s.candidate b = false) → t.pack.bootBank = none ∧ t.flag Adr.PACK_STAT 3 = true ∧ t.pack.bootTarget = 4 ∧
         t.pack.flash = s.pack.flash))) ∧
    (let due := s.booting = true ∧ s.power.held = false ∧ s.pack.bootDone = true ∧ s.flag Adr.CLK_STAT 0 = true
     (¬ due → exec .booted s = .next s) ∧
     (due → s.supply .vddt = true → s.supply .vdda = true → s.pack.bootTarget < 8 → ∃ t, exec .booted s = .next t ∧ t.mode = s.pack.bootTarget ∧
       t.booting = false ∧ t.power.trans = none ∧ t.flag Adr.PWR_STAT 3 = false ∧ t.flag Adr.HOST_IRQ 0 = true ∧ t.flag Adr.HOST_IRQ 1 = true ∧
       (s.retired 0 = false ∨ s.retired 1 = false → t.power.bypassN = true) ∧
       t.disp.stopped = decide (s.pack.bootTarget < 4) ∧ t.spe = s.spe ∧ t.trail = s.trail ∧ t.lram = s.lram))

/-! ### Pack, update and fault log (chapter 16) -/

/-- R432, R434, R435: what each update operation of a source that reaches the node does: STATUS nothing; BEGIN erases the target's commit sector and takes the session; WRITE
programs at NEXT, a bit only ever from 1 to 0; VERIFY, COMMIT and ABORT move the state; RELOAD asks for a reset with its bank, a node on the Trail after a cycle
without inserts; READ puts flash bytes into the Basin; FUSE the 32 bytes into blank fuses. An operation of a source that does not own the session, in a wrong
state, out of range or out of sequence leaves its status in CODE and changes nothing else.
Statuses that no table gives, and a flash that cannot be reached, are the model's reading (log entries 53 and 54). -/
def Obligations.UpdateOperationsFollowTheState : Prop :=
  ∀ (s : State) (src : Source), s.reaches src = true →
    let st := s.ustate
    let mine := s.pack.owner = none ∨ s.pack.owner = some (ownerOf src)
    let flash := s.supply .vddio1 = true
    let trail := ∃ n, src = .trail n
    let page := s.pack.work = .page
    let code (t : State) (c : Nat) : State := t.setFld Adr.PACK_USTAT 23 16 c
    let fails (i : Instr) (c : Nat) : Prop := exec i s = .next (code s c)
    let sized (n : Nat) : Prop := n % 4 = 0 ∧ (trail → n ≤ 192) ∧ (¬ trail → 4 ≤ n ∧ n ≤ 4096)
    let base := s.bankBase s.targetBank
    let frame (t : State) : Prop := t = { s with regs := t.regs, pack := t.pack } ∧ t.pack.fuses = s.pack.fuses ∧ t.pack.logq = s.pack.logq ∧
      t.fld Adr.PACK_USTAT 23 16 = 0 ∧ Claims.regsBut s t [Adr.PACK_USTAT, Adr.PACK_UNEXT, Adr.PACK_STAT, Adr.PACK_SEQ0, Adr.PACK_SEQ1]
    let moves (i : Instr) (x : Nat) (w : FlashWork) (o : Option Source) : Prop := ∃ t, exec i s = .next t ∧ frame t ∧ t.ustate = x ∧
      t.pack.work = w ∧ t.pack.owner = o ∧ t.flag Adr.HOST_IRQ 7 = true ∧ t.pack.flash = s.pack.flash
    exec (.packStatus src) s = .next s ∧
    (¬ mine → fails (.packBegin src) 0x08 ∧ fails (.verify src) 0x08 ∧ fails (.commit src) 0x08 ∧ fails (.fuse src) 0x08 ∧
      (src ≠ .host → fails (.abort src) 0x08) ∧ (∀ bank : BitVec 2, bank.toNat ≠ 3 → fails (.reload src bank) 0x08) ∧
      ∀ offset data, sized data.length → fails (.packWrite src offset data) 0x08) ∧
    (mine → ¬ flash → fails (.packBegin src) 0x04 ∧ fails (.verify src) 0x04 ∧ fails (.commit src) 0x04 ∧
      ∀ offset data, sized data.length → fails (.packWrite src offset data) 0x04) ∧
    (mine → flash →
      (st = 0 ∨ st = 5 → ∃ t, exec (.packBegin src) s = .next t ∧ frame t ∧ t.ustate = 1 ∧ t.reg Adr.PACK_UNEXT = 0 ∧
        t.pack.owner = some (ownerOf src) ∧ t.pack.work = .erase ∧
        ∀ a, t.flashByte a = if base ≤ a ∧ a < base + 0x1000 then 0xFF else s.flashByte a) ∧
      (st ≠ 0 → st ≠ 5 → fails (.packBegin src) 0x04) ∧
      (∀ (offset : Word) (data : List Byte), sized data.length →
        let row := Instr.packWrite src offset data
        let next := s.reg Adr.PACK_UNEXT
        (st = 2 → ¬ page → offset.toNat = next → next + data.length ≤ s.bankSize - 0x1000 → ∃ t,
          exec row s = .next t ∧ frame t ∧ t.ustate = 2 ∧ t.pack.owner = s.pack.owner ∧
          t.pack.work = (if data = [] then s.pack.work else .page) ∧ t.reg Adr.PACK_UNEXT = (next + data.length) % 2 ^ 32 ∧
          (∀ a, t.flashByte a = if base + 0x1000 + next ≤ a ∧ a < base + 0x1000 + next + data.length
            then data.getD (a - (base + 0x1000 + next)) 0 &&& s.flashByte a else s.flashByte a)) ∧
        (st = 1 ∨ st = 3 ∨ st = 6 ∨ page → fails row 0x04) ∧
        (st = 0 ∨ st = 4 ∨ st = 5 → ¬ page → fails row 0x03) ∧
        (st = 2 → ¬ page → offset.toNat ≠ next → fails row 0x0D) ∧
        (st = 2 → ¬ page → offset.toNat = next → s.bankSize - 0x1000 < next + data.length → fails row 0x02)) ∧
      (st = 2 → moves (.verify src) 3 .verify s.pack.owner) ∧ (st ≠ 2 → fails (.verify src) 0x04) ∧
      (st = 4 → moves (.commit src) 6 .commit s.pack.owner) ∧ (st ≠ 4 → fails (.commit src) 0x03)) ∧
    (∀ offset data, ¬ sized data.length → exec (.packWrite src offset data) s = .next s) ∧
    (mine ∨ src = .host →
      (st ≠ 0 → st ≠ 6 → moves (.abort src) 0 (if page then .page else .idle) none) ∧
      (st = 0 → fails (.abort src) 0x03) ∧ (st = 6 → fails (.abort src) 0x04)) ∧
    (∀ bank : BitVec 2, (bank.toNat = 3 → fails (.reload src bank) 0x01) ∧
      (mine → bank.toNat ≠ 3 →
        (st = 0 → bank.toNat = 0 ∨ s.flag Adr.PACK_STAT bank.toNat = true → ∃ t, exec (.reload src bank) s = .next t ∧
          t.power = (if s.inserted = true ∧ s.power.bypassN = true then { s.power with reloadQuiet := 1, reloadBank := bank.toNat }
            else { s.power with reloadQuiet := 3, resetAt := some (s.clk + s.usTicks 10), reloadBank := bank.toNat }) ∧
          (s.pack.logq.length < 16 → ∃ r, t.pack.logq = s.pack.logq ++ [r] ∧ byteAt r 0 = 0x05 ∧ leAt r 16 4 = bank.toNat) ∧
          t = { s with regs := t.regs, fresh := t.fresh, power := t.power, pack := { s.pack with logq := t.pack.logq } } ∧
          t.fld Adr.PACK_USTAT 23 16 = 0 ∧ Claims.regsBut s t [Adr.PACK_USTAT, Adr.PACK_LOGLOST]) ∧
        (st = 0 → bank.toNat ≠ 0 → s.flag Adr.PACK_STAT bank.toNat = false → fails (.reload src bank) 0x0E) ∧
        (st ≠ 0 → fails (.reload src bank) 0x04))) ∧
    (∀ (offset : Word) (count : Nat),
      let adr := s.reg Adr.PACK_UADR
      let bytes := s.flashBytes offset.toNat count
      let row := Instr.packRead src offset count
      let fits := trail ∨ adr + count ≤ 0xC00000
      (¬ sized count → exec row s = .next s) ∧ (sized count → ¬ fits → fails row 0x02) ∧ (sized count → fits → ¬ flash → fails row 0x04) ∧
      (sized count → fits → flash → s.flashSize < offset.toNat + count → fails row 0x02) ∧
      (sized count → flash → offset.toNat + count ≤ s.flashSize → (trail → fails row 0) ∧
        (¬ trail → fits → Claims.clear s adr count → ∃ t, exec row s = .next t ∧
          t = { s with regs := t.regs, basin := t.basin, voice := { s.voice with dirtied := t.voice.dirtied } } ∧
          (∀ a, t.memByte a = if adr ≤ a ∧ a < adr + count then bytes.getD (a - adr) 0 else s.memByte a) ∧
          t.fld Adr.PACK_USTAT 23 16 = 0 ∧ ∀ a, a ≠ Adr.PACK_USTAT → a ≠ Adr.VOICE_HASHCTL → t.reg a = s.reg a))) ∧
    (mine →
      let adr := s.reg Adr.PACK_UADR
      let sound := ∀ w ∈ touchedWords adr 32, s.eccOf w = none
      (src ≠ .host → fails (.fuse src) 0x0C) ∧
      (src = .host → adr + 32 ≤ 0xC00000 → sound →
        (s.mode ≠ 4 → fails (.fuse src) 0x03) ∧ (s.mode = 4 → s.fused = true → fails (.fuse src) 0x08) ∧
        (s.mode = 4 → s.fused = false → st ≠ 0 → fails (.fuse src) 0x04) ∧
        (s.mode = 4 → s.fused = false → st = 0 → ∃ t, exec (.fuse src) s = .next t ∧
          t = { s with regs := t.regs, pack := { s.pack with fuses := s.memBytes adr 32 } } ∧ t.flag Adr.PACK_STAT 5 = true ∧
          t.fld Adr.PACK_USTAT 23 16 = 0 ∧ ∀ a, a ≠ Adr.PACK_STAT → a ≠ Adr.PACK_USTAT → t.reg a = s.reg a)) ∧
      (src = .host → s.mode = 4 → s.fused = false → 0xC00000 < adr + 32 → fails (.fuse src) 0x02))

/-- R426, R432, R436 to R438: the end of an erase leaves the whole bank erased and the session WRITING; VERIFY ends VERIFIED or FAILED by the rules of Table PK-5, its
status in CODE; the commit record is programmed in the target's first 32 bytes and the session is over; a page is done. The oldest queued
log record is programmed, numbered and sealed, at the log's place. Each end not due changes nothing.
What a row does when it is not due is the model's choice (log entries 3, 52 and 57). -/
def Obligations.FlashWorkEnds : Prop :=
  ∀ s : State,
    let b := s.targetBank
    let base := s.bankBase b
    let ended (t : State) : Prop := Claims.onlyPosts { s with pack := t.pack } t ∧ t.pack.fuses = s.pack.fuses ∧ t.pack.work = .idle ∧
      Claims.regsBut s t [Adr.PACK_USTAT, Adr.PACK_STAT, Adr.PACK_SEQ0, Adr.PACK_SEQ1, Adr.PACK_LOGLOST]
    (s.ustate = 1 → ∃ t, exec .eraseDone s = .next t ∧ ended t ∧ t.ustate = 2 ∧ t.pack.owner = s.pack.owner ∧ t.pack.logq = s.pack.logq ∧
      ∀ a, t.flashByte a = if base ≤ a ∧ a < base + s.bankSize then 0xFF else s.flashByte a) ∧
    (s.ustate ≠ 1 → exec .eraseDone s = .next s) ∧
    (s.ustate = 3 → ∃ t, exec .verifyDone s = .next t ∧ ended t ∧ t.pack.flash = s.pack.flash ∧ t.pack.owner = s.pack.owner ∧
      t.fld Adr.PACK_USTAT 23 16 = s.verifyResult ∧ t.ustate = (if s.verifyResult = 0 then 4 else 5) ∧
      (s.verifyResult = 0 → s.headFail b = none ∧ s.sectionsFail b (s.sections b) = none ∧ s.signatureGood b = true ∧
        s.activeSeq < Hdr.seq (s.hdr b))) ∧
    (s.ustate ≠ 3 → exec .verifyDone s = .next s) ∧
    (s.ustate = 6 → ∃ t, (∃ n, exec .commitDone s = .next { t with fresh := n }) ∧ ended t ∧ t.ustate = 0 ∧ t.pack.owner = none ∧
      (∀ a, t.flashByte a = if base ≤ a ∧ a < base + 32 then s.commitRecord.getD (a - base) 0 &&& s.flashByte a else s.flashByte a) ∧
      leAt s.commitRecord 0 4 = 0x54494D43 ∧ leAt s.commitRecord 4 4 = Hdr.seq (s.hdr b) ∧ leAt s.commitRecord 12 4 = s.packCrc b) ∧
    (s.ustate ≠ 6 → exec .commitDone s = .next s) ∧
    exec .pageProgramDone s =
      .next (if s.pack.work = .page ∨ s.pack.work = .log then { s with pack := { s.pack with work := .idle } } else s) ∧
    (let place := s.logBase + 32 * s.pack.logPos
     let able := s.supply .vddio1 = true ∧ s.inserted = true ∧ s.pack.work ≠ .page ∧ s.pack.work ≠ .commit
     (s.pack.logq = [] ∨ ¬ able → exec .faultLogWrite s = .next s) ∧
     (∀ r rest, s.pack.logq = r :: rest → r.length = 31 → able → ∃ t, exec .faultLogWrite s = .next t ∧
       t = { s with regs := t.regs, pack := t.pack } ∧ t.pack.logq = rest ∧ t.pack.logPos = (s.pack.logPos + 1) % 32768 ∧
       t.reg Adr.PACK_LOGSEQ = (s.reg Adr.PACK_LOGSEQ + 1) % 2 ^ 32 ∧ (∀ a, a ≠ Adr.PACK_LOGSEQ → t.reg a = s.reg a) ∧
       (s.pack.logPos < 32768 → 20 ≤ s.pack.log2size → ((∀ i < 32, s.flashByte (place + i) = 0xFF) →
         t.flashBytes place 32 = r.take 4 ++ natLE 4 (s.reg Adr.PACK_LOGSEQ) ++ r.drop 8 ++ [0x5A])) ∧
       (∀ a, a < s.logBase → t.flashByte a = s.flashByte a)))

/-! ### Faults and units (chapter 17) -/

/-- R443 to R446: in SERVICE TEST starts the known-answer test of a unit that has one, while none runs; its end sets PASS or retires the unit. RETIRE takes a unit out,
a running core at its item's end, never the last core. READMIT of a retired unit whose test passes clears its retirement; a failed test
leaves it retired. CODE holds the status.
What a row does when it is not due is the model's choice (log entries 3 and 15). -/
def Obligations.UnitsAreTestedAndRetired : Prop :=
  ∀ (s : State) (src : Source) (u : BitVec 6), s.reaches src = true → s.roleStatus src Adr.FAULT_CMD 0 = 0 → s.shaped = true →
    let n := u.toNat
    let code (t : State) (c : Nat) : State := t.setFld Adr.FAULT_CMDRES 7 0 c
    let idle (k : Nat) : Prop := (s.coreAt k).item = none
    (n < 2 → exec (.test src u) s = .next (code s 0x02)) ∧
    (2 ≤ n → s.mode ≠ 4 → exec (.test src u) s = .next (code s 0x03)) ∧
    (2 ≤ n → s.mode = 4 → s.flt.testUnit ≠ none → exec (.test src u) s = .next (code s 0x04)) ∧
    (2 ≤ n → s.mode = 4 → s.flt.testUnit = none → ∃ t, exec (.test src u) s = .next t ∧ t.flt = { s.flt with testUnit := some n } ∧
      t.flag Adr.FAULT_CMDRES 8 = true ∧ t.fld Adr.FAULT_CMDRES 7 0 = 0 ∧ (56 ≤ n → (t.coreAt (n - 56)).testing = true) ∧
      t = { s with regs := t.regs, cores := t.cores, flt := t.flt } ∧ ∀ a, a ≠ Adr.FAULT_CMDRES → t.reg a = s.reg a) ∧
    (s.retired n = true → exec (.retire src u) s = .next (code s 0x00)) ∧
    (s.retired n = false → n < 56 ∨ (idle (n - 56) ∧ s.liveCores ≠ [n - 56]) → ∃ t, exec (.retire src u) s = .next t ∧ t.retired n = true ∧
      t.fld Adr.FAULT_CMDRES 7 0 = 0 ∧ (∀ k, k < 64 → k ≠ n → t.retired k = s.retired k) ∧ t.spe = s.spe ∧ t.pack.flash = s.pack.flash ∧
      t.lram = s.lram) ∧
    (s.retired n = false → 56 ≤ n → ¬ idle (n - 56) → exec (.retire src u) s =
      .next (code { s with cores := s.cores.set (n - 56) { s.coreAt (n - 56) with retireAtEnd := some 4 } } 0x00)) ∧
    (s.retired n = false → 56 ≤ n → idle (n - 56) → s.liveCores = [n - 56] → ∃ t, exec (.retire src u) s = .next t ∧ t.retired n = false) ∧
    (∀ pass, s.retired n = false → exec (.readmit src u pass) s = .next (code s 0x00)) ∧
    (∀ pass, s.retired n = true → (if n < 2 then s.inserted = true else s.mode = 4 ∧ s.flt.testUnit = none) → ∃ t,
      exec (.readmit src u pass) s = .next t ∧ (t.retired n = true ↔ 2 ≤ n ∧ pass = false) ∧
      t.fld Adr.FAULT_CMDRES 7 0 = (if 2 ≤ n ∧ pass = false then 0x09 else 0x00) ∧ (∀ k, k < 64 → k ≠ n → t.retired k = s.retired k) ∧
      t.spe = s.spe ∧ t.pack.flash = s.pack.flash ∧ t.lram = s.lram ∧ t.cores = s.cores) ∧
    (∀ pass, s.flt.testUnit = none → exec (.testDone pass) s = .next s) ∧
    (∀ pass k, s.flt.testUnit = some k → k < 64 → (56 ≤ k → idle (k - 56) ∧ s.liveCores ≠ [k - 56]) → ∃ t, exec (.testDone pass) s = .next t ∧
      t.flt.testUnit = none ∧ t.flag Adr.FAULT_CMDRES 8 = false ∧ t.flag Adr.FAULT_CMDRES 9 = pass ∧
      (t.retired k = true ↔ s.retired k = true ∨ pass = false) ∧ (56 ≤ k → (t.coreAt (k - 56)).testing = false))

/-! ### Basin (chapter 08) -/

/-- R241, R242, R245, R247, R249 to R251, R254: of two writes of one FCLK cycle to one word the one of lower rank is dropped whole where they differ in a shared byte, and told;
both are stored where they do not. A write-back makes a corrected word's check bits valid; the end of a remap copy leaves its row without single errors, words that could not
be corrected reading 0; a region that is borrowed, or due, is restored, and the sweep moves on, the row of a cell that failed going to a spare row, or
its bank to BASIN_REPFAIL when all 8 are in use; the end of the power-up clear leaves every byte 0. Each changes nothing where it is not under way.
Whether two writes meet in one cycle is a free value; in different cycles each is stored (log entry 14). What a row does when it is not due is the
model's choice (log entries 3 and 94). -/
def Obligations.TheBasinRepairsItself : Prop :=
  (∀ (s : State) (g : WordGroup) (x : LaneWrite) (master port a : Nat) (l : List Byte),
    let w := a / 4
    let old (i : Nat) : Option Byte := x.lanes.getD i none
    let own (i : Nat) : Option Byte := if a % 4 ≤ i then l[i - a % 4]? else none
    let hi (i : Nat) : Option Byte := if x.master < master then old i else own i
    let lo (i : Nat) : Option Byte := if x.master < master then own i else old i
    let clash := ∃ i < 4, ∃ b c, hi i = some b ∧ lo i = some c ∧ b ≠ c
    let r := s.putPart master port a l
    l.length ≤ 4 - a % 4 → a < 0xC00000 → master < 15 → x.master ≠ master → (master < x.master → x.master < 5) → x.lost = false →
    s.basin.groups.find? (fun h => decide (h.word = w)) = some g → g = ⟨w, s.clk, g.base, [x]⟩ → g.base.length = 4 →
    (if Config.sameCycle s.clk w master = true then
      (clash → (r.1 = true ↔ x.master < master) ∧ r.2.flag Adr.BASIN_COLFLAG (Nat.max x.master master) = true ∧
        ∀ i < 4, r.2.memByte (4 * w + i) = (hi i).getD (g.base.getD i 0)) ∧
      (¬ clash → r.1 = false ∧ r.2.reg Adr.BASIN_COLFLAG = s.reg Adr.BASIN_COLFLAG ∧
        ∀ i < 4, r.2.memByte (4 * w + i) = ((hi i).orElse (fun _ => lo i)).getD (g.base.getD i 0)) ∧
      ∀ b, b / 4 ≠ w → r.2.memByte b = s.memByte b
    else r.1 = false ∧ r.2.reg Adr.BASIN_COLFLAG = s.reg Adr.BASIN_COLFLAG ∧
      ∀ b, r.2.memByte b = if a ≤ b ∧ b < a + l.length then l.getD (b - a) 0 else s.memByte b)) ∧
  ∀ s : State,
    (∀ w, (w ∈ s.basin.writeback → ∃ b, exec (.eccWriteback w) s = .next { s with basin := b } ∧ b.bytes = s.basin.bytes ∧
        w ∉ b.writeback ∧ (w, false) ∉ b.ecc ∧ ∀ e, e ≠ (w, false) → (e ∈ b.ecc ↔ e ∈ s.basin.ecc)) ∧
      (w ∉ s.basin.writeback → exec (.eccWriteback w) s = .next s)) ∧
    (s.basin.copying = [] → exec .remapComplete s = .next s) ∧
    (∀ b p rest, s.basin.copying = (b, p) :: rest → ∃ t, exec .remapComplete s = .next t ∧ t = { s with regs := t.regs, basin := t.basin } ∧
      t.basin.copying = rest ∧ t.flag Adr.BASIN_STAT 2 = !rest.isEmpty ∧ (∀ a, a ≠ Adr.BASIN_STAT → t.reg a = s.reg a) ∧
      ∀ w, let inRow := bankOf w = b ∧ rowOf w = p
        (inRow → t.eccOf w ≠ some false ∧ ((w, true) ∈ s.basin.ecc → t.memBytes (4 * w) 4 = [0, 0, 0, 0])) ∧
        (¬ inRow ∨ (w, true) ∉ s.basin.ecc → t.memBytes (4 * w) 4 = s.memBytes (4 * w) 4) ∧ (¬ inRow → t.eccOf w = s.eccOf w)) ∧
    (let k := s.fld Adr.BASIN_SWSTAT 15 0
     let due := s.inserted = true ∧ s.flag Adr.BASIN_SWCTL 0 = true ∧ s.flag Adr.BASIN_STAT 1 = false ∧ s.basin.sweepAt ≤ s.clk
     let runs := s.flag Adr.BASIN_STAT 1 = true ∨ due
     let swept := [Adr.BASIN_SWSTAT, Adr.BASIN_SWPASS, Adr.BASIN_STAT]
     let sound := ∀ w, 64 * k ≤ w → w < 64 * k + 64 → s.eccOf w = none
     let moved (t : State) : Prop := t.fld Adr.BASIN_SWSTAT 15 0 = (if k + 1 = 49152 then 0 else (k + 1) % 65536) ∧
       t.flag Adr.BASIN_STAT 1 = false ∧ t.flag Adr.BASIN_SWSTAT 16 = false ∧
       t.basin.sweepAt = (if due then s.clk + s.usTicks (s.fld Adr.BASIN_SWCTL 31 16) else s.basin.sweepAt) ∧
       (k + 1 = 49152 → s.reg Adr.BASIN_SWPASS < 2 ^ 31 - 1 → t.reg Adr.BASIN_SWPASS = s.reg Adr.BASIN_SWPASS + 1)
     (∀ bad, ¬ runs → exec (.sweepRegion bad) s = .next s) ∧
     (runs → sound → ∃ t, exec (.sweepRegion []) s = .next t ∧ moved t ∧ t = { s with regs := t.regs, basin := t.basin } ∧
       t.basin.bytes = s.basin.bytes ∧ ∀ a, a ∉ swept → t.reg a = s.reg a) ∧
     (∀ i : Fin 64, runs → sound →
       let w := 64 * k + i.val
       let b := bankOf w
       let used := s.sparesUsed b
       ∃ t, exec (.sweepRegion [i]) s = .next t ∧ moved t ∧
         (used < 8 → t.sparesUsed b = used + 1 ∧ (b, rowOf w, used) ∈ t.basin.remaps ∧ (b, rowOf w) ∈ t.basin.copying ∧
           t.flag Adr.BASIN_STAT 2 = true) ∧
         (8 ≤ used → t.flag Adr.BASIN_REPFAIL b = true ∧ t.sparesUsed b = used))) ∧
    (s.flag Adr.BASIN_STAT 0 = true → ∃ t, exec .basinClearEnd s = .next t ∧ (∀ a, t.memByte a = 0) ∧ t.basin.ecc = [] ∧
      t.flag Adr.BASIN_STAT 0 = false ∧ t.power = { s.power with startup := Nat.max s.power.startup 3, needClear := false } ∧
      t = { s with regs := t.regs, basin := t.basin, power := t.power } ∧ ∀ a, a ≠ Adr.BASIN_STAT → t.reg a = s.reg a) ∧
    (s.flag Adr.BASIN_STAT 0 = false → exec .basinClearEnd s = .next s)

/-! ### Host interface and registers (chapter 18) -/

/-- R453 to R456, R458, R460: a frame that ends before the last bit of CCRC is counted and ignored; one that a check fails is answered with the first failing
status and recorded; during boot all but a READ of HOST or PWR is answered E_BUSY. READ answers the words at ascending addresses, WRITE
stores them where no other write of the FCLK cycle reached them (R241), TIME answers trail time, SEND queues the message with the node's number and answers its SEQ. -/
def Obligations.SpiFramesAreAnswered : Prop :=
  ∀ (s : State), s.spiServed = true →
    let answered (t : State) (status : Nat) (words : List Nat) : State := { t with host := ⟨spiResponse status words⟩ }
    (∀ (f : List Byte) (row : Instr), row ∈ [Instr.spiRead f, .spiWrite f, .spiTime f, .spiSend f, .spiAbort f] →
      (Spi.complete f = false → exec row s = .next (s.count Adr.HOST_ABORT)) ∧
      (Spi.complete f = true →
        let crcBad := crc8 (f.take (Spi.bodyLen f)) ≠ byteAt f (Spi.bodyLen f)
        let recorded (e : Nat) : Prop := ∃ t, exec row s = .next t ∧ t = answered { s with regs := t.regs } e [] ∧
          t.reg Adr.HOST_ERR = e + 256 * Spi.op f ∧ t.reg Adr.HOST_ERRADR = 0 ∧
          (∀ a, a ≠ Adr.HOST_ERR → a ≠ Adr.HOST_ERRADR → a ≠ Adr.HOST_CRCERR → t.reg a = s.reg a) ∧
          (s.reg Adr.HOST_CRCERR < 2 ^ 31 - 1 → t.reg Adr.HOST_CRCERR = s.reg Adr.HOST_CRCERR + if crcBad then 1 else 0)
        (crcBad → recorded 0x0B) ∧
        (¬ crcBad → Spi.op f = 0 ∨ 5 ≤ Spi.op f → recorded 0x10) ∧
        (¬ crcBad → (Spi.op f = 3 ∧ (Spi.addr f ≠ 0 ∨ Spi.count f ≠ 0)) ∨ (Spi.op f = 4 ∧ Spi.addr f ≠ 0) → recorded 0x01) ∧
        (¬ crcBad → Spi.op f = 1 ∨ Spi.op f = 2 → Spi.count f = 0 ∨ 64 < Spi.count f → recorded 0x02) ∧
        (¬ crcBad → Spi.op f = 1 ∨ Spi.op f = 2 → 1 ≤ Spi.count f → Spi.count f ≤ 64 → Spi.addr f % 4 ≠ 0 → recorded 0x05) ∧
        (Spi.headStatus f = 0 → s.booting = true → Spi.bootRead f = false → recorded 0x04))) ∧
    (s.booting = false → ∀ a n : Nat, 1 ≤ n → n ≤ 64 → a % 4 = 0 →
      (a + 4 * n ≤ 0xC00000 → (∀ w, a / 4 ≤ w → w < a / 4 + n → s.eccOf w = none) →
        exec (.spiRead (Spi.frame 1 a n [])) s =
          .next (answered s 0 ((List.range n).map (fun i => leNat (s.memBytes (a + 4 * i) 4))))) ∧
      (∀ d : List Byte, d.length = 4 * n → a + 4 * n ≤ 0xC00000 → Claims.clear s a (4 * n) → ∃ t, exec (.spiWrite (Spi.frame 2 a n d)) s = .next t ∧
        (∀ x, t.memByte x = if a ≤ x ∧ x < a + 4 * n then d.getD (x - a) 0 else s.memByte x) ∧
        t = answered { s with
          regs := t.regs, basin := t.basin, fresh := s.fresh + 1, voice := { s.voice with dirtied := t.voice.dirtied } } 0 [] ∧
        ∀ r, r ≠ Adr.VOICE_HASHCTL → t.reg r = s.reg r)) ∧
    (s.booting = false → exec (.spiTime (Spi.frame 3 0 0 [])) s = .next (answered s 0 [s.time % 2 ^ 32, s.time / 2 ^ 32 % 2 ^ 32])) ∧
    (s.booting = false → s.flag Adr.TRAIL_AUTHCTL 1 = false → ∀ img : List Byte, s.sendStatus img = 0 → Msg.len img = img.length →
      Msg.isCommand (Msg.type img) = false → Msg.auth img = false →
      let words := (img.length + 3) / 4
      ∃ b, exec (.spiSend (Spi.frame 4 0 words (img ++ List.replicate (4 * words - img.length) 0))) s =
          .next (answered { s with trail := { s.trail with
            seq := (s.trail.seq + 1) % 65536, txq := s.trail.txq ++ [⟨b, false, false, true⟩] } } 0 [s.trail.seq]) ∧
        b.length = img.length ∧ Msg.type b = Msg.type img ∧ Msg.src b = (if s.admitted then s.nodeNo else 0) ∧
        Msg.seq b = s.trail.seq % 65536 ∧ b.drop 6 = img.drop 6)

/-- Registers that are nothing but their bits: a write stores its RW bits and clears W1C bits written 1 (R9). -/
def Claims.plain : List Nat :=
  [Adr.PWR_RSTCAUSE, Adr.PWR_WAKECFG, Adr.DSP_IMGADR, Adr.DSP_CQBASE, Adr.DSP_CQCTL, Adr.DSP_CQRD, Adr.BASIN_REPWIN, Adr.BASIN_SWCTL,
   Adr.BASIN_COLFLAG, Adr.VOICE_SEEDGEN, Adr.VOICE_BUSCLIP, Adr.VOICE_NOTICEEN, Adr.VOICE_EVADR, Adr.VOICE_REFHASHLO, Adr.VOICE_REFHASHHI,
   Adr.VOICE_LIGHTCFG, Adr.SPE_PTIMELO, Adr.SPE_PTIMEHI, Adr.SPE_CTIMELO, Adr.SPE_CTIMEHI, Adr.SPE_BLOCK, Adr.SPE_DREGBASE, Adr.SPE_DREGSIZE,
   Adr.TRAIL_ROLE, Adr.TRAIL_SYSID, Adr.TRAIL_AUTHCTL, Adr.TRAIL_RELAYT, Adr.TRAIL_CMDCFG, Adr.APORT_LOOPCTL, Adr.ADAC_CTL, Adr.PACK_UOFS,
   Adr.PACK_UADR, Adr.PACK_ULEN, Adr.FAULT_CFG, Adr.HOST_IRQ, Adr.HOST_IRQEN, Adr.HOST_RPLBASE, Adr.HOST_RPLCTL, Adr.HOST_RPLRD] ++
  (List.range 12).flatMap (fun q => [Adr.DSP_SRCCFG q, Adr.DSP_SRCBASE q]) ++ (List.range 32).flatMap (fun g => [Adr.VOICE_GRPCFG g, Adr.VOICE_PIN g]) ++
  (List.range 8).flatMap (fun p => [Adr.APORT_CTL p, Adr.APORT_FMT p, Adr.APORT_RXBASE p, Adr.APORT_TXBASE p, Adr.COUT_SLEW p, Adr.COUT_PON p]) ++
  (List.range 16).map Adr.TMR_OFS

/-- R9, R31, R459: an accepted write of a register stores its RW bits, clears the W1C bits written 1, and zeroes a counter whose SAT is written 1, every
other bit and register staying; a write that the first failing check refuses changes nothing, but for the CODE of a command register; the
draw of a free value is the model's.
The checks of role and the source that does not reach the node are the model's reading (log entries 5, 6 and 59). -/
def Obligations.RegisterWritesAreCheckedAndStored : Prop :=
  ∀ (s : State) (src : Source) (addr value : Word),
    let a := addr.toNat
    let v := value.toNat
    let u : State := { s with fresh := s.fresh + 1 }
    let inside := a % 4 = 0 ∧ 0x02000000 ≤ a ∧ a < 0x02010000
    (∀ r, regRow a = some r → s.accepts src a v = true →
      (a ∈ Claims.plain → exec (.registerWrite src addr value) s = .next (u.setReg a
        ((v &&& r.rw) ||| (s.reg a &&& (0xFFFFFFFF - r.rw) &&& (0xFFFFFFFF - (v &&& r.w1c)))))) ∧
      (r.isCounter = true → exec (.registerWrite src addr value) s = .next (if bit v 31 then u.setReg a 0 else u))) ∧
    (s.reaches src = false → inside → exec (.registerWrite src addr value) s = .next u) ∧
    (s.reaches src = false → ¬ inside → exec (.registerWrite src addr value) s = .next s) ∧
    (s.reaches src = true → srcIsCore src = false → ¬ inside → exec (.registerWrite src addr value) s = .next s) ∧
    (s.reaches src = true → srcIsCore src = false → inside → s.regStatus src a v ≠ 0 → exec (.registerWrite src addr value) s =
      .next (if codeReg a = true ∧ regRow a ≠ none then u.setCode a (s.regStatus src a v) else u)) ∧
    (inside → (regRow a = none → s.regStatus src a v = 0x06) ∧
      (∀ r, regRow a = some r → (s.roleStatus src a v ≠ 0 → s.regStatus src a v = s.roleStatus src a v) ∧
        (s.roleStatus src a v = 0 → r.readOnly = true → s.regStatus src a v = 0x07) ∧
        (s.roleStatus src a v = 0 → r.readOnly = false → s.lockStatus a v ≠ 0 → s.regStatus src a v = s.lockStatus a v) ∧
        (s.roleStatus src a v = 0 → r.readOnly = false → s.lockStatus a v = 0 → v &&& (0xFFFFFFFF - r.defined) ≠ 0 →
          s.regStatus src a v = 0x01)))

/-- The address and value that a row of its own writes. -/
def Claims.writes (src : Source) : Instr → Option (Nat × Nat)
  | .recalc x => if x = src then some (Adr.VOICE_HASHCTL, 1) else none
  | .go x => if x = src then some (Adr.VOICE_EVCMD, 1) else none
  | .ccmdCommit x noramp => if x = src then some (Adr.SPE_CCMD, 1 + 4 * b2n noramp) else none
  | .ccmdCancel x => if x = src then some (Adr.SPE_CCMD, 2) else none
  | .ccmdDiscard x => if x = src then some (Adr.SPE_CCMD, 3) else none
  | .pcmdLoad x len clrt => if x = src then some (Adr.SPE_PCMD, 1 + 4 * b2n clrt + 8 * len.toNat) else none
  | .pcmdCancel x => if x = src then some (Adr.SPE_PCMD, 2) else none
  | .speDlctl x j w => if x = src then some (Adr.SPE_DLCTL j.val, w.toNat) else none
  | .dspPost x => if x = src then some (Adr.DSP_CMD, 1) else none
  | .dspSignal x i => if x = src then some (Adr.DSP_CMD, 2 + 2 ^ 16 * i.toNat) else none
  | .dspCancel x i => if x = src then some (Adr.DSP_CMD, 3 + 2 ^ 16 * i.toNat) else none
  | .dspDsel x i => if x = src then some (Adr.DSP_DSEL, i.toNat) else none
  | .trailLeadWrite x w => if x = src then some (Adr.TRAIL_LEAD, w.toNat) else none
  | .snap x => if x = src then some (Adr.TRAIL_SNAPCTL, 1) else none
  | .aportCtl x p w => if x = src then some (Adr.APORT_CTL p.val, w.toNat) else none
  | .aportLoopctl x w => if x = src then some (Adr.APORT_LOOPCTL, w.toNat) else none
  | .adacCtl x w => if x = src then some (Adr.ADAC_CTL, w.toNat) else none
  | .coutCtl x c w => if x = src then some (Adr.COUT_CTL c.val, w.toNat) else none
  | .serDiv x n w => if x = src then some (Adr.SER_DIV n.val, w.toNat) else none
  | .serTxdata x n w => if x = src then some (Adr.SER_TXDATA n.val, w.toNat) else none
  | .sendHeader x n w => if x = src then some (Adr.SER_FCMD n.val, w.toNat) else none
  | .sendRdm x n w => if x = src then some (Adr.SER_FCMD n.val, w.toNat) else none
  | .tmrCntWrite x n w => if x = src then some (Adr.TMR_CNT n.val, w.toNat) else none
  | .tmrCtl x n w => if x = src then some (Adr.TMR_CTL n.val, w.toNat) else none
  | .modeLantern x => if x = src then some (Adr.PWR_MODECMD, 1) else none
  | .modeRest x => if x = src then some (Adr.PWR_MODECMD, 2) else none
  | .modeRelay x => if x = src then some (Adr.PWR_MODECMD, 3) else none
  | .modeService x => if x = src then some (Adr.PWR_MODECMD, 4) else none
  | .modeRun x => if x = src then some (Adr.PWR_MODECMD, 5) else none
  | .pwrWakesend x w => if x = src then some (Adr.PWR_WAKESEND, w.toNat) else none
  | .sysReset x w => if x = src then some (Adr.SYS_RESET, w.toNat) else none
  | .fuse x => if x = src then some (Adr.PACK_UCMD, 8) else none
  | .test x u => if x = src then some (Adr.FAULT_CMD, 1 + 2 ^ 8 * u.toNat) else none
  | .retire x u => if x = src then some (Adr.FAULT_CMD, 2 + 2 ^ 8 * u.toNat) else none
  | _ => none

/-- R31, R181, R459: a row that writes a register has the effect of REGISTER_WRITE of the same word by the same source. A refused one of the host or the Trail
changes nothing, one of a core ends the core's item; no row of a source that does not reach the node does anything.
What a source does that does not reach the node is the model's reading (log entries 5 and 6). -/
def Obligations.RowsAreRegisterWrites : Prop :=
  ∀ (s : State) (src : Source) (i : Instr) (a v : Nat), Claims.writes src i = some (a, v) →
    (exec i { s with fresh := s.fresh + 1 } = exec (.registerWrite src (BitVec.ofNat 32 a) (BitVec.ofNat 32 v)) s) ∧
    (s.reaches src = false → exec i s = .next s) ∧
    (codeReg a = false → s.reaches src = true → s.accepts src a v = false →
      (srcIsCore src = false → exec i s = .next s) ∧
      (∀ (k : Fin 8) (item : Nat), src = .core k → (s.coreAt k.val).item = some item → ∃ n, 1 ≤ n ∧ n ≤ 400 ∧ exec i s =
        .next ((({ s with fresh := s.fresh + 1 } : State).endItem k.val item 0x11 0 (s.coreAt k.val).pc ((s.coreAt k.val).cycles + n)).queued
          s.pending)))

/-- R17, R325, R338: SAMPLE_BOUNDARY runs time on to the next boundary, where the phase counter starts again and every port is active in the directions that are
enabled, a retired port, or a master without its supply, staying stopped; a pipeline that runs is one sample older. A node off the Trail has no boundary.
What a row does when it is not due is the model's choice (log entries 3 and 92). -/
def Obligations.BoundariesFollowTheClock : Prop :=
  ∀ (s : State) (inp : BoundaryInput),
    (s.inserted = false → exec (.sampleBoundary inp) s = .next s) ∧
    (s.inserted = true → s.trail.realign ≠ 2 → s.power.trans = none → s.shaped = true →
      let c := (s.time / s.spt + 1) * s.spt
      ∃ t, exec (.sampleBoundary inp) s = .next t ∧ t.time = c ∧ t.clk = s.clk + (c - s.time) ∧ t.phase = s.sub / 16 ∧ t.mode = s.mode ∧
        (∀ p : Fin 8,
          let c (i : Nat) : Bool := s.flag (Adr.APORT_CTL p.val) i
          t.flag (Adr.APORT_STAT p.val) 0 = (c 0 && !t.retired (2 + p.val) && (s.apSlave p.val || s.apSupplied) &&
            (c 2 && p.val ≠ 6 && p.val ≠ 7 || c 3 && p.val ≠ 4 && p.val ≠ 5))) ∧
        t.power.runAge = (if s.inRun then Nat.min 3 (s.power.runAge + 1) else s.power.runAge) ∧
        t.lram = s.lram ∧ t.pack.flash = s.pack.flash ∧ t.host = s.host)

/-- Every step keeps the number of each kind of unit, from every node that has them; the node after reset has. -/
def Obligations.StepsKeepTheUnits : Prop :=
  State.reset.shaped = true ∧ ∀ s t : State, s.shaped = true → step s = .next t → t.shaped = true
end

