-- ==== Sys2Proof/Laws/State.lean ====
section
/-!
SUPPORT. What each named update of State leaves and sets: one lemma for each field of each update, so that no proof unfolds a record
update. Updates that answer with a pair speak of the state.
-/
namespace Sys2Proof.Machine

variable (s : State)

/-! ### State.setReg -/

@[simp] theorem State.setReg_pending (a v : Nat) : (s.setReg a v).pending = s.pending := rfl
@[simp] theorem State.setReg_fresh (a v : Nat) : (s.setReg a v).fresh = s.fresh := rfl
@[simp] theorem State.setReg_time (a v : Nat) : (s.setReg a v).time = s.time := rfl
@[simp] theorem State.setReg_sub (a v : Nat) : (s.setReg a v).sub = s.sub := rfl
@[simp] theorem State.setReg_clk (a v : Nat) : (s.setReg a v).clk = s.clk := rfl
@[simp] theorem State.setReg_phase (a v : Nat) : (s.setReg a v).phase = s.phase := rfl
@[simp] theorem State.setReg_regs (a v : Nat) : (s.setReg a v).regs = Sp.put regReset s.regs a (BitVec.ofNat 32 v) := rfl
@[simp] theorem State.setReg_basin (a v : Nat) : (s.setReg a v).basin = s.basin := rfl
@[simp] theorem State.setReg_disp (a v : Nat) : (s.setReg a v).disp = s.disp := rfl
@[simp] theorem State.setReg_cores (a v : Nat) : (s.setReg a v).cores = s.cores := rfl
@[simp] theorem State.setReg_lram (a v : Nat) : (s.setReg a v).lram = s.lram := rfl
@[simp] theorem State.setReg_lramEcc (a v : Nat) : (s.setReg a v).lramEcc = s.lramEcc := rfl
@[simp] theorem State.setReg_voice (a v : Nat) : (s.setReg a v).voice = s.voice := rfl
@[simp] theorem State.setReg_spe (a v : Nat) : (s.setReg a v).spe = s.spe := rfl
@[simp] theorem State.setReg_trail (a v : Nat) : (s.setReg a v).trail = s.trail := rfl
@[simp] theorem State.setReg_aports (a v : Nat) : (s.setReg a v).aports = s.aports := rfl
@[simp] theorem State.setReg_ana (a v : Nat) : (s.setReg a v).ana = s.ana := rfl
@[simp] theorem State.setReg_ser (a v : Nat) : (s.setReg a v).ser = s.ser := rfl
@[simp] theorem State.setReg_tmr (a v : Nat) : (s.setReg a v).tmr = s.tmr := rfl
@[simp] theorem State.setReg_power (a v : Nat) : (s.setReg a v).power = s.power := rfl
@[simp] theorem State.setReg_pack (a v : Nat) : (s.setReg a v).pack = s.pack := rfl
@[simp] theorem State.setReg_flt (a v : Nat) : (s.setReg a v).flt = s.flt := rfl
@[simp] theorem State.setReg_host (a v : Nat) : (s.setReg a v).host = s.host := rfl

/-! ### State.setFld -/

@[simp] theorem State.setFld_pending (a hi lo v : Nat) : (s.setFld a hi lo v).pending = s.pending := rfl
@[simp] theorem State.setFld_fresh (a hi lo v : Nat) : (s.setFld a hi lo v).fresh = s.fresh := rfl
@[simp] theorem State.setFld_time (a hi lo v : Nat) : (s.setFld a hi lo v).time = s.time := rfl
@[simp] theorem State.setFld_sub (a hi lo v : Nat) : (s.setFld a hi lo v).sub = s.sub := rfl
@[simp] theorem State.setFld_clk (a hi lo v : Nat) : (s.setFld a hi lo v).clk = s.clk := rfl
@[simp] theorem State.setFld_phase (a hi lo v : Nat) : (s.setFld a hi lo v).phase = s.phase := rfl
@[simp] theorem State.setFld_regs (a hi lo v : Nat) : (s.setFld a hi lo v).regs = Sp.put regReset s.regs a (BitVec.ofNat 32 (putBits (s.reg a) hi lo v)) := rfl
@[simp] theorem State.setFld_basin (a hi lo v : Nat) : (s.setFld a hi lo v).basin = s.basin := rfl
@[simp] theorem State.setFld_disp (a hi lo v : Nat) : (s.setFld a hi lo v).disp = s.disp := rfl
@[simp] theorem State.setFld_cores (a hi lo v : Nat) : (s.setFld a hi lo v).cores = s.cores := rfl
@[simp] theorem State.setFld_lram (a hi lo v : Nat) : (s.setFld a hi lo v).lram = s.lram := rfl
@[simp] theorem State.setFld_lramEcc (a hi lo v : Nat) : (s.setFld a hi lo v).lramEcc = s.lramEcc := rfl
@[simp] theorem State.setFld_voice (a hi lo v : Nat) : (s.setFld a hi lo v).voice = s.voice := rfl
@[simp] theorem State.setFld_spe (a hi lo v : Nat) : (s.setFld a hi lo v).spe = s.spe := rfl
@[simp] theorem State.setFld_trail (a hi lo v : Nat) : (s.setFld a hi lo v).trail = s.trail := rfl
@[simp] theorem State.setFld_aports (a hi lo v : Nat) : (s.setFld a hi lo v).aports = s.aports := rfl
@[simp] theorem State.setFld_ana (a hi lo v : Nat) : (s.setFld a hi lo v).ana = s.ana := rfl
@[simp] theorem State.setFld_ser (a hi lo v : Nat) : (s.setFld a hi lo v).ser = s.ser := rfl
@[simp] theorem State.setFld_tmr (a hi lo v : Nat) : (s.setFld a hi lo v).tmr = s.tmr := rfl
@[simp] theorem State.setFld_power (a hi lo v : Nat) : (s.setFld a hi lo v).power = s.power := rfl
@[simp] theorem State.setFld_pack (a hi lo v : Nat) : (s.setFld a hi lo v).pack = s.pack := rfl
@[simp] theorem State.setFld_flt (a hi lo v : Nat) : (s.setFld a hi lo v).flt = s.flt := rfl
@[simp] theorem State.setFld_host (a hi lo v : Nat) : (s.setFld a hi lo v).host = s.host := rfl

/-! ### State.setFlag -/

@[simp] theorem State.setFlag_pending (a i : Nat) (b : Bool) : (s.setFlag a i b).pending = s.pending := rfl
@[simp] theorem State.setFlag_fresh (a i : Nat) (b : Bool) : (s.setFlag a i b).fresh = s.fresh := rfl
@[simp] theorem State.setFlag_time (a i : Nat) (b : Bool) : (s.setFlag a i b).time = s.time := rfl
@[simp] theorem State.setFlag_sub (a i : Nat) (b : Bool) : (s.setFlag a i b).sub = s.sub := rfl
@[simp] theorem State.setFlag_clk (a i : Nat) (b : Bool) : (s.setFlag a i b).clk = s.clk := rfl
@[simp] theorem State.setFlag_phase (a i : Nat) (b : Bool) : (s.setFlag a i b).phase = s.phase := rfl
@[simp] theorem State.setFlag_regs (a i : Nat) (b : Bool) : (s.setFlag a i b).regs = Sp.put regReset s.regs a (BitVec.ofNat 32 (putBit (s.reg a) i b)) := rfl
@[simp] theorem State.setFlag_basin (a i : Nat) (b : Bool) : (s.setFlag a i b).basin = s.basin := rfl
@[simp] theorem State.setFlag_disp (a i : Nat) (b : Bool) : (s.setFlag a i b).disp = s.disp := rfl
@[simp] theorem State.setFlag_cores (a i : Nat) (b : Bool) : (s.setFlag a i b).cores = s.cores := rfl
@[simp] theorem State.setFlag_lram (a i : Nat) (b : Bool) : (s.setFlag a i b).lram = s.lram := rfl
@[simp] theorem State.setFlag_lramEcc (a i : Nat) (b : Bool) : (s.setFlag a i b).lramEcc = s.lramEcc := rfl
@[simp] theorem State.setFlag_voice (a i : Nat) (b : Bool) : (s.setFlag a i b).voice = s.voice := rfl
@[simp] theorem State.setFlag_spe (a i : Nat) (b : Bool) : (s.setFlag a i b).spe = s.spe := rfl
@[simp] theorem State.setFlag_trail (a i : Nat) (b : Bool) : (s.setFlag a i b).trail = s.trail := rfl
@[simp] theorem State.setFlag_aports (a i : Nat) (b : Bool) : (s.setFlag a i b).aports = s.aports := rfl
@[simp] theorem State.setFlag_ana (a i : Nat) (b : Bool) : (s.setFlag a i b).ana = s.ana := rfl
@[simp] theorem State.setFlag_ser (a i : Nat) (b : Bool) : (s.setFlag a i b).ser = s.ser := rfl
@[simp] theorem State.setFlag_tmr (a i : Nat) (b : Bool) : (s.setFlag a i b).tmr = s.tmr := rfl
@[simp] theorem State.setFlag_power (a i : Nat) (b : Bool) : (s.setFlag a i b).power = s.power := rfl
@[simp] theorem State.setFlag_pack (a i : Nat) (b : Bool) : (s.setFlag a i b).pack = s.pack := rfl
@[simp] theorem State.setFlag_flt (a i : Nat) (b : Bool) : (s.setFlag a i b).flt = s.flt := rfl
@[simp] theorem State.setFlag_host (a i : Nat) (b : Bool) : (s.setFlag a i b).host = s.host := rfl

/-! ### State.raise -/

@[simp] theorem State.raise_pending (i : Nat) : (s.raise i).pending = s.pending := State.setFlag_pending s Adr.HOST_IRQ i true
@[simp] theorem State.raise_fresh (i : Nat) : (s.raise i).fresh = s.fresh := State.setFlag_fresh s Adr.HOST_IRQ i true
@[simp] theorem State.raise_time (i : Nat) : (s.raise i).time = s.time := State.setFlag_time s Adr.HOST_IRQ i true
@[simp] theorem State.raise_sub (i : Nat) : (s.raise i).sub = s.sub := State.setFlag_sub s Adr.HOST_IRQ i true
@[simp] theorem State.raise_clk (i : Nat) : (s.raise i).clk = s.clk := State.setFlag_clk s Adr.HOST_IRQ i true
@[simp] theorem State.raise_phase (i : Nat) : (s.raise i).phase = s.phase := State.setFlag_phase s Adr.HOST_IRQ i true
@[simp] theorem State.raise_regs (i : Nat) : (s.raise i).regs = Sp.put regReset s.regs Adr.HOST_IRQ (BitVec.ofNat 32 (putBit (s.reg Adr.HOST_IRQ) i true)) := State.setFlag_regs s Adr.HOST_IRQ i true
@[simp] theorem State.raise_basin (i : Nat) : (s.raise i).basin = s.basin := State.setFlag_basin s Adr.HOST_IRQ i true
@[simp] theorem State.raise_disp (i : Nat) : (s.raise i).disp = s.disp := State.setFlag_disp s Adr.HOST_IRQ i true
@[simp] theorem State.raise_cores (i : Nat) : (s.raise i).cores = s.cores := State.setFlag_cores s Adr.HOST_IRQ i true
@[simp] theorem State.raise_lram (i : Nat) : (s.raise i).lram = s.lram := State.setFlag_lram s Adr.HOST_IRQ i true
@[simp] theorem State.raise_lramEcc (i : Nat) : (s.raise i).lramEcc = s.lramEcc := State.setFlag_lramEcc s Adr.HOST_IRQ i true
@[simp] theorem State.raise_voice (i : Nat) : (s.raise i).voice = s.voice := State.setFlag_voice s Adr.HOST_IRQ i true
@[simp] theorem State.raise_spe (i : Nat) : (s.raise i).spe = s.spe := State.setFlag_spe s Adr.HOST_IRQ i true
@[simp] theorem State.raise_trail (i : Nat) : (s.raise i).trail = s.trail := State.setFlag_trail s Adr.HOST_IRQ i true
@[simp] theorem State.raise_aports (i : Nat) : (s.raise i).aports = s.aports := State.setFlag_aports s Adr.HOST_IRQ i true
@[simp] theorem State.raise_ana (i : Nat) : (s.raise i).ana = s.ana := State.setFlag_ana s Adr.HOST_IRQ i true
@[simp] theorem State.raise_ser (i : Nat) : (s.raise i).ser = s.ser := State.setFlag_ser s Adr.HOST_IRQ i true
@[simp] theorem State.raise_tmr (i : Nat) : (s.raise i).tmr = s.tmr := State.setFlag_tmr s Adr.HOST_IRQ i true
@[simp] theorem State.raise_power (i : Nat) : (s.raise i).power = s.power := State.setFlag_power s Adr.HOST_IRQ i true
@[simp] theorem State.raise_pack (i : Nat) : (s.raise i).pack = s.pack := State.setFlag_pack s Adr.HOST_IRQ i true
@[simp] theorem State.raise_flt (i : Nat) : (s.raise i).flt = s.flt := State.setFlag_flt s Adr.HOST_IRQ i true
@[simp] theorem State.raise_host (i : Nat) : (s.raise i).host = s.host := State.setFlag_host s Adr.HOST_IRQ i true

/-! ### State.draw -/

@[simp] theorem State.draw_pending : (s.draw.2).pending = s.pending := rfl
@[simp] theorem State.draw_fresh : (s.draw.2).fresh = s.fresh + 1 := rfl
@[simp] theorem State.draw_time : (s.draw.2).time = s.time := rfl
@[simp] theorem State.draw_sub : (s.draw.2).sub = s.sub := rfl
@[simp] theorem State.draw_clk : (s.draw.2).clk = s.clk := rfl
@[simp] theorem State.draw_phase : (s.draw.2).phase = s.phase := rfl
@[simp] theorem State.draw_regs : (s.draw.2).regs = s.regs := rfl
@[simp] theorem State.draw_basin : (s.draw.2).basin = s.basin := rfl
@[simp] theorem State.draw_disp : (s.draw.2).disp = s.disp := rfl
@[simp] theorem State.draw_cores : (s.draw.2).cores = s.cores := rfl
@[simp] theorem State.draw_lram : (s.draw.2).lram = s.lram := rfl
@[simp] theorem State.draw_lramEcc : (s.draw.2).lramEcc = s.lramEcc := rfl
@[simp] theorem State.draw_voice : (s.draw.2).voice = s.voice := rfl
@[simp] theorem State.draw_spe : (s.draw.2).spe = s.spe := rfl
@[simp] theorem State.draw_trail : (s.draw.2).trail = s.trail := rfl
@[simp] theorem State.draw_aports : (s.draw.2).aports = s.aports := rfl
@[simp] theorem State.draw_ana : (s.draw.2).ana = s.ana := rfl
@[simp] theorem State.draw_ser : (s.draw.2).ser = s.ser := rfl
@[simp] theorem State.draw_tmr : (s.draw.2).tmr = s.tmr := rfl
@[simp] theorem State.draw_power : (s.draw.2).power = s.power := rfl
@[simp] theorem State.draw_pack : (s.draw.2).pack = s.pack := rfl
@[simp] theorem State.draw_flt : (s.draw.2).flt = s.flt := rfl
@[simp] theorem State.draw_host : (s.draw.2).host = s.host := rfl

/-! ### State.setRing -/

@[simp] theorem State.setRing_pending (q : Nat) (r : SrcRing) : (s.setRing q r).pending = s.pending := rfl
@[simp] theorem State.setRing_fresh (q : Nat) (r : SrcRing) : (s.setRing q r).fresh = s.fresh := rfl
@[simp] theorem State.setRing_time (q : Nat) (r : SrcRing) : (s.setRing q r).time = s.time := rfl
@[simp] theorem State.setRing_sub (q : Nat) (r : SrcRing) : (s.setRing q r).sub = s.sub := rfl
@[simp] theorem State.setRing_clk (q : Nat) (r : SrcRing) : (s.setRing q r).clk = s.clk := rfl
@[simp] theorem State.setRing_phase (q : Nat) (r : SrcRing) : (s.setRing q r).phase = s.phase := rfl
@[simp] theorem State.setRing_regs (q : Nat) (r : SrcRing) : (s.setRing q r).regs = s.regs := rfl
@[simp] theorem State.setRing_basin (q : Nat) (r : SrcRing) : (s.setRing q r).basin = s.basin := rfl
@[simp] theorem State.setRing_disp (q : Nat) (r : SrcRing) : (s.setRing q r).disp = { s.disp with rings := s.disp.rings.set q r } := rfl
@[simp] theorem State.setRing_cores (q : Nat) (r : SrcRing) : (s.setRing q r).cores = s.cores := rfl
@[simp] theorem State.setRing_lram (q : Nat) (r : SrcRing) : (s.setRing q r).lram = s.lram := rfl
@[simp] theorem State.setRing_lramEcc (q : Nat) (r : SrcRing) : (s.setRing q r).lramEcc = s.lramEcc := rfl
@[simp] theorem State.setRing_voice (q : Nat) (r : SrcRing) : (s.setRing q r).voice = s.voice := rfl
@[simp] theorem State.setRing_spe (q : Nat) (r : SrcRing) : (s.setRing q r).spe = s.spe := rfl
@[simp] theorem State.setRing_trail (q : Nat) (r : SrcRing) : (s.setRing q r).trail = s.trail := rfl
@[simp] theorem State.setRing_aports (q : Nat) (r : SrcRing) : (s.setRing q r).aports = s.aports := rfl
@[simp] theorem State.setRing_ana (q : Nat) (r : SrcRing) : (s.setRing q r).ana = s.ana := rfl
@[simp] theorem State.setRing_ser (q : Nat) (r : SrcRing) : (s.setRing q r).ser = s.ser := rfl
@[simp] theorem State.setRing_tmr (q : Nat) (r : SrcRing) : (s.setRing q r).tmr = s.tmr := rfl
@[simp] theorem State.setRing_power (q : Nat) (r : SrcRing) : (s.setRing q r).power = s.power := rfl
@[simp] theorem State.setRing_pack (q : Nat) (r : SrcRing) : (s.setRing q r).pack = s.pack := rfl
@[simp] theorem State.setRing_flt (q : Nat) (r : SrcRing) : (s.setRing q r).flt = s.flt := rfl
@[simp] theorem State.setRing_host (q : Nat) (r : SrcRing) : (s.setRing q r).host = s.host := rfl

/-! ### State.setDesc -/

@[simp] theorem State.setDesc_pending (i : Nat) (d : Desc) : (s.setDesc i d).pending = s.pending := rfl
@[simp] theorem State.setDesc_fresh (i : Nat) (d : Desc) : (s.setDesc i d).fresh = s.fresh := rfl
@[simp] theorem State.setDesc_time (i : Nat) (d : Desc) : (s.setDesc i d).time = s.time := rfl
@[simp] theorem State.setDesc_sub (i : Nat) (d : Desc) : (s.setDesc i d).sub = s.sub := rfl
@[simp] theorem State.setDesc_clk (i : Nat) (d : Desc) : (s.setDesc i d).clk = s.clk := rfl
@[simp] theorem State.setDesc_phase (i : Nat) (d : Desc) : (s.setDesc i d).phase = s.phase := rfl
@[simp] theorem State.setDesc_regs (i : Nat) (d : Desc) : (s.setDesc i d).regs = s.regs := rfl
@[simp] theorem State.setDesc_basin (i : Nat) (d : Desc) : (s.setDesc i d).basin = s.basin := rfl
@[simp] theorem State.setDesc_disp (i : Nat) (d : Desc) : (s.setDesc i d).disp = { s.disp with desc := Sp.put (fun _ => Desc.free) s.disp.desc i d } := rfl
@[simp] theorem State.setDesc_cores (i : Nat) (d : Desc) : (s.setDesc i d).cores = s.cores := rfl
@[simp] theorem State.setDesc_lram (i : Nat) (d : Desc) : (s.setDesc i d).lram = s.lram := rfl
@[simp] theorem State.setDesc_lramEcc (i : Nat) (d : Desc) : (s.setDesc i d).lramEcc = s.lramEcc := rfl
@[simp] theorem State.setDesc_voice (i : Nat) (d : Desc) : (s.setDesc i d).voice = s.voice := rfl
@[simp] theorem State.setDesc_spe (i : Nat) (d : Desc) : (s.setDesc i d).spe = s.spe := rfl
@[simp] theorem State.setDesc_trail (i : Nat) (d : Desc) : (s.setDesc i d).trail = s.trail := rfl
@[simp] theorem State.setDesc_aports (i : Nat) (d : Desc) : (s.setDesc i d).aports = s.aports := rfl
@[simp] theorem State.setDesc_ana (i : Nat) (d : Desc) : (s.setDesc i d).ana = s.ana := rfl
@[simp] theorem State.setDesc_ser (i : Nat) (d : Desc) : (s.setDesc i d).ser = s.ser := rfl
@[simp] theorem State.setDesc_tmr (i : Nat) (d : Desc) : (s.setDesc i d).tmr = s.tmr := rfl
@[simp] theorem State.setDesc_power (i : Nat) (d : Desc) : (s.setDesc i d).power = s.power := rfl
@[simp] theorem State.setDesc_pack (i : Nat) (d : Desc) : (s.setDesc i d).pack = s.pack := rfl
@[simp] theorem State.setDesc_flt (i : Nat) (d : Desc) : (s.setDesc i d).flt = s.flt := rfl
@[simp] theorem State.setDesc_host (i : Nat) (d : Desc) : (s.setDesc i d).host = s.host := rfl

/-! ### State.setCore -/

@[simp] theorem State.setCore_pending (k : Nat) (c : Core) : (s.setCore k c).pending = s.pending := rfl
@[simp] theorem State.setCore_fresh (k : Nat) (c : Core) : (s.setCore k c).fresh = s.fresh := rfl
@[simp] theorem State.setCore_time (k : Nat) (c : Core) : (s.setCore k c).time = s.time := rfl
@[simp] theorem State.setCore_sub (k : Nat) (c : Core) : (s.setCore k c).sub = s.sub := rfl
@[simp] theorem State.setCore_clk (k : Nat) (c : Core) : (s.setCore k c).clk = s.clk := rfl
@[simp] theorem State.setCore_phase (k : Nat) (c : Core) : (s.setCore k c).phase = s.phase := rfl
@[simp] theorem State.setCore_regs (k : Nat) (c : Core) : (s.setCore k c).regs = s.regs := rfl
@[simp] theorem State.setCore_basin (k : Nat) (c : Core) : (s.setCore k c).basin = s.basin := rfl
@[simp] theorem State.setCore_disp (k : Nat) (c : Core) : (s.setCore k c).disp = s.disp := rfl
@[simp] theorem State.setCore_cores (k : Nat) (c : Core) : (s.setCore k c).cores = s.cores.set k c := rfl
@[simp] theorem State.setCore_lram (k : Nat) (c : Core) : (s.setCore k c).lram = s.lram := rfl
@[simp] theorem State.setCore_lramEcc (k : Nat) (c : Core) : (s.setCore k c).lramEcc = s.lramEcc := rfl
@[simp] theorem State.setCore_voice (k : Nat) (c : Core) : (s.setCore k c).voice = s.voice := rfl
@[simp] theorem State.setCore_spe (k : Nat) (c : Core) : (s.setCore k c).spe = s.spe := rfl
@[simp] theorem State.setCore_trail (k : Nat) (c : Core) : (s.setCore k c).trail = s.trail := rfl
@[simp] theorem State.setCore_aports (k : Nat) (c : Core) : (s.setCore k c).aports = s.aports := rfl
@[simp] theorem State.setCore_ana (k : Nat) (c : Core) : (s.setCore k c).ana = s.ana := rfl
@[simp] theorem State.setCore_ser (k : Nat) (c : Core) : (s.setCore k c).ser = s.ser := rfl
@[simp] theorem State.setCore_tmr (k : Nat) (c : Core) : (s.setCore k c).tmr = s.tmr := rfl
@[simp] theorem State.setCore_power (k : Nat) (c : Core) : (s.setCore k c).power = s.power := rfl
@[simp] theorem State.setCore_pack (k : Nat) (c : Core) : (s.setCore k c).pack = s.pack := rfl
@[simp] theorem State.setCore_flt (k : Nat) (c : Core) : (s.setCore k c).flt = s.flt := rfl
@[simp] theorem State.setCore_host (k : Nat) (c : Core) : (s.setCore k c).host = s.host := rfl

/-! ### State.setSpe -/

@[simp] theorem State.setSpe_pending (f : Spe → Spe) : (s.setSpe f).pending = s.pending := rfl
@[simp] theorem State.setSpe_fresh (f : Spe → Spe) : (s.setSpe f).fresh = s.fresh := rfl
@[simp] theorem State.setSpe_time (f : Spe → Spe) : (s.setSpe f).time = s.time := rfl
@[simp] theorem State.setSpe_sub (f : Spe → Spe) : (s.setSpe f).sub = s.sub := rfl
@[simp] theorem State.setSpe_clk (f : Spe → Spe) : (s.setSpe f).clk = s.clk := rfl
@[simp] theorem State.setSpe_phase (f : Spe → Spe) : (s.setSpe f).phase = s.phase := rfl
@[simp] theorem State.setSpe_regs (f : Spe → Spe) : (s.setSpe f).regs = s.regs := rfl
@[simp] theorem State.setSpe_basin (f : Spe → Spe) : (s.setSpe f).basin = s.basin := rfl
@[simp] theorem State.setSpe_disp (f : Spe → Spe) : (s.setSpe f).disp = s.disp := rfl
@[simp] theorem State.setSpe_cores (f : Spe → Spe) : (s.setSpe f).cores = s.cores := rfl
@[simp] theorem State.setSpe_lram (f : Spe → Spe) : (s.setSpe f).lram = s.lram := rfl
@[simp] theorem State.setSpe_lramEcc (f : Spe → Spe) : (s.setSpe f).lramEcc = s.lramEcc := rfl
@[simp] theorem State.setSpe_voice (f : Spe → Spe) : (s.setSpe f).voice = s.voice := rfl
@[simp] theorem State.setSpe_spe (f : Spe → Spe) : (s.setSpe f).spe = f s.spe := rfl
@[simp] theorem State.setSpe_trail (f : Spe → Spe) : (s.setSpe f).trail = s.trail := rfl
@[simp] theorem State.setSpe_aports (f : Spe → Spe) : (s.setSpe f).aports = s.aports := rfl
@[simp] theorem State.setSpe_ana (f : Spe → Spe) : (s.setSpe f).ana = s.ana := rfl
@[simp] theorem State.setSpe_ser (f : Spe → Spe) : (s.setSpe f).ser = s.ser := rfl
@[simp] theorem State.setSpe_tmr (f : Spe → Spe) : (s.setSpe f).tmr = s.tmr := rfl
@[simp] theorem State.setSpe_power (f : Spe → Spe) : (s.setSpe f).power = s.power := rfl
@[simp] theorem State.setSpe_pack (f : Spe → Spe) : (s.setSpe f).pack = s.pack := rfl
@[simp] theorem State.setSpe_flt (f : Spe → Spe) : (s.setSpe f).flt = s.flt := rfl
@[simp] theorem State.setSpe_host (f : Spe → Spe) : (s.setSpe f).host = s.host := rfl

/-! ### State.setTrail -/

@[simp] theorem State.setTrail_pending (f : Trail → Trail) : (s.setTrail f).pending = s.pending := rfl
@[simp] theorem State.setTrail_fresh (f : Trail → Trail) : (s.setTrail f).fresh = s.fresh := rfl
@[simp] theorem State.setTrail_time (f : Trail → Trail) : (s.setTrail f).time = s.time := rfl
@[simp] theorem State.setTrail_sub (f : Trail → Trail) : (s.setTrail f).sub = s.sub := rfl
@[simp] theorem State.setTrail_clk (f : Trail → Trail) : (s.setTrail f).clk = s.clk := rfl
@[simp] theorem State.setTrail_phase (f : Trail → Trail) : (s.setTrail f).phase = s.phase := rfl
@[simp] theorem State.setTrail_regs (f : Trail → Trail) : (s.setTrail f).regs = s.regs := rfl
@[simp] theorem State.setTrail_basin (f : Trail → Trail) : (s.setTrail f).basin = s.basin := rfl
@[simp] theorem State.setTrail_disp (f : Trail → Trail) : (s.setTrail f).disp = s.disp := rfl
@[simp] theorem State.setTrail_cores (f : Trail → Trail) : (s.setTrail f).cores = s.cores := rfl
@[simp] theorem State.setTrail_lram (f : Trail → Trail) : (s.setTrail f).lram = s.lram := rfl
@[simp] theorem State.setTrail_lramEcc (f : Trail → Trail) : (s.setTrail f).lramEcc = s.lramEcc := rfl
@[simp] theorem State.setTrail_voice (f : Trail → Trail) : (s.setTrail f).voice = s.voice := rfl
@[simp] theorem State.setTrail_spe (f : Trail → Trail) : (s.setTrail f).spe = s.spe := rfl
@[simp] theorem State.setTrail_trail (f : Trail → Trail) : (s.setTrail f).trail = f s.trail := rfl
@[simp] theorem State.setTrail_aports (f : Trail → Trail) : (s.setTrail f).aports = s.aports := rfl
@[simp] theorem State.setTrail_ana (f : Trail → Trail) : (s.setTrail f).ana = s.ana := rfl
@[simp] theorem State.setTrail_ser (f : Trail → Trail) : (s.setTrail f).ser = s.ser := rfl
@[simp] theorem State.setTrail_tmr (f : Trail → Trail) : (s.setTrail f).tmr = s.tmr := rfl
@[simp] theorem State.setTrail_power (f : Trail → Trail) : (s.setTrail f).power = s.power := rfl
@[simp] theorem State.setTrail_pack (f : Trail → Trail) : (s.setTrail f).pack = s.pack := rfl
@[simp] theorem State.setTrail_flt (f : Trail → Trail) : (s.setTrail f).flt = s.flt := rfl
@[simp] theorem State.setTrail_host (f : Trail → Trail) : (s.setTrail f).host = s.host := rfl

/-! ### State.setAport -/

@[simp] theorem State.setAport_pending (p : Nat) (f : APort → APort) : (s.setAport p f).pending = s.pending := rfl
@[simp] theorem State.setAport_fresh (p : Nat) (f : APort → APort) : (s.setAport p f).fresh = s.fresh := rfl
@[simp] theorem State.setAport_time (p : Nat) (f : APort → APort) : (s.setAport p f).time = s.time := rfl
@[simp] theorem State.setAport_sub (p : Nat) (f : APort → APort) : (s.setAport p f).sub = s.sub := rfl
@[simp] theorem State.setAport_clk (p : Nat) (f : APort → APort) : (s.setAport p f).clk = s.clk := rfl
@[simp] theorem State.setAport_phase (p : Nat) (f : APort → APort) : (s.setAport p f).phase = s.phase := rfl
@[simp] theorem State.setAport_regs (p : Nat) (f : APort → APort) : (s.setAport p f).regs = s.regs := rfl
@[simp] theorem State.setAport_basin (p : Nat) (f : APort → APort) : (s.setAport p f).basin = s.basin := rfl
@[simp] theorem State.setAport_disp (p : Nat) (f : APort → APort) : (s.setAport p f).disp = s.disp := rfl
@[simp] theorem State.setAport_cores (p : Nat) (f : APort → APort) : (s.setAport p f).cores = s.cores := rfl
@[simp] theorem State.setAport_lram (p : Nat) (f : APort → APort) : (s.setAport p f).lram = s.lram := rfl
@[simp] theorem State.setAport_lramEcc (p : Nat) (f : APort → APort) : (s.setAport p f).lramEcc = s.lramEcc := rfl
@[simp] theorem State.setAport_voice (p : Nat) (f : APort → APort) : (s.setAport p f).voice = s.voice := rfl
@[simp] theorem State.setAport_spe (p : Nat) (f : APort → APort) : (s.setAport p f).spe = s.spe := rfl
@[simp] theorem State.setAport_trail (p : Nat) (f : APort → APort) : (s.setAport p f).trail = s.trail := rfl
@[simp] theorem State.setAport_aports (p : Nat) (f : APort → APort) : (s.setAport p f).aports = { s.aports with ports := s.aports.ports.set p (f (s.aport p)) } := rfl
@[simp] theorem State.setAport_ana (p : Nat) (f : APort → APort) : (s.setAport p f).ana = s.ana := rfl
@[simp] theorem State.setAport_ser (p : Nat) (f : APort → APort) : (s.setAport p f).ser = s.ser := rfl
@[simp] theorem State.setAport_tmr (p : Nat) (f : APort → APort) : (s.setAport p f).tmr = s.tmr := rfl
@[simp] theorem State.setAport_power (p : Nat) (f : APort → APort) : (s.setAport p f).power = s.power := rfl
@[simp] theorem State.setAport_pack (p : Nat) (f : APort → APort) : (s.setAport p f).pack = s.pack := rfl
@[simp] theorem State.setAport_flt (p : Nat) (f : APort → APort) : (s.setAport p f).flt = s.flt := rfl
@[simp] theorem State.setAport_host (p : Nat) (f : APort → APort) : (s.setAport p f).host = s.host := rfl

/-! ### State.setDac -/

@[simp] theorem State.setDac_pending (c : Nat) (d : Dac) : (s.setDac c d).pending = s.pending := rfl
@[simp] theorem State.setDac_fresh (c : Nat) (d : Dac) : (s.setDac c d).fresh = s.fresh := rfl
@[simp] theorem State.setDac_time (c : Nat) (d : Dac) : (s.setDac c d).time = s.time := rfl
@[simp] theorem State.setDac_sub (c : Nat) (d : Dac) : (s.setDac c d).sub = s.sub := rfl
@[simp] theorem State.setDac_clk (c : Nat) (d : Dac) : (s.setDac c d).clk = s.clk := rfl
@[simp] theorem State.setDac_phase (c : Nat) (d : Dac) : (s.setDac c d).phase = s.phase := rfl
@[simp] theorem State.setDac_regs (c : Nat) (d : Dac) : (s.setDac c d).regs = s.regs := rfl
@[simp] theorem State.setDac_basin (c : Nat) (d : Dac) : (s.setDac c d).basin = s.basin := rfl
@[simp] theorem State.setDac_disp (c : Nat) (d : Dac) : (s.setDac c d).disp = s.disp := rfl
@[simp] theorem State.setDac_cores (c : Nat) (d : Dac) : (s.setDac c d).cores = s.cores := rfl
@[simp] theorem State.setDac_lram (c : Nat) (d : Dac) : (s.setDac c d).lram = s.lram := rfl
@[simp] theorem State.setDac_lramEcc (c : Nat) (d : Dac) : (s.setDac c d).lramEcc = s.lramEcc := rfl
@[simp] theorem State.setDac_voice (c : Nat) (d : Dac) : (s.setDac c d).voice = s.voice := rfl
@[simp] theorem State.setDac_spe (c : Nat) (d : Dac) : (s.setDac c d).spe = s.spe := rfl
@[simp] theorem State.setDac_trail (c : Nat) (d : Dac) : (s.setDac c d).trail = s.trail := rfl
@[simp] theorem State.setDac_aports (c : Nat) (d : Dac) : (s.setDac c d).aports = s.aports := rfl
@[simp] theorem State.setDac_ana (c : Nat) (d : Dac) : (s.setDac c d).ana = { s.ana with dacs := s.ana.dacs.set c d } := rfl
@[simp] theorem State.setDac_ser (c : Nat) (d : Dac) : (s.setDac c d).ser = s.ser := rfl
@[simp] theorem State.setDac_tmr (c : Nat) (d : Dac) : (s.setDac c d).tmr = s.tmr := rfl
@[simp] theorem State.setDac_power (c : Nat) (d : Dac) : (s.setDac c d).power = s.power := rfl
@[simp] theorem State.setDac_pack (c : Nat) (d : Dac) : (s.setDac c d).pack = s.pack := rfl
@[simp] theorem State.setDac_flt (c : Nat) (d : Dac) : (s.setDac c d).flt = s.flt := rfl
@[simp] theorem State.setDac_host (c : Nat) (d : Dac) : (s.setDac c d).host = s.host := rfl

/-! ### State.setCout -/

@[simp] theorem State.setCout_pending (c : Nat) (d : Cout) : (s.setCout c d).pending = s.pending := rfl
@[simp] theorem State.setCout_fresh (c : Nat) (d : Cout) : (s.setCout c d).fresh = s.fresh := rfl
@[simp] theorem State.setCout_time (c : Nat) (d : Cout) : (s.setCout c d).time = s.time := rfl
@[simp] theorem State.setCout_sub (c : Nat) (d : Cout) : (s.setCout c d).sub = s.sub := rfl
@[simp] theorem State.setCout_clk (c : Nat) (d : Cout) : (s.setCout c d).clk = s.clk := rfl
@[simp] theorem State.setCout_phase (c : Nat) (d : Cout) : (s.setCout c d).phase = s.phase := rfl
@[simp] theorem State.setCout_regs (c : Nat) (d : Cout) : (s.setCout c d).regs = s.regs := rfl
@[simp] theorem State.setCout_basin (c : Nat) (d : Cout) : (s.setCout c d).basin = s.basin := rfl
@[simp] theorem State.setCout_disp (c : Nat) (d : Cout) : (s.setCout c d).disp = s.disp := rfl
@[simp] theorem State.setCout_cores (c : Nat) (d : Cout) : (s.setCout c d).cores = s.cores := rfl
@[simp] theorem State.setCout_lram (c : Nat) (d : Cout) : (s.setCout c d).lram = s.lram := rfl
@[simp] theorem State.setCout_lramEcc (c : Nat) (d : Cout) : (s.setCout c d).lramEcc = s.lramEcc := rfl
@[simp] theorem State.setCout_voice (c : Nat) (d : Cout) : (s.setCout c d).voice = s.voice := rfl
@[simp] theorem State.setCout_spe (c : Nat) (d : Cout) : (s.setCout c d).spe = s.spe := rfl
@[simp] theorem State.setCout_trail (c : Nat) (d : Cout) : (s.setCout c d).trail = s.trail := rfl
@[simp] theorem State.setCout_aports (c : Nat) (d : Cout) : (s.setCout c d).aports = s.aports := rfl
@[simp] theorem State.setCout_ana (c : Nat) (d : Cout) : (s.setCout c d).ana = { s.ana with couts := s.ana.couts.set c d } := rfl
@[simp] theorem State.setCout_ser (c : Nat) (d : Cout) : (s.setCout c d).ser = s.ser := rfl
@[simp] theorem State.setCout_tmr (c : Nat) (d : Cout) : (s.setCout c d).tmr = s.tmr := rfl
@[simp] theorem State.setCout_power (c : Nat) (d : Cout) : (s.setCout c d).power = s.power := rfl
@[simp] theorem State.setCout_pack (c : Nat) (d : Cout) : (s.setCout c d).pack = s.pack := rfl
@[simp] theorem State.setCout_flt (c : Nat) (d : Cout) : (s.setCout c d).flt = s.flt := rfl
@[simp] theorem State.setCout_host (c : Nat) (d : Cout) : (s.setCout c d).host = s.host := rfl

/-! ### State.setSerp -/

@[simp] theorem State.setSerp_pending (n : Nat) (f : SerPort → SerPort) : (s.setSerp n f).pending = s.pending := rfl
@[simp] theorem State.setSerp_fresh (n : Nat) (f : SerPort → SerPort) : (s.setSerp n f).fresh = s.fresh := rfl
@[simp] theorem State.setSerp_time (n : Nat) (f : SerPort → SerPort) : (s.setSerp n f).time = s.time := rfl
@[simp] theorem State.setSerp_sub (n : Nat) (f : SerPort → SerPort) : (s.setSerp n f).sub = s.sub := rfl
@[simp] theorem State.setSerp_clk (n : Nat) (f : SerPort → SerPort) : (s.setSerp n f).clk = s.clk := rfl
@[simp] theorem State.setSerp_phase (n : Nat) (f : SerPort → SerPort) : (s.setSerp n f).phase = s.phase := rfl
@[simp] theorem State.setSerp_regs (n : Nat) (f : SerPort → SerPort) : (s.setSerp n f).regs = s.regs := rfl
@[simp] theorem State.setSerp_basin (n : Nat) (f : SerPort → SerPort) : (s.setSerp n f).basin = s.basin := rfl
@[simp] theorem State.setSerp_disp (n : Nat) (f : SerPort → SerPort) : (s.setSerp n f).disp = s.disp := rfl
@[simp] theorem State.setSerp_cores (n : Nat) (f : SerPort → SerPort) : (s.setSerp n f).cores = s.cores := rfl
@[simp] theorem State.setSerp_lram (n : Nat) (f : SerPort → SerPort) : (s.setSerp n f).lram = s.lram := rfl
@[simp] theorem State.setSerp_lramEcc (n : Nat) (f : SerPort → SerPort) : (s.setSerp n f).lramEcc = s.lramEcc := rfl
@[simp] theorem State.setSerp_voice (n : Nat) (f : SerPort → SerPort) : (s.setSerp n f).voice = s.voice := rfl
@[simp] theorem State.setSerp_spe (n : Nat) (f : SerPort → SerPort) : (s.setSerp n f).spe = s.spe := rfl
@[simp] theorem State.setSerp_trail (n : Nat) (f : SerPort → SerPort) : (s.setSerp n f).trail = s.trail := rfl
@[simp] theorem State.setSerp_aports (n : Nat) (f : SerPort → SerPort) : (s.setSerp n f).aports = s.aports := rfl
@[simp] theorem State.setSerp_ana (n : Nat) (f : SerPort → SerPort) : (s.setSerp n f).ana = s.ana := rfl
@[simp] theorem State.setSerp_ser (n : Nat) (f : SerPort → SerPort) : (s.setSerp n f).ser = s.ser.set n (f (s.serp n)) := rfl
@[simp] theorem State.setSerp_tmr (n : Nat) (f : SerPort → SerPort) : (s.setSerp n f).tmr = s.tmr := rfl
@[simp] theorem State.setSerp_power (n : Nat) (f : SerPort → SerPort) : (s.setSerp n f).power = s.power := rfl
@[simp] theorem State.setSerp_pack (n : Nat) (f : SerPort → SerPort) : (s.setSerp n f).pack = s.pack := rfl
@[simp] theorem State.setSerp_flt (n : Nat) (f : SerPort → SerPort) : (s.setSerp n f).flt = s.flt := rfl
@[simp] theorem State.setSerp_host (n : Nat) (f : SerPort → SerPort) : (s.setSerp n f).host = s.host := rfl

/-! ### State.setTch -/

@[simp] theorem State.setTch_pending (n : Nat) (f : Tmr → Tmr) : (s.setTch n f).pending = s.pending := rfl
@[simp] theorem State.setTch_fresh (n : Nat) (f : Tmr → Tmr) : (s.setTch n f).fresh = s.fresh := rfl
@[simp] theorem State.setTch_time (n : Nat) (f : Tmr → Tmr) : (s.setTch n f).time = s.time := rfl
@[simp] theorem State.setTch_sub (n : Nat) (f : Tmr → Tmr) : (s.setTch n f).sub = s.sub := rfl
@[simp] theorem State.setTch_clk (n : Nat) (f : Tmr → Tmr) : (s.setTch n f).clk = s.clk := rfl
@[simp] theorem State.setTch_phase (n : Nat) (f : Tmr → Tmr) : (s.setTch n f).phase = s.phase := rfl
@[simp] theorem State.setTch_regs (n : Nat) (f : Tmr → Tmr) : (s.setTch n f).regs = s.regs := rfl
@[simp] theorem State.setTch_basin (n : Nat) (f : Tmr → Tmr) : (s.setTch n f).basin = s.basin := rfl
@[simp] theorem State.setTch_disp (n : Nat) (f : Tmr → Tmr) : (s.setTch n f).disp = s.disp := rfl
@[simp] theorem State.setTch_cores (n : Nat) (f : Tmr → Tmr) : (s.setTch n f).cores = s.cores := rfl
@[simp] theorem State.setTch_lram (n : Nat) (f : Tmr → Tmr) : (s.setTch n f).lram = s.lram := rfl
@[simp] theorem State.setTch_lramEcc (n : Nat) (f : Tmr → Tmr) : (s.setTch n f).lramEcc = s.lramEcc := rfl
@[simp] theorem State.setTch_voice (n : Nat) (f : Tmr → Tmr) : (s.setTch n f).voice = s.voice := rfl
@[simp] theorem State.setTch_spe (n : Nat) (f : Tmr → Tmr) : (s.setTch n f).spe = s.spe := rfl
@[simp] theorem State.setTch_trail (n : Nat) (f : Tmr → Tmr) : (s.setTch n f).trail = s.trail := rfl
@[simp] theorem State.setTch_aports (n : Nat) (f : Tmr → Tmr) : (s.setTch n f).aports = s.aports := rfl
@[simp] theorem State.setTch_ana (n : Nat) (f : Tmr → Tmr) : (s.setTch n f).ana = s.ana := rfl
@[simp] theorem State.setTch_ser (n : Nat) (f : Tmr → Tmr) : (s.setTch n f).ser = s.ser := rfl
@[simp] theorem State.setTch_tmr (n : Nat) (f : Tmr → Tmr) : (s.setTch n f).tmr = { s.tmr with chans := s.tmr.chans.set n (f (s.tch n)) } := rfl
@[simp] theorem State.setTch_power (n : Nat) (f : Tmr → Tmr) : (s.setTch n f).power = s.power := rfl
@[simp] theorem State.setTch_pack (n : Nat) (f : Tmr → Tmr) : (s.setTch n f).pack = s.pack := rfl
@[simp] theorem State.setTch_flt (n : Nat) (f : Tmr → Tmr) : (s.setTch n f).flt = s.flt := rfl
@[simp] theorem State.setTch_host (n : Nat) (f : Tmr → Tmr) : (s.setTch n f).host = s.host := rfl

/-! ### State.setPack -/

@[simp] theorem State.setPack_pending (f : Pack → Pack) : (s.setPack f).pending = s.pending := rfl
@[simp] theorem State.setPack_fresh (f : Pack → Pack) : (s.setPack f).fresh = s.fresh := rfl
@[simp] theorem State.setPack_time (f : Pack → Pack) : (s.setPack f).time = s.time := rfl
@[simp] theorem State.setPack_sub (f : Pack → Pack) : (s.setPack f).sub = s.sub := rfl
@[simp] theorem State.setPack_clk (f : Pack → Pack) : (s.setPack f).clk = s.clk := rfl
@[simp] theorem State.setPack_phase (f : Pack → Pack) : (s.setPack f).phase = s.phase := rfl
@[simp] theorem State.setPack_regs (f : Pack → Pack) : (s.setPack f).regs = s.regs := rfl
@[simp] theorem State.setPack_basin (f : Pack → Pack) : (s.setPack f).basin = s.basin := rfl
@[simp] theorem State.setPack_disp (f : Pack → Pack) : (s.setPack f).disp = s.disp := rfl
@[simp] theorem State.setPack_cores (f : Pack → Pack) : (s.setPack f).cores = s.cores := rfl
@[simp] theorem State.setPack_lram (f : Pack → Pack) : (s.setPack f).lram = s.lram := rfl
@[simp] theorem State.setPack_lramEcc (f : Pack → Pack) : (s.setPack f).lramEcc = s.lramEcc := rfl
@[simp] theorem State.setPack_voice (f : Pack → Pack) : (s.setPack f).voice = s.voice := rfl
@[simp] theorem State.setPack_spe (f : Pack → Pack) : (s.setPack f).spe = s.spe := rfl
@[simp] theorem State.setPack_trail (f : Pack → Pack) : (s.setPack f).trail = s.trail := rfl
@[simp] theorem State.setPack_aports (f : Pack → Pack) : (s.setPack f).aports = s.aports := rfl
@[simp] theorem State.setPack_ana (f : Pack → Pack) : (s.setPack f).ana = s.ana := rfl
@[simp] theorem State.setPack_ser (f : Pack → Pack) : (s.setPack f).ser = s.ser := rfl
@[simp] theorem State.setPack_tmr (f : Pack → Pack) : (s.setPack f).tmr = s.tmr := rfl
@[simp] theorem State.setPack_power (f : Pack → Pack) : (s.setPack f).power = s.power := rfl
@[simp] theorem State.setPack_pack (f : Pack → Pack) : (s.setPack f).pack = f s.pack := rfl
@[simp] theorem State.setPack_flt (f : Pack → Pack) : (s.setPack f).flt = s.flt := rfl
@[simp] theorem State.setPack_host (f : Pack → Pack) : (s.setPack f).host = s.host := rfl

/-! ### State.setVRun -/

@[simp] theorem State.setVRun_pending (v : Nat) (r : VRun) : (s.setVRun v r).pending = s.pending := rfl
@[simp] theorem State.setVRun_fresh (v : Nat) (r : VRun) : (s.setVRun v r).fresh = s.fresh := rfl
@[simp] theorem State.setVRun_time (v : Nat) (r : VRun) : (s.setVRun v r).time = s.time := rfl
@[simp] theorem State.setVRun_sub (v : Nat) (r : VRun) : (s.setVRun v r).sub = s.sub := rfl
@[simp] theorem State.setVRun_clk (v : Nat) (r : VRun) : (s.setVRun v r).clk = s.clk := rfl
@[simp] theorem State.setVRun_phase (v : Nat) (r : VRun) : (s.setVRun v r).phase = s.phase := rfl
@[simp] theorem State.setVRun_regs (v : Nat) (r : VRun) : (s.setVRun v r).regs = s.regs := rfl
@[simp] theorem State.setVRun_basin (v : Nat) (r : VRun) : (s.setVRun v r).basin = s.basin := rfl
@[simp] theorem State.setVRun_disp (v : Nat) (r : VRun) : (s.setVRun v r).disp = s.disp := rfl
@[simp] theorem State.setVRun_cores (v : Nat) (r : VRun) : (s.setVRun v r).cores = s.cores := rfl
@[simp] theorem State.setVRun_lram (v : Nat) (r : VRun) : (s.setVRun v r).lram = s.lram := rfl
@[simp] theorem State.setVRun_lramEcc (v : Nat) (r : VRun) : (s.setVRun v r).lramEcc = s.lramEcc := rfl
@[simp] theorem State.setVRun_spe (v : Nat) (r : VRun) : (s.setVRun v r).spe = s.spe := rfl
@[simp] theorem State.setVRun_trail (v : Nat) (r : VRun) : (s.setVRun v r).trail = s.trail := rfl
@[simp] theorem State.setVRun_aports (v : Nat) (r : VRun) : (s.setVRun v r).aports = s.aports := rfl
@[simp] theorem State.setVRun_ana (v : Nat) (r : VRun) : (s.setVRun v r).ana = s.ana := rfl
@[simp] theorem State.setVRun_ser (v : Nat) (r : VRun) : (s.setVRun v r).ser = s.ser := rfl
@[simp] theorem State.setVRun_tmr (v : Nat) (r : VRun) : (s.setVRun v r).tmr = s.tmr := rfl
@[simp] theorem State.setVRun_power (v : Nat) (r : VRun) : (s.setVRun v r).power = s.power := rfl
@[simp] theorem State.setVRun_pack (v : Nat) (r : VRun) : (s.setVRun v r).pack = s.pack := rfl
@[simp] theorem State.setVRun_flt (v : Nat) (r : VRun) : (s.setVRun v r).flt = s.flt := rfl
@[simp] theorem State.setVRun_host (v : Nat) (r : VRun) : (s.setVRun v r).host = s.host := rfl

/-! ### State.noteErr -/

@[simp] theorem State.noteErr_pending (u : Nat) : (s.noteErr u).pending = s.pending := rfl
@[simp] theorem State.noteErr_fresh (u : Nat) : (s.noteErr u).fresh = s.fresh := rfl
@[simp] theorem State.noteErr_time (u : Nat) : (s.noteErr u).time = s.time := rfl
@[simp] theorem State.noteErr_sub (u : Nat) : (s.noteErr u).sub = s.sub := rfl
@[simp] theorem State.noteErr_clk (u : Nat) : (s.noteErr u).clk = s.clk := rfl
@[simp] theorem State.noteErr_phase (u : Nat) : (s.noteErr u).phase = s.phase := rfl
@[simp] theorem State.noteErr_regs (u : Nat) : (s.noteErr u).regs = s.regs := rfl
@[simp] theorem State.noteErr_basin (u : Nat) : (s.noteErr u).basin = s.basin := rfl
@[simp] theorem State.noteErr_disp (u : Nat) : (s.noteErr u).disp = s.disp := rfl
@[simp] theorem State.noteErr_cores (u : Nat) : (s.noteErr u).cores = s.cores := rfl
@[simp] theorem State.noteErr_lram (u : Nat) : (s.noteErr u).lram = s.lram := rfl
@[simp] theorem State.noteErr_lramEcc (u : Nat) : (s.noteErr u).lramEcc = s.lramEcc := rfl
@[simp] theorem State.noteErr_voice (u : Nat) : (s.noteErr u).voice = s.voice := rfl
@[simp] theorem State.noteErr_spe (u : Nat) : (s.noteErr u).spe = s.spe := rfl
@[simp] theorem State.noteErr_trail (u : Nat) : (s.noteErr u).trail = s.trail := rfl
@[simp] theorem State.noteErr_aports (u : Nat) : (s.noteErr u).aports = s.aports := rfl
@[simp] theorem State.noteErr_ana (u : Nat) : (s.noteErr u).ana = s.ana := rfl
@[simp] theorem State.noteErr_ser (u : Nat) : (s.noteErr u).ser = s.ser := rfl
@[simp] theorem State.noteErr_tmr (u : Nat) : (s.noteErr u).tmr = s.tmr := rfl
@[simp] theorem State.noteErr_power (u : Nat) : (s.noteErr u).power = s.power := rfl
@[simp] theorem State.noteErr_pack (u : Nat) : (s.noteErr u).pack = s.pack := rfl
@[simp] theorem State.noteErr_flt (u : Nat) : (s.noteErr u).flt = { s.flt with errs := s.flt.errs ++ [u] } := rfl
@[simp] theorem State.noteErr_host (u : Nat) : (s.noteErr u).host = s.host := rfl

/-! ### State.queued -/

@[simp] theorem State.queued_pending (q : List Instr) : (s.queued q).pending = q := rfl
@[simp] theorem State.queued_fresh (q : List Instr) : (s.queued q).fresh = s.fresh := rfl
@[simp] theorem State.queued_time (q : List Instr) : (s.queued q).time = s.time := rfl
@[simp] theorem State.queued_sub (q : List Instr) : (s.queued q).sub = s.sub := rfl
@[simp] theorem State.queued_clk (q : List Instr) : (s.queued q).clk = s.clk := rfl
@[simp] theorem State.queued_phase (q : List Instr) : (s.queued q).phase = s.phase := rfl
@[simp] theorem State.queued_regs (q : List Instr) : (s.queued q).regs = s.regs := rfl
@[simp] theorem State.queued_basin (q : List Instr) : (s.queued q).basin = s.basin := rfl
@[simp] theorem State.queued_disp (q : List Instr) : (s.queued q).disp = s.disp := rfl
@[simp] theorem State.queued_cores (q : List Instr) : (s.queued q).cores = s.cores := rfl
@[simp] theorem State.queued_lram (q : List Instr) : (s.queued q).lram = s.lram := rfl
@[simp] theorem State.queued_lramEcc (q : List Instr) : (s.queued q).lramEcc = s.lramEcc := rfl
@[simp] theorem State.queued_voice (q : List Instr) : (s.queued q).voice = s.voice := rfl
@[simp] theorem State.queued_spe (q : List Instr) : (s.queued q).spe = s.spe := rfl
@[simp] theorem State.queued_trail (q : List Instr) : (s.queued q).trail = s.trail := rfl
@[simp] theorem State.queued_aports (q : List Instr) : (s.queued q).aports = s.aports := rfl
@[simp] theorem State.queued_ana (q : List Instr) : (s.queued q).ana = s.ana := rfl
@[simp] theorem State.queued_ser (q : List Instr) : (s.queued q).ser = s.ser := rfl
@[simp] theorem State.queued_tmr (q : List Instr) : (s.queued q).tmr = s.tmr := rfl
@[simp] theorem State.queued_power (q : List Instr) : (s.queued q).power = s.power := rfl
@[simp] theorem State.queued_pack (q : List Instr) : (s.queued q).pack = s.pack := rfl
@[simp] theorem State.queued_flt (q : List Instr) : (s.queued q).flt = s.flt := rfl
@[simp] theorem State.queued_host (q : List Instr) : (s.queued q).host = s.host := rfl

/-! ### State.clean -/

@[simp] theorem State.clean_pending : (s.clean).pending = s.pending := rfl
@[simp] theorem State.clean_fresh : (s.clean).fresh = s.fresh := rfl
@[simp] theorem State.clean_time : (s.clean).time = s.time := rfl
@[simp] theorem State.clean_sub : (s.clean).sub = s.sub := rfl
@[simp] theorem State.clean_clk : (s.clean).clk = s.clk := rfl
@[simp] theorem State.clean_phase : (s.clean).phase = s.phase := rfl
@[simp] theorem State.clean_regs : (s.clean).regs = s.regs := rfl
@[simp] theorem State.clean_basin : (s.clean).basin = s.basin := rfl
@[simp] theorem State.clean_disp : (s.clean).disp = s.disp := rfl
@[simp] theorem State.clean_cores : (s.clean).cores = s.cores := rfl
@[simp] theorem State.clean_lram : (s.clean).lram = s.lram := rfl
@[simp] theorem State.clean_lramEcc : (s.clean).lramEcc = s.lramEcc := rfl
@[simp] theorem State.clean_voice : (s.clean).voice = s.voice := rfl
@[simp] theorem State.clean_spe : (s.clean).spe = s.spe := rfl
@[simp] theorem State.clean_trail : (s.clean).trail = s.trail := rfl
@[simp] theorem State.clean_aports : (s.clean).aports = s.aports := rfl
@[simp] theorem State.clean_ana : (s.clean).ana = s.ana := rfl
@[simp] theorem State.clean_ser : (s.clean).ser = s.ser := rfl
@[simp] theorem State.clean_tmr : (s.clean).tmr = s.tmr := rfl
@[simp] theorem State.clean_power : (s.clean).power = s.power := rfl
@[simp] theorem State.clean_pack : (s.clean).pack = s.pack := rfl
@[simp] theorem State.clean_flt : (s.clean).flt = { s.flt with errs := [] } := rfl
@[simp] theorem State.clean_host : (s.clean).host = s.host := rfl

/-! ### State.setGroup -/

@[simp] theorem State.setGroup_pending (g : WordGroup) : (s.setGroup g).pending = s.pending := rfl
@[simp] theorem State.setGroup_fresh (g : WordGroup) : (s.setGroup g).fresh = s.fresh := rfl
@[simp] theorem State.setGroup_time (g : WordGroup) : (s.setGroup g).time = s.time := rfl
@[simp] theorem State.setGroup_sub (g : WordGroup) : (s.setGroup g).sub = s.sub := rfl
@[simp] theorem State.setGroup_clk (g : WordGroup) : (s.setGroup g).clk = s.clk := rfl
@[simp] theorem State.setGroup_phase (g : WordGroup) : (s.setGroup g).phase = s.phase := rfl
@[simp] theorem State.setGroup_regs (g : WordGroup) : (s.setGroup g).regs = s.regs := rfl
@[simp] theorem State.setGroup_basin (g : WordGroup) : (s.setGroup g).basin = { s.basin with groups := g :: s.basin.groups.filter (fun h => h.clk = s.clk && h.word ≠ g.word) } := rfl
@[simp] theorem State.setGroup_disp (g : WordGroup) : (s.setGroup g).disp = s.disp := rfl
@[simp] theorem State.setGroup_cores (g : WordGroup) : (s.setGroup g).cores = s.cores := rfl
@[simp] theorem State.setGroup_lram (g : WordGroup) : (s.setGroup g).lram = s.lram := rfl
@[simp] theorem State.setGroup_lramEcc (g : WordGroup) : (s.setGroup g).lramEcc = s.lramEcc := rfl
@[simp] theorem State.setGroup_voice (g : WordGroup) : (s.setGroup g).voice = s.voice := rfl
@[simp] theorem State.setGroup_spe (g : WordGroup) : (s.setGroup g).spe = s.spe := rfl
@[simp] theorem State.setGroup_trail (g : WordGroup) : (s.setGroup g).trail = s.trail := rfl
@[simp] theorem State.setGroup_aports (g : WordGroup) : (s.setGroup g).aports = s.aports := rfl
@[simp] theorem State.setGroup_ana (g : WordGroup) : (s.setGroup g).ana = s.ana := rfl
@[simp] theorem State.setGroup_ser (g : WordGroup) : (s.setGroup g).ser = s.ser := rfl
@[simp] theorem State.setGroup_tmr (g : WordGroup) : (s.setGroup g).tmr = s.tmr := rfl
@[simp] theorem State.setGroup_power (g : WordGroup) : (s.setGroup g).power = s.power := rfl
@[simp] theorem State.setGroup_pack (g : WordGroup) : (s.setGroup g).pack = s.pack := rfl
@[simp] theorem State.setGroup_flt (g : WordGroup) : (s.setGroup g).flt = s.flt := rfl
@[simp] theorem State.setGroup_host (g : WordGroup) : (s.setGroup g).host = s.host := rfl

/-! ### State.correctRams and State.lramPut -/

/-- Corrections in local RAM change nothing but the cores that count them. -/
theorem State.correctRams_keeps (ws : List Nat) : s.correctRams ws = { s with cores := (s.correctRams ws).cores } := by
  unfold State.correctRams
  induction ws generalizing s with
  | nil => rfl
  | cons w t ih =>
    have h : s.correctRam w = { s with cores := (s.correctRam w).cores } := by unfold State.correctRam; split <;> rfl
    rw [List.foldl_cons, ih, h]

@[simp] theorem State.correctRams_pending (ws : List Nat) : (s.correctRams ws).pending = s.pending := by rw [s.correctRams_keeps ws]
@[simp] theorem State.correctRams_fresh (ws : List Nat) : (s.correctRams ws).fresh = s.fresh := by rw [s.correctRams_keeps ws]
@[simp] theorem State.correctRams_time (ws : List Nat) : (s.correctRams ws).time = s.time := by rw [s.correctRams_keeps ws]
@[simp] theorem State.correctRams_sub (ws : List Nat) : (s.correctRams ws).sub = s.sub := by rw [s.correctRams_keeps ws]
@[simp] theorem State.correctRams_clk (ws : List Nat) : (s.correctRams ws).clk = s.clk := by rw [s.correctRams_keeps ws]
@[simp] theorem State.correctRams_phase (ws : List Nat) : (s.correctRams ws).phase = s.phase := by rw [s.correctRams_keeps ws]
@[simp] theorem State.correctRams_regs (ws : List Nat) : (s.correctRams ws).regs = s.regs := by rw [s.correctRams_keeps ws]
@[simp] theorem State.correctRams_basin (ws : List Nat) : (s.correctRams ws).basin = s.basin := by rw [s.correctRams_keeps ws]
@[simp] theorem State.correctRams_disp (ws : List Nat) : (s.correctRams ws).disp = s.disp := by rw [s.correctRams_keeps ws]
@[simp] theorem State.correctRams_lram (ws : List Nat) : (s.correctRams ws).lram = s.lram := by rw [s.correctRams_keeps ws]
@[simp] theorem State.correctRams_lramEcc (ws : List Nat) : (s.correctRams ws).lramEcc = s.lramEcc := by rw [s.correctRams_keeps ws]
@[simp] theorem State.correctRams_voice (ws : List Nat) : (s.correctRams ws).voice = s.voice := by rw [s.correctRams_keeps ws]
@[simp] theorem State.correctRams_spe (ws : List Nat) : (s.correctRams ws).spe = s.spe := by rw [s.correctRams_keeps ws]
@[simp] theorem State.correctRams_trail (ws : List Nat) : (s.correctRams ws).trail = s.trail := by rw [s.correctRams_keeps ws]
@[simp] theorem State.correctRams_aports (ws : List Nat) : (s.correctRams ws).aports = s.aports := by rw [s.correctRams_keeps ws]
@[simp] theorem State.correctRams_ana (ws : List Nat) : (s.correctRams ws).ana = s.ana := by rw [s.correctRams_keeps ws]
@[simp] theorem State.correctRams_ser (ws : List Nat) : (s.correctRams ws).ser = s.ser := by rw [s.correctRams_keeps ws]
@[simp] theorem State.correctRams_tmr (ws : List Nat) : (s.correctRams ws).tmr = s.tmr := by rw [s.correctRams_keeps ws]
@[simp] theorem State.correctRams_power (ws : List Nat) : (s.correctRams ws).power = s.power := by rw [s.correctRams_keeps ws]
@[simp] theorem State.correctRams_pack (ws : List Nat) : (s.correctRams ws).pack = s.pack := by rw [s.correctRams_keeps ws]
@[simp] theorem State.correctRams_flt (ws : List Nat) : (s.correctRams ws).flt = s.flt := by rw [s.correctRams_keeps ws]
@[simp] theorem State.correctRams_host (ws : List Nat) : (s.correctRams ws).host = s.host := by rw [s.correctRams_keeps ws]

@[simp] theorem State.lramPut_pending (key : Nat) (l : List Byte) : (s.lramPut key l).pending = s.pending := State.correctRams_pending _ _
@[simp] theorem State.lramPut_fresh (key : Nat) (l : List Byte) : (s.lramPut key l).fresh = s.fresh := State.correctRams_fresh _ _
@[simp] theorem State.lramPut_time (key : Nat) (l : List Byte) : (s.lramPut key l).time = s.time := State.correctRams_time _ _
@[simp] theorem State.lramPut_sub (key : Nat) (l : List Byte) : (s.lramPut key l).sub = s.sub := State.correctRams_sub _ _
@[simp] theorem State.lramPut_clk (key : Nat) (l : List Byte) : (s.lramPut key l).clk = s.clk := State.correctRams_clk _ _
@[simp] theorem State.lramPut_phase (key : Nat) (l : List Byte) : (s.lramPut key l).phase = s.phase := State.correctRams_phase _ _
@[simp] theorem State.lramPut_regs (key : Nat) (l : List Byte) : (s.lramPut key l).regs = s.regs := State.correctRams_regs _ _
@[simp] theorem State.lramPut_basin (key : Nat) (l : List Byte) : (s.lramPut key l).basin = s.basin := State.correctRams_basin _ _
@[simp] theorem State.lramPut_disp (key : Nat) (l : List Byte) : (s.lramPut key l).disp = s.disp := State.correctRams_disp _ _
@[simp] theorem State.lramPut_voice (key : Nat) (l : List Byte) : (s.lramPut key l).voice = s.voice := State.correctRams_voice _ _
@[simp] theorem State.lramPut_spe (key : Nat) (l : List Byte) : (s.lramPut key l).spe = s.spe := State.correctRams_spe _ _
@[simp] theorem State.lramPut_trail (key : Nat) (l : List Byte) : (s.lramPut key l).trail = s.trail := State.correctRams_trail _ _
@[simp] theorem State.lramPut_aports (key : Nat) (l : List Byte) : (s.lramPut key l).aports = s.aports := State.correctRams_aports _ _
@[simp] theorem State.lramPut_ana (key : Nat) (l : List Byte) : (s.lramPut key l).ana = s.ana := State.correctRams_ana _ _
@[simp] theorem State.lramPut_ser (key : Nat) (l : List Byte) : (s.lramPut key l).ser = s.ser := State.correctRams_ser _ _
@[simp] theorem State.lramPut_tmr (key : Nat) (l : List Byte) : (s.lramPut key l).tmr = s.tmr := State.correctRams_tmr _ _
@[simp] theorem State.lramPut_power (key : Nat) (l : List Byte) : (s.lramPut key l).power = s.power := State.correctRams_power _ _
@[simp] theorem State.lramPut_pack (key : Nat) (l : List Byte) : (s.lramPut key l).pack = s.pack := State.correctRams_pack _ _
@[simp] theorem State.lramPut_flt (key : Nat) (l : List Byte) : (s.lramPut key l).flt = s.flt := State.correctRams_flt _ _
@[simp] theorem State.lramPut_host (key : Nat) (l : List Byte) : (s.lramPut key l).host = s.host := State.correctRams_host _ _
@[simp] theorem State.lramPut_lram (key : Nat) (l : List Byte) : (s.lramPut key l).lram = putBytes s.lram key l := congrArg (putBytes · key l) (State.correctRams_lram s _)

end Sys2Proof.Machine
end

