-- ==== Sys2Proof/Laws/Store.lean ====
section
/-!
SUPPORT. The laws of the sparse stores (Machine/Bits.lean): a read after a write, at the same key and at another, for any list; and the
canonical form, which every store operation keeps.
-/
namespace Sys2Proof.Machine

variable {α : Type} (dflt : Nat → α)

/-! ### Reads after writes -/

theorem Sp.get_del_same (l : List (Nat × α)) (k : Nat) : Sp.get dflt (Sp.del l k) k = dflt k := by
  induction l with
  | nil => rfl
  | cons p t ih =>
    obtain ⟨j, v⟩ := p
    by_cases h : j = k
    · simpa [Sp.del, h] using ih
    · simpa [Sp.del, Sp.get, h] using ih

theorem Sp.get_del_other (l : List (Nat × α)) {k m : Nat} (h : m ≠ k) : Sp.get dflt (Sp.del l k) m = Sp.get dflt l m := by
  induction l with
  | nil => rfl
  | cons p t ih =>
    obtain ⟨j, v⟩ := p
    by_cases hk : j = k
    · simpa [Sp.del, Sp.get, hk, Ne.symm h] using ih
    · by_cases hm : j = m <;> simp [Sp.del, Sp.get, hk, hm, h, ih]

theorem Sp.get_ins_same (l : List (Nat × α)) (k : Nat) (x : α) : Sp.get dflt (Sp.ins l k x) k = x := by
  induction l with
  | nil => simp [Sp.ins, Sp.get]
  | cons p t ih =>
    obtain ⟨j, v⟩ := p
    by_cases hk : j = k
    · simp [Sp.ins, Sp.get, hk]
    · by_cases hl : k < j <;> simp [Sp.ins, Sp.get, hk, hl, ih]

theorem Sp.get_ins_other (l : List (Nat × α)) {k m : Nat} (h : m ≠ k) (x : α) :
    Sp.get dflt (Sp.ins l k x) m = Sp.get dflt l m := by
  induction l with
  | nil => simp [Sp.ins, Sp.get, Ne.symm h]
  | cons p t ih =>
    obtain ⟨j, v⟩ := p
    by_cases hk : j = k
    · subst hk; simp [Sp.ins, Sp.get, Ne.symm h]
    · by_cases hl : k < j
      · simp [Sp.ins, Sp.get, hk, hl, Ne.symm h]
      · rw [Sp.ins, if_neg hk, if_neg hl, Sp.get, Sp.get, ih]

/-- A key reads what was last put there. -/
@[simp] theorem Sp.get_put_same [DecidableEq α] (l : List (Nat × α)) (k : Nat) (x : α) : Sp.get dflt (Sp.put dflt l k x) k = x := by
  unfold Sp.put
  split
  · next h => rw [Sp.get_del_same, h]
  · exact Sp.get_ins_same dflt l k x

/-- Any other key reads what it read before. -/
theorem Sp.get_put_other [DecidableEq α] (l : List (Nat × α)) {k m : Nat} (h : m ≠ k) (x : α) :
    Sp.get dflt (Sp.put dflt l k x) m = Sp.get dflt l m := by
  unfold Sp.put
  split
  · exact Sp.get_del_other dflt l h
  · exact Sp.get_ins_other dflt l h x

/-- Both at once. -/
theorem Sp.get_put [DecidableEq α] (l : List (Nat × α)) (k m : Nat) (x : α) :
    Sp.get dflt (Sp.put dflt l k x) m = if m = k then x else Sp.get dflt l m := by
  split
  · next h => subst h; exact Sp.get_put_same dflt l m x
  · next h => exact Sp.get_put_other dflt l h x

/-! ### The canonical form -/

theorem Sp.risingFrom_mono {b c : Nat} (h : b ≤ c) {l : List (Nat × α)} (hl : Sp.risingFrom c l = true) : Sp.risingFrom b l = true := by
  cases l with
  | nil => rfl
  | cons p t => simp [Sp.risingFrom] at hl ⊢; exact ⟨Nat.le_trans h hl.1, hl.2⟩

theorem Sp.risingFrom_del {b : Nat} {l : List (Nat × α)} (hl : Sp.risingFrom b l = true) (k : Nat) :
    Sp.risingFrom b (Sp.del l k) = true := by
  induction l generalizing b with
  | nil => rfl
  | cons p t ih =>
    obtain ⟨j, v⟩ := p
    simp [Sp.risingFrom] at hl
    by_cases h : j = k
    · simp only [Sp.del, h, ite_true]
      exact ih (Sp.risingFrom_mono (by omega) hl.2)
    · simpa [Sp.del, h, Sp.risingFrom, hl.1] using ih hl.2

theorem Sp.risingFrom_ins {b : Nat} {l : List (Nat × α)} (hl : Sp.risingFrom b l = true) {k : Nat} (hk : b ≤ k) (x : α) :
    Sp.risingFrom b (Sp.ins l k x) = true := by
  induction l generalizing b with
  | nil => simp [Sp.ins, Sp.risingFrom, hk]
  | cons p t ih =>
    obtain ⟨j, v⟩ := p
    simp [Sp.risingFrom] at hl
    by_cases h : j = k
    · subst h; simpa [Sp.ins, Sp.risingFrom] using ⟨hl.1, hl.2⟩
    · by_cases h2 : k < j
      · simp [Sp.ins, h, h2, Sp.risingFrom, hk, hl.2, Nat.succ_le_of_lt h2]
      · simpa [Sp.ins, h, h2, Sp.risingFrom, hl.1] using ih hl.2 (by omega)

theorem Sp.mem_del {l : List (Nat × α)} {k : Nat} {p : Nat × α} (h : p ∈ Sp.del l k) : p ∈ l := by
  induction l with
  | nil => exact h
  | cons q t ih =>
    obtain ⟨j, v⟩ := q
    by_cases hk : j = k
    · simp [Sp.del, hk] at h; exact List.mem_cons_of_mem _ (ih h)
    · simp [Sp.del, hk] at h
      rcases h with h | h
      · simp [h]
      · exact List.mem_cons_of_mem _ (ih h)

theorem Sp.mem_ins {l : List (Nat × α)} {k : Nat} {x : α} {p : Nat × α} (h : p ∈ Sp.ins l k x) : p = (k, x) ∨ p ∈ l := by
  induction l with
  | nil => simpa [Sp.ins] using h
  | cons q t ih =>
    obtain ⟨j, v⟩ := q
    by_cases hk : j = k
    · simp [Sp.ins, hk] at h; rcases h with h | h
      · exact .inl h
      · exact .inr (List.mem_cons_of_mem _ h)
    · by_cases hl : k < j
      · simpa [Sp.ins, hk, hl] using h
      · simp [Sp.ins, hk, hl] at h
        rcases h with h | h
        · exact .inr (by simp [h])
        · rcases ih h with h | h
          · exact .inl h
          · exact .inr (List.mem_cons_of_mem _ h)

/-- Putting a value keeps the canonical form. -/
theorem Sp.wf_put [DecidableEq α] {l : List (Nat × α)} (h : Sp.wf dflt l = true) (k : Nat) (x : α) : Sp.wf dflt (Sp.put dflt l k x) = true := by
  simp only [Sp.wf, Bool.and_eq_true, List.all_eq_true, decide_eq_true_eq] at h ⊢
  unfold Sp.put
  split
  · exact ⟨Sp.risingFrom_del h.1 k, fun p hp => h.2 p (Sp.mem_del hp)⟩
  · next hx =>
    refine ⟨Sp.risingFrom_ins h.1 (Nat.zero_le _) x, fun p hp => ?_⟩
    rcases Sp.mem_ins hp with rfl | hp
    · exact hx
    · exact h.2 p hp

/-- In the canonical form equal contents are equal data. -/
theorem Sp.ext_of_wf [DecidableEq α] {l m : List (Nat × α)} (hl : Sp.wf dflt l = true) (hm : Sp.wf dflt m = true)
    (h : ∀ k, Sp.get dflt l k = Sp.get dflt m k) : l = m := by
  simp only [Sp.wf, Bool.and_eq_true, List.all_eq_true, decide_eq_true_eq] at hl hm
  have low : ∀ (l : List (Nat × α)) (b k : Nat), Sp.risingFrom b l = true → k < b → Sp.get dflt l k = dflt k := by
    intro l
    induction l with
    | nil => intros; rfl
    | cons p t ih =>
      obtain ⟨j, v⟩ := p
      intro b k hr hk
      simp [Sp.risingFrom] at hr
      simp only [Sp.get, show j ≠ k by omega, ite_false]
      exact ih (j + 1) k hr.2 (by omega)
  have main : ∀ (l m : List (Nat × α)) (b : Nat), Sp.risingFrom b l = true → Sp.risingFrom b m = true →
      (∀ p ∈ l, p.2 ≠ dflt p.1) → (∀ p ∈ m, p.2 ≠ dflt p.1) → (∀ k, Sp.get dflt l k = Sp.get dflt m k) → l = m := by
    intro l
    induction l with
    | nil =>
      intro m b _ _ _ hm hg
      cases m with
      | nil => rfl
      | cons p t =>
        have := hg p.1
        simp [Sp.get] at this
        exact absurd this.symm (hm p (by simp))
    | cons p t ih =>
      obtain ⟨j, v⟩ := p
      intro m b hl hm hln hmn hg
      cases m with
      | nil =>
        have := hg j
        simp [Sp.get] at this
        exact absurd this (hln (j, v) (by simp))
      | cons q u =>
        obtain ⟨i, w⟩ := q
        simp [Sp.risingFrom] at hl hm
        have hij : j = i := by
          rcases Nat.lt_trichotomy j i with h | h | h
          · have e := hg j
            simp only [Sp.get, ite_true, show i ≠ j by omega, ite_false] at e
            rw [low u (i + 1) j hm.2 (by omega)] at e
            exact absurd e (hln (j, v) (by simp))
          · exact h
          · have e := hg i
            simp only [Sp.get, ite_true, show j ≠ i by omega, ite_false] at e
            rw [low t (j + 1) i hl.2 (by omega)] at e
            exact absurd e.symm (hmn (i, w) (by simp))
        subst hij
        have hv : v = w := by simpa [Sp.get] using hg j
        subst hv
        have ht : t = u := by
          refine ih u (j + 1) hl.2 hm.2 (fun p hp => hln p (by simp [hp])) (fun p hp => hmn p (by simp [hp])) (fun k => ?_)
          by_cases hk : j = k
          · subst hk; rw [low t (j + 1) j hl.2 (by omega), low u (j + 1) j hm.2 (by omega)]
          · have e := hg k
            simpa [Sp.get, hk] using e
        rw [ht]
  exact main l m 0 hl.1 hm.1 hl.2 hm.2 h

end Sys2Proof.Machine
end

