-- ==== Sys2Proof/Laws/Regs.lean ====
section
/-!
SUPPORT. The laws of the registers: what a register reads after each named update of Machine/Ops.lean, for any state.
-/
namespace Sys2Proof.Machine

variable (s : State)

/-- What a register reads after one is set. -/
theorem State.reg_setReg (a v b : Nat) : (s.setReg a v).reg b = if b = a then v % 2 ^ 32 else s.reg b := by
  unfold State.reg State.setReg
  rw [Sp.get_put]
  split
  · exact BitVec.toNat_ofNat v 32
  · rfl

@[simp] theorem State.reg_setReg_same (a v : Nat) : (s.setReg a v).reg a = v % 2 ^ 32 := by simp [State.reg_setReg]

theorem State.reg_setReg_other {a b : Nat} (h : b ≠ a) (v : Nat) : (s.setReg a v).reg b = s.reg b := by
  simp [State.reg_setReg, h]

/-- A register holds 32 bits (R31). -/
theorem State.reg_lt (a : Nat) : s.reg a < 2 ^ 32 := (Sp.get regReset s.regs a).isLt

theorem State.reg_setFld_other {a b : Nat} (h : b ≠ a) (hi lo v : Nat) : (s.setFld a hi lo v).reg b = s.reg b :=
  s.reg_setReg_other h _

theorem State.reg_setFlag_other {a b : Nat} (h : b ≠ a) (i : Nat) (x : Bool) : (s.setFlag a i x).reg b = s.reg b :=
  s.reg_setReg_other h _

theorem State.reg_countBy_other {a b : Nat} (h : b ≠ a) (n : Nat) : (s.countBy a n).reg b = s.reg b := by
  unfold State.countBy
  dsimp only
  split <;> exact s.reg_setReg_other h _

theorem State.reg_count_other {a b : Nat} (h : b ≠ a) : (s.count a).reg b = s.reg b := s.reg_countBy_other h 1

theorem State.reg_raise_other {b : Nat} (h : b ≠ Adr.HOST_IRQ) (i : Nat) : (s.raise i).reg b = s.reg b :=
  s.reg_setFlag_other h i true

/-- The registers depend on nothing but State.regs. -/
theorem State.reg_congr {s t : State} (h : s.regs = t.regs) (a : Nat) : s.reg a = t.reg a := by simp [State.reg, h]

/-- Setting a register keeps the canonical form of the registers. -/
theorem State.setReg_wf {s : State} (h : Sp.wf regReset s.regs = true) (a v : Nat) : Sp.wf regReset (s.setReg a v).regs = true :=
  Sp.wf_put regReset h a _

/-! ### Bits and fields -/

theorem putBits_low {n hi lo v : Nat} (hv : v < 2 ^ (hi + 1 - lo)) (hl : lo ≤ hi) : bits (putBits n hi lo v) hi lo = v := by
  unfold bits putBits
  simp only [Nat.shiftRight_eq_div_pow, Nat.shiftLeft_eq]
  have e : 2 ^ (hi + 1) = 2 ^ (hi + 1 - lo) * 2 ^ lo := by rw [← Nat.pow_add]; congr 1; omega
  rw [Nat.mod_eq_of_lt hv, e, ← Nat.mul_assoc, ← Nat.add_mul, Nat.add_comm,
    Nat.add_mul_div_right _ _ (Nat.two_pow_pos lo), Nat.div_eq_of_lt (Nat.mod_lt _ (Nat.two_pow_pos lo)), Nat.zero_add,
    Nat.mul_comm, Nat.mul_add_mod, Nat.mod_eq_of_lt hv]

theorem putBits_lt {n hi lo v w : Nat} (hn : n < 2 ^ w) (hw : hi < w) (hl : lo ≤ hi) : putBits n hi lo v < 2 ^ w := by
  unfold putBits
  simp only [Nat.shiftRight_eq_div_pow, Nat.shiftLeft_eq]
  have h1 : n / 2 ^ (hi + 1) < 2 ^ (w - (hi + 1)) := by
    rw [Nat.div_lt_iff_lt_mul (Nat.two_pow_pos _), ← Nat.pow_add]
    rwa [show w - (hi + 1) + (hi + 1) = w by omega]
  have h2 : v % 2 ^ (hi + 1 - lo) < 2 ^ (hi + 1 - lo) := Nat.mod_lt _ (Nat.two_pow_pos _)
  have h3 : n % 2 ^ lo < 2 ^ lo := Nat.mod_lt _ (Nat.two_pow_pos _)
  have e : 2 ^ (hi + 1) = 2 ^ (hi + 1 - lo) * 2 ^ lo := by rw [← Nat.pow_add]; congr 1; omega
  have e2 : 2 ^ w = 2 ^ (w - (hi + 1)) * 2 ^ (hi + 1) := by rw [← Nat.pow_add]; congr 1; omega
  have h4 : v % 2 ^ (hi + 1 - lo) * 2 ^ lo + n % 2 ^ lo < 2 ^ (hi + 1) := by
    have : (v % 2 ^ (hi + 1 - lo) + 1) * 2 ^ lo ≤ 2 ^ (hi + 1 - lo) * 2 ^ lo := Nat.mul_le_mul_right _ h2
    rw [Nat.add_mul, Nat.one_mul] at this
    omega
  have h5 : (n / 2 ^ (hi + 1) + 1) * 2 ^ (hi + 1) ≤ 2 ^ (w - (hi + 1)) * 2 ^ (hi + 1) := Nat.mul_le_mul_right _ h1
  rw [Nat.add_mul, Nat.one_mul] at h5
  omega

/-- A field reads what was put into it. -/
theorem State.fld_setFld {a hi lo v : Nat} (hv : v < 2 ^ (hi + 1 - lo)) (hl : lo ≤ hi) (hh : hi < 32) :
    (s.setFld a hi lo v).fld a hi lo = v := by
  unfold State.fld State.setFld
  rw [State.reg_setReg_same, Nat.mod_eq_of_lt (putBits_lt (s.reg_lt a) hh hl), putBits_low hv hl]

theorem bit_eq_bits (n i : Nat) : bit n i = (bits n i i == 1) := by
  unfold bit bits
  rw [Nat.testBit_eq_decide_div_mod_eq, Nat.shiftRight_eq_div_pow, show i + 1 - i = 1 by omega]
  simp [BEq.beq]

/-- A flag reads what was put into it. -/
@[simp] theorem State.flag_setFlag (a i : Nat) (x : Bool) (h : i < 32) : (s.setFlag a i x).flag a i = x := by
  have := s.fld_setFld (a := a) (hi := i) (lo := i) (v := b2n x) (by cases x <;> simp [b2n]) (Nat.le_refl _) h
  unfold State.flag
  rw [bit_eq_bits]
  have e : (s.setFlag a i x).reg a = (s.setFld a i i (b2n x)).reg a := rfl
  rw [e]
  unfold State.fld at this
  rw [this]
  cases x <;> rfl

/-! ### Counters (Table TL-12) -/

/-- A counter below its limit counts. -/
theorem State.reg_count {a : Nat} (h : s.reg a < 0x7FFFFFFF) : (s.count a).reg a = s.reg a + 1 := by
  unfold State.count State.countBy
  have : s.reg a % 2 ^ 31 = s.reg a := Nat.mod_eq_of_lt (by omega)
  have d : s.reg a / 2 ^ 31 = 0 := Nat.div_eq_of_lt (by omega)
  simp only [this, d]
  rw [if_pos (by omega), State.reg_setReg_same]
  omega

end Sys2Proof.Machine
end

