-- ==== Sys2Proof/Laws/Core.lean ====
section
/-!
SUPPORT. What the shared operations of the core instructions leave unchanged: reads and writes of operands touch the state, the words
checked, the cost and the trap, and nothing else of the instruction being executed.
-/
namespace Sys2Proof.Machine

/-- What an operand access leaves alone. -/
structure CX.SameRegs (x y : CX) : Prop where
  k : y.k = x.k
  instr : y.instr = x.instr
  pc : y.pc = x.pc
  next : y.next = x.next
  ptr : y.ptr = x.ptr
  wp : y.wp = x.wp
  sw : y.sw = x.sw
  ops : y.ops = x.ops
  lost : y.lost = x.lost
  ending : y.ending = x.ending

namespace CX.SameRegs

theorem refl (x : CX) : CX.SameRegs x x := ⟨rfl, rfl, rfl, rfl, rfl, rfl, rfl, rfl, rfl, rfl⟩

theorem trans {x y z : CX} (h : CX.SameRegs x y) (g : CX.SameRegs y z) : CX.SameRegs x z :=
  ⟨g.k.trans h.k, g.instr.trans h.instr, g.pc.trans h.pc, g.next.trans h.next, g.ptr.trans h.ptr, g.wp.trans h.wp,
    g.sw.trans h.sw, g.ops.trans h.ops, g.lost.trans h.lost, g.ending.trans h.ending⟩

end CX.SameRegs

theorem CX.fail_same (x : CX) (p c : Nat) (u : Option Nat) : CX.SameRegs x (x.fail p c u) := by
  unfold CX.fail
  split
  · exact ⟨rfl, rfl, rfl, rfl, rfl, rfl, rfl, rfl, rfl, rfl⟩
  · split <;> exact ⟨rfl, rfl, rfl, rfl, rfl, rfl, rfl, rfl, rfl, rfl⟩

theorem CX.SameRegs.ite {x y z : CX} {c : Prop} [Decidable c] (h : CX.SameRegs x y) (g : CX.SameRegs x z) :
    CX.SameRegs x (if c then y else z) := by split <;> assumption

theorem CX.SameRegs.ite_snd {α : Type} {x : CX} {y z : α × CX} {c : Prop} [Decidable c] (h : CX.SameRegs x y.2)
    (g : CX.SameRegs x z.2) : CX.SameRegs x (if c then y else z).2 := by split <;> assumption

/-- A trap found after an access. -/
theorem CX.SameRegs.fail {x y : CX} (h : CX.SameRegs x y) (p c : Nat) (u : Option Nat) : CX.SameRegs x (y.fail p c u) :=
  h.trans (CX.fail_same y p c u)

/-- The state, the words checked and the cost may change. -/
theorem CX.SameRegs.upd (x : CX) (s : State) (l : List Nat) (c : Nat) : CX.SameRegs x { x with s := s, words := l, cost := c } :=
  ⟨rfl, rfl, rfl, rfl, rfl, rfl, rfl, rfl, rfl, rfl⟩

theorem CX.readPart_same (x : CX) (i a n : Nat) (w : Bool) : CX.SameRegs x (x.readPart i a n w).2 := by
  unfold CX.readPart
  split
  · dsimp only
    split
    · exact .upd x _ _ _
    · exact .fail (.upd x _ _ _) _ _ _
  · exact .ite_snd (.fail (.upd x x.s x.words _) _ _ _) (.ite_snd (.fail (.upd x x.s x.words _) _ _ _) (.upd x _ _ _))
  · exact .upd x x.s x.words _
  · exact .upd x (x.s.speHeld a) x.words _
  · exact .ite_snd (.upd x _ x.words _) (CX.fail_same _ _ _ _)
  · exact CX.fail_same _ _ _ _

/-- Reading an operand. -/
theorem CX.read_same (x : CX) (i a n : Nat) : CX.SameRegs x (x.read i a n).2 := by
  have fold : ∀ (l : List (Nat × Nat)) (w : Bool) (p : List Byte × CX),
      CX.SameRegs p.2 (l.foldl (fun (p : List Byte × CX) q =>
        let r := p.2.readPart i q.1 q.2 w
        (p.1 ++ r.1, r.2)) p).2 := by
    intro l w
    induction l with
    | nil => exact fun p => CX.SameRegs.refl _
    | cons q t ih => intro p; exact (CX.readPart_same p.2 i q.1 q.2 w).trans (ih (p.1 ++ (p.2.readPart i q.1 q.2 w).1, (p.2.readPart i q.1 q.2 w).2))
  exact fold (wordParts (n + 1) a n) (n = 4 && a % 4 = 0) (([] : List Byte), x)

/-! ### Writes: SW.COL is set where one is dropped (R182) -/

/-- What a write leaves alone: all but SW.COL and the mark of a dropped write. -/
structure CX.Wrote (x y : CX) : Prop where
  same : CX.SameRegs x { y with sw := x.sw, lost := x.lost }
  sw : y.sw = x.sw ∨ y.lost = true ∧ y.sw = putBit x.sw 6 true
  lost : x.lost = true → y.lost = true

/-- Setting COL twice is setting it once. -/
theorem putBit_col (n : Nat) : putBit (putBit n 6 true) 6 true = putBit n 6 true := by
  simp only [putBit, putBits, b2n, Nat.shiftRight_eq_div_pow, Nat.shiftLeft_eq, if_true]
  omega

theorem CX.SameRegs.wrote {x y : CX} (h : CX.SameRegs x y) : CX.Wrote x y :=
  ⟨⟨h.k, h.instr, h.pc, h.next, h.ptr, h.wp, rfl, h.ops, rfl, h.ending⟩, .inl h.sw, fun g => h.lost.trans g⟩

theorem CX.Wrote.trans {x y z : CX} (h : CX.Wrote x y) (g : CX.Wrote y z) : CX.Wrote x z := by
  refine ⟨?_, ?_, fun l => g.lost (h.lost l)⟩
  · have a := h.same
    have b := g.same
    exact ⟨b.k.trans a.k, b.instr.trans a.instr, b.pc.trans a.pc, b.next.trans a.next, b.ptr.trans a.ptr, b.wp.trans a.wp, rfl,
      b.ops.trans a.ops, rfl, b.ending.trans a.ending⟩
  · rcases h.sw with e | ⟨l, e⟩ <;> rcases g.sw with f | ⟨m, f⟩
    · exact .inl (f.trans e)
    · exact .inr ⟨m, by rw [f, e]⟩
    · exact .inr ⟨g.lost l, f.trans e⟩
    · exact .inr ⟨m, by rw [f, e, putBit_col]⟩

theorem CX.Wrote.ite {x y z : CX} {c : Prop} [Decidable c] (h : CX.Wrote x y) (g : CX.Wrote x z) :
    CX.Wrote x (if c then y else z) := by split <;> assumption

/-- A dropped write sets COL and nothing else. -/
theorem CX.SameRegs.dropped {x y : CX} (h : CX.SameRegs x y) : CX.Wrote x y.dropped :=
  h.wrote.trans ⟨.refl y, .inr ⟨rfl, rfl⟩, fun _ => rfl⟩

theorem CX.writeVoice_same (x : CX) (i v w a : Nat) (l : List Byte) : CX.SameRegs x (x.writeVoice i v w a l) :=
  .ite (CX.fail_same _ _ _ _) (.upd x _ x.words x.cost)

theorem CX.writePart_same (x : CX) (i a : Nat) (l : List Byte) (w : Bool) : CX.Wrote x (x.writePart i a l w) := by
  unfold CX.writePart
  split
  · have g := CX.SameRegs.ite (c := l.length = 4) (.upd x (x.s.writePart (Master.core x.k.val) 0 a l).2 x.words (x.cost + 20))
      (.upd x (x.s.writePart (Master.core x.k.val) 0 a l).2 (x.words ++ [a / 4]) (x.cost + 20))
    exact .ite (g.fail _ _ _).wrote (.ite g.dropped g.wrote)
  · exact (CX.SameRegs.ite (.fail (.upd x x.s x.words _) _ _ _) (.ite (.fail (.upd x x.s x.words _) _ _ _) (.upd x _ x.words _))).wrote
  · exact ((CX.writeVoice_same _ _ _ _ _ _).trans (.upd _ _ _ _)).wrote
  · exact (CX.SameRegs.ite (.fail (.upd x x.s x.words _) _ _ _) (.upd x _ x.words _)).wrote
  · exact (CX.SameRegs.ite (.ite (.fail (.upd x x.s x.words _) _ _ _) (.upd x _ x.words _)) (CX.fail_same _ _ _ _)).wrote
  · exact (CX.fail_same _ _ _ _).wrote

/-- Writing an operand. -/
theorem CX.write_same (x : CX) (i a : Nat) (l : List Byte) : CX.Wrote x (x.write i a l) := by
  have fold : ∀ (ps : List (Nat × Nat)) (w : Bool) (p : List Byte × CX),
      CX.Wrote p.2 (ps.foldl (fun (p : List Byte × CX) q =>
        (p.1.drop q.2, p.2.writePart i q.1 (p.1.take q.2) w)) p).2 := by
    intro ps w
    induction ps with
    | nil => exact fun p => (CX.SameRegs.refl _).wrote
    | cons q t ih => intro p; exact (CX.writePart_same p.2 i q.1 (p.1.take q.2) w).trans (ih (p.1.drop q.2, p.2.writePart i q.1 (p.1.take q.2) w))
  exact fold (wordParts (l.length + 1) a l.length) (l.length = 4 && a % 4 = 0) (l, x)

/-- Reading operand i. -/
theorem CX.get_same (x : CX) (i : Nat) : CX.SameRegs x (x.get i).2 := by
  unfold CX.get
  split
  · exact CX.SameRegs.refl x
  · exact CX.read_same x _ _ _

/-- Writing bytes to operand i. -/
theorem CX.putBytes_same (x : CX) (i : Nat) (l : List Byte) : CX.Wrote x (x.putBytes i l) := by
  unfold CX.putBytes
  split
  · exact CX.write_same x _ _ _
  · exact (CX.SameRegs.refl x).wrote

/-- Writing a code to operand i. -/
theorem CX.put_same (x : CX) (i v : Nat) : CX.Wrote x (x.put i v) := CX.putBytes_same x i _

/-! ### Operand specifiers -/

/-- What the evaluation of specifiers leaves alone: pointers may move, operands are noted. -/
structure CX.SameCore (x y : CX) : Prop where
  k : y.k = x.k
  instr : y.instr = x.instr
  pc : y.pc = x.pc
  next : y.next = x.next
  wp : y.wp = x.wp
  sw : y.sw = x.sw
  ending : y.ending = x.ending

theorem CX.SameCore.refl (x : CX) : CX.SameCore x x := ⟨rfl, rfl, rfl, rfl, rfl, rfl, rfl⟩

theorem CX.SameCore.trans {x y z : CX} (h : CX.SameCore x y) (g : CX.SameCore y z) : CX.SameCore x z :=
  ⟨g.k.trans h.k, g.instr.trans h.instr, g.pc.trans h.pc, g.next.trans h.next, g.wp.trans h.wp, g.sw.trans h.sw,
    g.ending.trans h.ending⟩

theorem CX.SameRegs.core {x y : CX} (h : CX.SameRegs x y) : CX.SameCore x y :=
  ⟨h.k, h.instr, h.pc, h.next, h.wp, h.sw, h.ending⟩

theorem CX.setAn_same (x : CX) (n : Fin 4) (v : Nat) : CX.SameCore x (x.setAn n v) := ⟨rfl, rfl, rfl, rfl, rfl, rfl, rfl⟩

theorem CX.slotWord_same (x : CX) (i k : Nat) : CX.SameCore x (x.slotWord i k).2 := (CX.read_same x _ _ _).core

theorem CX.evalSpec_same (x : CX) (i n : Nat) (p : Spec) : CX.SameCore x (x.evalSpec i n p).2 := by
  cases p with
  | postInc m => exact CX.setAn_same _ _ _
  | preDec m => exact CX.setAn_same _ _ _
  | idx m q k d => exact CX.slotWord_same _ _ _
  | circ m k =>
    have h := (CX.slotWord_same x i k.toNat).trans (CX.slotWord_same (x.slotWord i k.toNat).2 i (k.toNat + 1))
    unfold CX.evalSpec
    dsimp only
    split
    · exact h.trans (CX.setAn_same _ _ _)
    · exact h.trans (CX.fail_same _ _ _ _).core
  | _ => exact CX.SameCore.refl x

/-- Evaluating the specifiers of an instruction. -/
theorem CX.evalSpecs_same (x : CX) (rs : List (Role × OpSize)) (ps : List Spec) : CX.SameCore x (x.evalSpecs rs ps) := by
  induction rs generalizing x ps with
  | nil => exact CX.SameCore.refl x
  | cons r rs ih =>
    cases ps with
    | nil => exact CX.SameCore.refl x
    | cons p ps =>
      have h := CX.evalSpec_same x x.ops.length (r.2.of x.instr.word.toNat) p
      have g : CX.SameCore (x.evalSpec x.ops.length (r.2.of x.instr.word.toNat) p).2
          { (x.evalSpec x.ops.length (r.2.of x.instr.word.toNat) p).2 with
            ops := (x.evalSpec x.ops.length (r.2.of x.instr.word.toNat) p).2.ops ++
              [((x.evalSpec x.ops.length (r.2.of x.instr.word.toNat) p).1, r.2.of x.instr.word.toNat)] } :=
        ⟨rfl, rfl, rfl, rfl, rfl, rfl, rfl⟩
      exact (h.trans g).trans (ih _ _)

/-! ### Rows -/

/-- The instruction that core k is about to execute, and its operands evaluated: what State.coreRun hands to the row's own effect. -/
theorem State.coreRun_eq {s : State} {k : Fin 8} {major i len cost : Nat} {c : CoreInstr} {words : List Nat} (f : CX → CX)
    (item : (s.coreAt k.val).item = some i) (on : s.coresOn = true) (budget : (s.coreAt k.val).cycles < s.budgetOf i)
    (fetch : s.fetch k.val = (.instr c len, words, cost)) (row : c.major = major) {r : OpRow} (ops : opRow major = some r)
    (quiet : (f ((s.begin k c len words cost).evalSpecs r.ops c.ops)).trap = none) :
    s.coreRun k major f = (f ((s.begin k c len words cost).evalSpecs r.ops c.ops)).commit i := by
  subst row
  unfold State.coreRun
  simp only [item, on, fetch, ops, Bool.not_true, Bool.false_or, Nat.not_le.mpr budget, decide_false, Bool.false_eq_true,
    if_false, ne_eq, not_true_eq_false, quiet]

theorem eCycles_pos (m z : Nat) : 1 ≤ eCycles m z := by unfold eCycles; (repeat' split) <;> decide

/-- The operands of the instruction that core k is about to execute: its core's registers stand, but for the pointers. -/
theorem State.operands_same (s : State) (k : Fin 8) (c : CoreInstr) (len cost : Nat) (words : List Nat) :
    CX.SameCore (s.begin k c len words cost) (s.operands k c len words cost) := CX.evalSpecs_same _ _ _

/-- An instruction that neither traps nor ends its item leaves its registers and its share of cycles. -/
theorem CX.commit_leaves (y : CX) (i : Nat) (going : y.ending = none) :
    ∃ n, 1 ≤ n ∧ n ≤ y.cost + eCycles y.instr.major y.instr.size ∧ y.commit i = y.leaves y.next y.sw y.wp y.ptr n := by
  have pos := eCycles_pos y.instr.major y.instr.size
  have e : Nat.max 1 (y.cost + eCycles y.instr.major y.instr.size) = y.cost + eCycles y.instr.major y.instr.size :=
    Nat.max_eq_right (by omega)
  have lt := Nat.mod_lt (y.s.draw).1 (show 0 < y.cost + eCycles y.instr.major y.instr.size by omega)
  refine ⟨(y.s.drawCycles (y.cost + eCycles y.instr.major y.instr.size)).1, ?_, ?_, ?_⟩
  · unfold State.drawCycles; dsimp only; omega
  · unfold State.drawCycles; dsimp only; rw [e]; omega
  · unfold CX.commit; rw [going]; rfl

/-- A row of a core instruction completes when its effect on the operands neither traps nor ends the item. -/
theorem State.row_completes {s : State} {k : Fin 8} {major i len cost : Nat} {c : CoreInstr} {words : List Nat} {r : OpRow}
    {ctor : Instr} {f : CX → CX} (h : s.about k i c len words cost) (row : c.major = major) (ops : opRow major = some r)
    (arm : exec ctor s = s.run fun s => s.coreRun k major f) {z : CX} (effect : f (s.operands k c len words cost) = z)
    (quiet : z.trap = none) (going : z.ending = none) : completesAs ctor s z z.next z.sw z.wp z.ptr := by
  obtain ⟨n, h1, h2, h3⟩ := CX.commit_leaves z i going
  refine ⟨n, h1, h2, ?_⟩
  have e : s.operands k c len words cost = (s.begin k c len words cost).evalSpecs r.ops c.ops := by
    unfold State.operands; rw [row, ops]
  rw [e] at effect
  have run := State.coreRun_eq f h.2.1 h.1 h.2.2.1 h.2.2.2 row ops (by rw [effect]; exact quiet)
  rw [arm, State.run, run, effect, h3]

end Sys2Proof.Machine
end

