-- ==== Sys2Proof/Laws/Frame.lean ====
section
/-!
SUPPORT. Little-endian bytes and CRC-32 (Table TL-4): lengths, bounds and round trips, which every statement on frames and messages needs.
-/
namespace Sys2Proof.Machine

@[simp] theorem natLE_length (n v : Nat) : (natLE n v).length = n := by
  induction n generalizing v with
  | zero => rfl
  | succ n ih => simp [natLE, ih]

/-- Bytes of a number, read back. -/
theorem leNat_natLE (n v : Nat) : leNat (natLE n v) = v % 2 ^ (8 * n) := by
  induction n generalizing v with
  | zero => simp [natLE, leNat, Nat.mod_one]
  | succ n ih =>
    have e : 2 ^ (8 * (n + 1)) = 256 * 2 ^ (8 * n) := by rw [Nat.mul_add, Nat.pow_add]; simp [Nat.mul_comm]
    simp only [natLE, leNat, ih, BitVec.toNat_ofNat, e]
    rw [Nat.mod_mul]

/-- The field behind a prefix. -/
theorem leAt_append (x y : List Byte) (n v : Nat) (h : v < 2 ^ (8 * n)) : leAt (x ++ natLE n v ++ y) x.length n = v := by
  unfold leAt
  rw [List.append_assoc, List.drop_left, List.take_append_of_le_length (by simp), List.take_of_length_le (by simp), leNat_natLE, Nat.mod_eq_of_lt h]

/-- A byte keeps a reflected CRC of 32 bits in range. -/
theorem crcLsbStep_lt (poly c : Nat) (b : Byte) (hp : poly < 2 ^ 32) (hc : c < 2 ^ 32) : crcLsbStep poly c b < 2 ^ 32 := by
  unfold crcLsbStep
  have h0 : c ^^^ b.toNat < 2 ^ 32 := Nat.xor_lt_two_pow hc (Nat.lt_of_lt_of_le b.isLt (by decide))
  generalize c ^^^ b.toNat = x at h0
  induction (List.range 8) generalizing x with
  | nil => simpa using h0
  | cons _ l ih =>
    rw [List.foldl_cons]
    apply ih
    have hs : x >>> 1 < 2 ^ 32 := by rw [Nat.shiftRight_eq_div_pow]; omega
    split
    · exact Nat.xor_lt_two_pow hs hp
    · exact hs

/-- CRC-32 has 32 bits. -/
theorem crc32_lt (l : List Byte) : crc32 l < 2 ^ 32 := by
  unfold crc32
  refine Nat.xor_lt_two_pow ?_ (by decide)
  suffices h : ∀ x, x < 2 ^ 32 → l.foldl (crcLsbStep 0xEDB88320) x < 2 ^ 32 from h _ (by decide)
  induction l with
  | nil => exact fun x h => h
  | cons b l ih => exact fun x h => ih _ (crcLsbStep_lt _ _ _ (by decide) h)

end Sys2Proof.Machine
end

