-- ==== Sys2Proof/Laws/Memory.lean ====
section
/-!
SUPPORT. The laws of the byte memories: what a byte reads after bytes were stored, in the Basin (R233) and in local RAM (Table NS-5), and
the canonical form, which every memory operation keeps.
-/
namespace Sys2Proof.Machine

variable (s : State)

/-- What a byte reads after bytes were stored. -/
theorem get_putBytes (l : List Host.Cell) (a : Nat) (bs : List Byte) (b : Nat) :
    Sp.get (fun _ => (0 : Byte)) (putBytes l a bs) b =
      if a ≤ b ∧ b < a + bs.length then bs.getD (b - a) 0 else Sp.get (fun _ => (0 : Byte)) l b := by
  induction bs generalizing l a with
  | nil => rw [if_neg (by simp only [List.length_nil]; omega)]; rfl
  | cons x t ih =>
    rw [putBytes, ih]
    by_cases h : b = a
    · subst h; rw [if_neg (by omega), Sp.get_put_same, if_pos (by simp)]; simp
    · rw [Sp.get_put_other _ _ h]
      by_cases h2 : a ≤ b ∧ b < a + (x :: t).length
      · have h3 : a + 1 ≤ b ∧ b < a + 1 + t.length := by simp at h2; omega
        rw [if_pos h3, if_pos h2, show b - a = (b - (a + 1)) + 1 by omega, List.getD_cons_succ]
      · have h3 : ¬(a + 1 ≤ b ∧ b < a + 1 + t.length) := by simp at h2; omega
        rw [if_neg h3, if_neg h2]

theorem putBytes_wf {l : List Host.Cell} (h : Memory.wf l = true) (a : Nat) (bs : List Byte) : Memory.wf (putBytes l a bs) = true := by
  induction bs generalizing l a with
  | nil => exact h
  | cons x t ih => exact ih (Sp.wf_put _ h a x) (a + 1)

theorem State.setStale_basin : s.setStale.basin = s.basin := by
  unfold State.setStale
  dsimp only
  split <;> rfl

/-- The bytes of the Basin after a store. -/
theorem State.memPut_bytes (a : Nat) (l : List Byte) :
    (s.memPut a l).basin.bytes = if a + l.length ≤ basinSize then putBytes s.basin.bytes a l else s.basin.bytes := by
  unfold State.memPut
  split
  · dsimp only
    split <;> simp [State.setStale_basin]
  · rfl

/-- A byte of the Basin after a store: the stored byte inside it, the old one outside. -/
theorem State.memByte_memPut (a : Nat) (l : List Byte) (b : Nat) :
    (s.memPut a l).memByte b =
      if a + l.length ≤ basinSize ∧ a ≤ b ∧ b < a + l.length then l.getD (b - a) 0 else s.memByte b := by
  unfold State.memByte
  rw [State.memPut_bytes]
  by_cases h : a + l.length ≤ basinSize
  · rw [if_pos h, get_putBytes]; simp only [h, true_and]
  · rw [if_neg h, if_neg (fun k => h k.1)]

/-- Storing bytes in the Basin keeps its canonical form. -/
theorem State.memPut_wf (h : Memory.wf s.basin.bytes = true) (a : Nat) (l : List Byte) :
    Memory.wf (s.memPut a l).basin.bytes = true := by
  rw [State.memPut_bytes]
  split
  · exact putBytes_wf h a l
  · exact h

/-- Telling the master of a dropped write changes registers alone (R242). -/
theorem State.tellLost_basin (x : LaneWrite) : (s.tellLost x).basin = s.basin := by
  unfold State.tellLost
  dsimp only
  split <;> rfl

/-- A write in one word, merged with the others of its group (R241), keeps the canonical form. -/
theorem State.putPart_wf (h : Memory.wf s.basin.bytes = true) (master port a : Nat) (l : List Byte) :
    Memory.wf (s.putPart master port a l).2.basin.bytes = true := by
  have tell : ∀ (xs : List LaneWrite) (u : State), (xs.foldl (fun s x => s.tellLost x) u).basin = u.basin := by
    intro xs
    induction xs with
    | nil => exact fun u => rfl
    | cons x t ih => exact fun u => (ih _).trans (State.tellLost_basin u x)
  unfold State.putPart
  dsimp only
  split
  · exact State.memPut_wf (s.setGroup _) h _ _
  · rw [tell]; exact State.memPut_wf (s.setGroup _) h _ _

/-- A write by a master keeps the canonical form. -/
theorem State.basinPut_wf (h : Memory.wf s.basin.bytes = true) (master port a : Nat) (l : List Byte) :
    Memory.wf (s.basinPut master port a l).2.basin.bytes = true := by
  have fold : ∀ (qs : List (Nat × List Byte)) (p : Bool × State), Memory.wf p.2.basin.bytes = true →
      Memory.wf (qs.foldl (fun (p : Bool × State) q =>
        let r := p.2.putPart master port q.1 q.2
        (p.1 || r.1, r.2)) p).2.basin.bytes = true := by
    intro qs
    induction qs with
    | nil => exact fun p hp => hp
    | cons q t ih => exact fun p hp => ih _ (State.putPart_wf _ hp _ _ _ _)
  exact fold _ (false, s) h

/-- Storing bytes in local RAM keeps its canonical form. -/
theorem State.lramPut_wf (h : Memory.wf s.lram = true) (key : Nat) (l : List Byte) : Memory.wf (s.lramPut key l).lram = true := by
  rw [State.lramPut_lram]
  exact putBytes_wf h key l

/-- A remap copy keeps the canonical form of the Basin. -/
theorem State.endCopy_wf (h : Memory.wf s.basin.bytes = true) : Memory.wf s.endCopy.basin.bytes = true := by
  unfold State.endCopy
  split
  · exact h
  · have fold : ∀ (ws : List Nat) (l : List Host.Cell), Memory.wf l = true →
        Memory.wf (ws.foldl (fun l w => putBytes l (4 * w) [0, 0, 0, 0]) l) = true := by
      intro ws
      induction ws with
      | nil => intro l hl; exact hl
      | cons w t ih => intro l hl; exact ih _ (putBytes_wf hl _ _)
    exact fold _ _ h

/-- The power-up clear leaves the canonical form of an empty Basin. -/
theorem State.clearBasin_wf : Memory.wf s.clearBasin.basin.bytes = true := rfl

theorem flashPut_wf {l : List Host.Cell} (h : Flash.wf l = true) (a : Nat) (bs : List Byte) : Flash.wf (flashPut l a bs) = true := by
  induction bs generalizing l a with
  | nil => exact h
  | cons x t ih => exact ih (Sp.wf_put _ h a x) (a + 1)

/-- Programming flash bytes keeps the canonical form of the flash. -/
theorem State.program_wf (h : Flash.wf s.pack.flash = true) (a : Nat) (l : List Byte) : Flash.wf (s.program a l).pack.flash = true :=
  flashPut_wf h a _

/-- Erasing keeps the canonical form of the flash. -/
theorem State.erase_wf (h : Flash.wf s.pack.flash = true) (a n : Nat) : Flash.wf (s.erase a n).pack.flash = true := by
  have rise : ∀ (l : List Host.Cell) (q : Host.Cell → Bool) (b : Nat), Sp.risingFrom b l = true →
      Sp.risingFrom b (l.filter q) = true := by
    intro l q
    induction l with
    | nil => intros; rfl
    | cons p t ih =>
      intro b hb
      obtain ⟨j, v⟩ := p
      simp only [Sp.risingFrom, Bool.and_eq_true, decide_eq_true_eq] at hb
      by_cases hq : q (j, v) = true
      · rw [List.filter_cons_of_pos hq]
        simpa [Sp.risingFrom, hb.1] using ih _ hb.2
      · rw [List.filter_cons_of_neg hq]
        exact Sp.risingFrom_mono (by omega) (ih _ hb.2)
  simp only [Flash.wf, Sp.wf, Bool.and_eq_true, List.all_eq_true] at h ⊢
  exact ⟨rise _ _ 0 h.1, fun p hp => h.2 p ((List.mem_filter.mp hp).1)⟩

end Sys2Proof.Machine
end

