-- ==== Sys2Proof/Laws/Run.lean ====
section
/-!
SUPPORT. What State.run and the free values do: a command that runs f completes, leaves the queue, and shows every field that f left; a drawn
status is one of Table SC-7.
-/
namespace Sys2Proof.Machine

@[simp] theorem State.run_completes (s : State) (f : State → State) : completes (s.run f) = true := rfl

@[simp] theorem State.queued_self (s : State) : s.queued s.pending = s := rfl

@[simp] theorem State.queued_queued (s : State) (p q : List Instr) : (s.queued p).queued q = s.queued q := rfl

/-- The next state of State.run. -/
theorem State.run_next {s t : State} {f : State → State} : s.run f = .next t ↔ (f s).queued s.pending = t := by
  simp [State.run]

/-- A command whose effect leaves every register, memory and unit alone answers its own state. -/
theorem State.run_same {s : State} {f : State → State} (h : f s = s) : s.run f = .next s := by
  simp [State.run, h]

/-- A drawn status is a code of Table SC-7. -/
theorem State.drawStatus_lt (s : State) : s.drawStatus.1 < 0x13 := by
  unfold State.drawStatus
  exact Nat.mod_lt _ (by decide)

/-- A draw advances the counter of free values and nothing else. -/
theorem State.drawStatus_state (s : State) : s.drawStatus.2 = { s with fresh := s.fresh + 1 } := rfl

end Sys2Proof.Machine
end

