-- ==== Sys2Proof/Laws/Source.lean ====
section
/-!
SUPPORT. What one write of a register by a source does (R458, R459): an accepted write is State.regApply, a command register's write is
State.regWrite1, and nothing is left of the two passes.
-/
namespace Sys2Proof.Machine

variable {s : State} {src : Source} {a v : Nat}

theorem State.place_reg (s : State) (c : Option Nat) (lo : 0x02000000 ≤ a) (hi : a < 0x02010000) : s.place c a = .reg := by
  unfold State.place basinSize
  rw [if_neg (by omega), if_neg (by simp; omega), if_neg (by simp; omega), if_neg (by simp; omega), if_neg (by simp; omega),
    if_pos (by simp; omega)]

/-- No register stands in the Basin, so no register write is dropped in a collision (R242). -/
theorem wordDropped_reg (status : Nat) (lo : 0x02000000 ≤ a) : wordDropped status a = false := by
  unfold wordDropped basinSize
  simp [show ¬ a < 0xC00000 by omega]

/-- A write of one word in the register blocks is the first pass over it, where no rule over several registers fails. -/
theorem State.busWrites_reg (pass : Bool) (lo : 0x02000000 ≤ a) (hi : a < 0x02010000) (fine : (s.regWrite1 src a v pass).1 = 0)
    (rules : ruleFail [a] ((s.regWrite1 src a v pass).2.rulesFor [a]) = none) :
    s.busWrites src a [v] pass = (0, a, (s.regWrite1 src a v pass).2) := by
  have e : s.busWrite1 src a v pass = s.regWrite1 src a v pass := by
    unfold State.busWrite1; rw [State.place_reg s _ lo hi]
  have w : (List.range [v].length).map (fun i => (a + 4 * i, [v].getD i 0)) = [(a, v)] := rfl
  have vr : State.voiceRulesFail s [(a, v)] = none := by
    unfold State.voiceRulesFail
    simp [State.place_reg s none lo hi, List.eraseDups]
  have z : wordDropped 0 0 = false := rfl
  unfold State.busWrites
  simp only [w, State.pass1, e, fine, ne_eq, vr, z, if_true]
  simp only [not_true_eq_false, decide_false, Bool.false_and, Bool.false_eq_true, if_false]
  simp only [List.map_cons, List.map_nil, rules, List.length_cons, List.length_nil, Nat.zero_add, Nat.le_refl, if_true]

/-- The row's own bits of an address that names a register in the blocks. -/
theorem State.regWrite1_accepted (pass : Bool) {r : RegRow} (row : regRow a = some r) (fine : s.regStatus src a v = 0)
    (code : codeReg a = false) : s.regWrite1 src a v pass = (0, s.regApply r a v) := by
  unfold State.regWrite1
  simp [fine, code, row]

/-- An accepted write by a source (R459). -/
theorem State.writeBy_accepted (pass : Bool) {r : RegRow} (row : regRow a = some r) (lo : 0x02000000 ≤ a) (hi : a < 0x02010000)
    (code : codeReg a = false) (acc : s.accepts src a v = true) : s.writeBy src a v pass = s.regApply r a v := by
  unfold State.accepts at acc
  simp only [row, code, Bool.false_or, Bool.and_eq_true, decide_eq_true_eq, Option.isNone_iff_eq_none] at acc
  have e := State.regWrite1_accepted (src := src) pass row acc.1.2 code
  have b := State.busWrites_reg (s := s) (src := src) pass lo hi (by rw [e]) (by rw [e]; exact acc.2)
  unfold State.writeBy
  simp [acc.1.1, b, e]

/-- A write of a command register by a source that is not a core: the first pass, whatever its status (R459). -/
theorem State.writeBy_command (pass : Bool) (lo : 0x02000000 ≤ a) (hi : a < 0x02010000) (code : codeReg a = true)
    (reach : s.reaches src = true) (notCore : srcIsCore src = false ∨ a ≠ Adr.DSP_CMD) :
    s.writeBy src a v pass = (s.regWrite1 src a v pass).2 := by
  have keep : (codeReg a && !(srcIsCore src && a = Adr.DSP_CMD)) = true := by
    rcases notCore with h | h <;> simp [code, h]
  by_cases fine : (s.regWrite1 src a v pass).1 = 0
  · have b := State.busWrites_reg (s := s) (src := src) (v := v) pass lo hi fine (by simp [State.rulesFor, code, ruleFail])
    unfold State.writeBy
    simp [reach, b]
  · have e : s.busWrite1 src a v pass = s.regWrite1 src a v pass := by
      unfold State.busWrite1; rw [State.place_reg s _ lo hi]
    have b : s.busWrites src a [v] pass = ((s.regWrite1 src a v pass).1, a, (s.regWrite1 src a v pass).2) := by
      have w : (List.range [v].length).map (fun i => (a + 4 * i, [v].getD i 0)) = [(a, v)] := rfl
      unfold State.busWrites
      simp only [w]
      simp [State.pass1, e, fine, code, wordDropped_reg _ lo]
    unfold State.writeBy
    rw [if_neg (by simp [reach]), b]
    dsimp only
    rw [if_pos (by rw [keep, Bool.or_true])]

end Sys2Proof.Machine
end

