-- ==== Sys2Proof/Tests/Slice0.lean ====
section
/-!
SUPPORT. Tests: the ill-formed commands that WellFormed refuses, states and operands that meet the hypotheses of every statement of
Certificates/Slice0/Obligations.lean, and single steps whose expected values come from the spec.
-/
namespace Sys2Proof.Tests
open Sys2Proof.Machine
set_option Elab.async false

/-! ### Small states -/

/-- A node with power and every supply, out of reset, its boot over, in a mode. -/
def inMode (m : Nat) : State :=
  let s := (((State.reset.setFld Adr.PWR_STAT 3 0 m).setFlag Adr.HOST_STAT 0 false).setFld Adr.CLK_STAT 1 0 3).setReg Adr.PWR_SUPPLY 0x1F
  { s with power := { s.power with held := false, startup := 3 }, tmr := { s.tmr with slow := false } }

/-- In SERVICE. -/
def service : State := inMode 4
/-- In RUN, its pipeline full. -/
def running : State := { inMode 5 with power := { (inMode 5).power with runAge := 3 } }
/-- In SERVICE, admitted to the Trail as node 5, and locked. -/
def member : State :=
  (service.setReg Adr.TRAIL_NODE 0x805).setFld Adr.TRAIL_STAT 1 0 2

/-- Command i completes on s, in a state with p. -/
def gives (i : Instr) (s : State) (p : State → Bool) : Bool :=
  match exec i s with
  | .next t => p t
  | _ => false

/-! ### Control cores -/

/-- Core 0 runs item 0 from its local RAM, which holds code at 0 and data at 0x100 (WP) on. -/
def coreNode (code : List Byte) : State :=
  let s := (service.lramPut 0 code).lramPut 0x100 (natLE 4 7 ++ natLE 4 3 ++ natLE 4 0 ++ natLE 4 0 ++ natLE 8 0x123456)
  { s with
    disp := { s.disp with desc := [(0, { Desc.free with st := 4, budget := 1000 })] }
    cores := s.cores.set 0 { Core.idle with pc := 0x00F00000, wp := 0x00F00100, a0 := 0x00F00110, item := some 0 } }

/-- An opcode word: MAJOR, SIZE, OPT. -/
def op (major size opt : Nat) : BitVec 16 := BitVec.ofNat 16 (1024 * major + 128 * size + 16 * opt)

/-- WP + d. -/
def wp (d : Nat) : Spec := .wp8 (BitVec.ofNat 8 d)

/-- One instruction of each MAJOR, its operands in local RAM. -/
def samples : List CoreInstr := [
  ⟨op 0x01 0 0, 0, []⟩, ⟨op 0x02 3 0, 0, [wp 0, wp 8]⟩, ⟨op 0x03 0 3, 0, [wp 0, wp 8]⟩, ⟨op 0x04 1 3, 0, [wp 0, wp 8]⟩,
  ⟨op 0x05 3 0, 0, [wp 8]⟩, ⟨op 0x06 3 0, 0, [wp 0, wp 8]⟩, ⟨op 0x07 0 1, 0, [wp 0]⟩, ⟨op 0x08 0 0, 0, [wp 8]⟩, ⟨op 0x09 0 0, 0, [wp 0]⟩,
  ⟨op 0x0A 0 0, 0, [wp 8]⟩, ⟨op 0x0B 3 0, 0, [wp 8, wp 0, wp 12]⟩, ⟨op 0x0C 3 0, 0, [wp 0, wp 4, wp 8]⟩] ++
  [0x0D, 0x0E, 0x0F, 0x10, 0x11, 0x12, 0x17, 0x18, 0x19, 0x1A, 0x1B, 0x1C, 0x1D, 0x1E, 0x20, 0x21, 0x22, 0x23, 0x28, 0x2B].map
    (fun m => (⟨op m 3 0, 0, [wp 0, wp 4, wp 8]⟩ : CoreInstr)) ++
  [0x13, 0x14, 0x1F, 0x24, 0x25, 0x26, 0x27].map (fun m => (⟨op m 3 0, 0, [wp 0, wp 8]⟩ : CoreInstr)) ++ [
  ⟨op 0x15 3 0, 0, [wp 0, wp 4]⟩, ⟨op 0x16 3 0, 0, [wp 0]⟩, ⟨op 0x29 3 0, 0, [wp 0, wp 16]⟩, ⟨op 0x2A 3 0, 0, [wp 16, wp 8]⟩,
  ⟨op 0x2C 3 0, 0, [wp 0, wp 4, wp 16]⟩, ⟨op 0x2D 3 0, 0, [wp 0, wp 4, wp 16]⟩, ⟨op 0x2E 3 0, 0, [wp 0, wp 4, wp 16]⟩,
  ⟨op 0x30 0 0, 0, [wp 0]⟩, ⟨op 0x31 0 0, 0, [wp 0, wp 8]⟩, ⟨op 0x32 0 0, 0, [wp 0]⟩, ⟨op 0x33 0 0, 0, [.lit 0]⟩,
  ⟨op 0x34 0 0, 0, [wp 0, wp 8]⟩, ⟨op 0x35 0 0, 0, [wp 0, wp 8]⟩, ⟨op 0x36 0 0, 0, [wp 0, wp 8]⟩, ⟨op 0x37 0 0, 0, [wp 0, wp 8]⟩,
  ⟨op 0x38 0 0, 0, [wp 16]⟩, ⟨op 0x39 0 0, 0, [wp 8]⟩, ⟨op 0x3A 0 0, 0, [wp 0]⟩]

/-- The node about to execute c. -/
def at_ (c : CoreInstr) : State := coreNode (encodeCore c)

/-- Its operands. -/
def ops (c : CoreInstr) : CX :=
  (at_ c).operands 0 c (encodeCore c).length ((at_ c).fetch 0).2.1 ((at_ c).fetch 0).2.2

/-- The hypotheses of State.about, decided. -/
def aboutIs (c : CoreInstr) : Bool :=
  let s := at_ c
  s.coresOn && (s.coreAt 0).item = some 0 && (s.coreAt 0).cycles < s.budgetOf 0 && (s.fetch 0).1 = .instr c (encodeCore c).length

/-- aboutIs decides State.about. -/
theorem about_of (c : CoreInstr) (h : aboutIs c = true) :
    (at_ c).about 0 0 c (encodeCore c).length ((at_ c).fetch 0).2.1 ((at_ c).fetch 0).2.2 := by
  simp only [aboutIs, Bool.and_eq_true, decide_eq_true_eq] at h
  exact ⟨h.1.1.1, h.1.1.2, h.1.2, Prod.ext h.2 (Prod.ext rfl rfl)⟩

/-- Every sample is about to execute (State.about), is well formed, and no operand traps. -/
theorem witness_about : samples.all (fun c => aboutIs c && c.wf && (ops c).trap = none) = true := by decide +kernel

/-- SourceInstructionsWriteTheirResult: each MAJOR has a sample that gives a result and does not trap. -/
theorem witness_two_source : Claims.twoSource.all (fun p => samples.any (fun c =>
    let a := (ops c).get 0
    let b := a.2.get 1
    c.major = p.2.1 && (match p.2.2 c ((at_ c).coreAt 0).sw a.1 b.1 with | some r => (b.2.put 2 r.val).trap = none | none => false))) = true := by
  decide +kernel

theorem witness_one_source : Claims.oneSource.all (fun p => samples.any (fun c =>
    let a := (ops c).get 0
    c.major = p.2.1 && (a.2.put 1 (p.2.2 c ((ops c).width 1) a.1).val).trap = none)) = true := by
  decide +kernel

/-- ReadModifyWriteInstructionsWriteBack: the last write of each clause does not trap. -/
def rmwClear (c : CoreInstr) : Bool :=
  let x := ops c
  let a := x.get 0
  let b := a.2.get 1
  let d := b.2.get 2
  let p := macProduct (sizeBits c.size) (bits c.word.toNat 5 4) a.1 b.1
  if c.major = 0x25 then (b.2.put 1 (bfiRes (sizeBits c.size) a.1 b.1 c.ext.toNat).val).trap = none
  else if c.major = 0x2C then (d.2.put 2 (accRes d.1 p).val).trap = none
  else if c.major = 0x2D then (d.2.put 2 (accRes d.1 (-p)).val).trap = none
  else if c.major = 0x2E then
    ((d.2.write 1 ((d.2.addr 1 + (x.op 1).2) % 2 ^ 32) (natLE (x.op 1).2 b.1)).put 2 (accRes d.1 p).val).trap = none
  else if c.major = 0x0B then
    let e := (x.lockedPlace 2).get 0
    let n := e.2.get 1
    let d := n.2.get 2
    d.1 = e.1 && (d.2.put 2 n.1).trap = none
  else if c.major = 0x0C then
    let a := (x.lockedPlace 1).get 0
    let d := a.2.get 1
    ((d.2.put 2 d.1).put 1 (addRes 32 d.1 a.1 0).val).trap = none
  else false

theorem witness_read_modify_write :
    [0x25, 0x2C, 0x2D, 0x2E, 0x0B, 0x0C].all (fun m => samples.any (fun c => c.major = m && rmwClear c)) = true := by decide +kernel

/-- CAS whose e differs from d: the other branch. -/
def casElse : CoreInstr := ⟨op 0x0B 3 0, 0, [wp 8, wp 0, wp 4]⟩
theorem witness_cas_else : (aboutIs casElse &&
    let e := ((ops casElse).lockedPlace 2).get 0
    let n := e.2.get 1
    let d := n.2.get 2
    d.1 ≠ e.1 && ((d.2.put 0 d.1).spend 1).trap = none) = true := by decide +kernel

/-- RegisterAndBranchInstructions: the node each clause ends in does not trap. -/
def plainClear (c : CoreInstr) : Bool :=
  let x := ops c
  let a := x.get 0
  let y :=
    if c.major = 0x01 || c.major = 0x30 then x
    else if c.major = 0x15 then (a.2.get 1).2
    else if c.major = 0x16 || c.major = 0x07 || c.major = 0x09 || c.major = 0x32 then a.2
    else if c.major = 0x08 then x.put 0 (x.s.coreAt 0).a0
    else if c.major = 0x0A then x.put 0 ((at_ c).coreAt 0).sw
    else if c.major = 0x06 then x.put 1 (x.addr 0)
    else if c.major = 0x05 then x.put 0 0
    else if c.major = 0x38 then x.putBytes 0 (natLE 8 x.s.time)
    else if c.major = 0x39 then x.put 0 (x.s.coreAt 0).cycles
    else x.put 1 ((((at_ c).coreAt 0).pc + (encodeCore c).length) % 2 ^ 32)
  y.trap = none

theorem witness_register_and_branch : [0x01, 0x15, 0x16, 0x07, 0x09, 0x08, 0x0A, 0x06, 0x05, 0x38, 0x39, 0x30, 0x31, 0x32].all
    (fun m => samples.any (fun c => c.major = m && plainClear c)) = true := by decide +kernel

/-- LDP of WP: its second form; a Bcc whose condition holds (COND 0, always) and one whose condition does not (EQ with Z clear). -/
def ldpWp : CoreInstr := ⟨op 0x07 0 4, 0, [wp 0]⟩
def branchNot : CoreInstr := ⟨op 0x30 0 4, 0, [wp 0]⟩
theorem witness_forms : (aboutIs ldpWp && ((ops ldpWp).get 0).2.trap = none && ldpWp.opt = 4 && aboutIs branchNot && (ops branchNot).trap = none &&
    !condHolds branchNot.cond 0 && condHolds 0 0) = true := by decide +kernel

/-- RequestInstructionsAnswerTheirStatus: r can be written. -/
theorem witness_requests :
    [0x34, 0x35, 0x36, 0x37].all (fun m => samples.any (fun c => c.major = m && ((ops c).put 1 6).trap = none)) = true := by decide +kernel

/-- ItemsEndWithTheirEndCode: DONE with 0, TRAP with an operand, and a budget used up. -/
def spent : State := let s := coreNode []; s.setCore 0 { s.coreAt 0 with cycles := 1000 }
theorem witness_ends : ([0x33, 0x3A].all (fun m => samples.any (fun c => c.major = m && ((ops c).get 0).2.trap = none && ((ops c).get 0).1 ≤ 0x12)) &&
    spent.coresOn && (spent.coreAt 0).item = some 0 && spent.budgetOf 0 ≤ (spent.coreAt 0).cycles) = true := by decide +kernel

/-- TrapsArePrecise: MOV to an address that nothing has, an encoding that is not listed, and a PC that nothing has. -/
def movNowhere : CoreInstr := ⟨op 0x02 3 0, 0, [wp 0, .abs 0x01F00000]⟩
def lost : State := let s := coreNode []; s.setCore 0 { s.coreAt 0 with pc := 0x01F00000 }
theorem witness_traps : (aboutIs movNowhere && (Eff.mov (ops movNowhere)).trap = some ⟨1, 0x11, none⟩ &&
    ((coreNode [0x0F]).fetch 0).1 = .illegal && (lost.fetch 0).1 = .fault 0x11 0x01F00000 none) = true := by decide +kernel

/-- OperandWritesStoreTheirBytesOnly: a literal, an accumulator in local RAM up to its end, a word at the end of the Basin. -/
def toBasin : CoreInstr := ⟨op 0x02 3 0, 0, [.lit 3, .abs 0x00BFFFFC]⟩
theorem witness_operand_writes : (aboutIs toBasin && (ops toBasin).op 0 = (.val 3, 4) && (ops toBasin).op 1 = (.at 0x00BFFFFC, 4) &&
    (touchedWords 0x00BFFFFC 4).all (fun w => (ops toBasin).s.eccOf w = none) && (ops toBasin).s.basin.groups = [] && !(ops toBasin).lost &&
    (ops toBasin).s.lramEcc = [] &&
    samples.any (fun c => (ops c).op 2 = (.at 0x00F00110, 8))) = true := by decide +kernel

/-- R187, Tables CC-3 to CC-6, written out: MOV.W [WP + 0x10], (A1)+ is 80 09 10 10 41; ADD.B #5, [WP − 1], −(A2) is 00 34 05 10 FF 52; DONE #0 is 00
CC 00. -/
theorem test_decode_words :
    decodeCore [0x80, 0x09, 0x10, 0x10, 0x41] = .done ⟨0x0980, 0, [.wp8 0x10, .postInc 1]⟩ 5 ∧
    decodeCore [0x00, 0x34, 0x05, 0x10, 0xFF, 0x52] = .done ⟨0x3400, 0, [.lit 5, .wp8 0xFF, .preDec 2]⟩ 6 ∧
    decodeCore [0x00, 0xCC, 0x00] = .done ⟨0xCC00, 0, [.lit 0]⟩ 3 := by decide +kernel

/-- R187: a destination is no literal; MAJOR 0x3F is reserved. -/
theorem test_decode_illegal : decodeCore [0x80, 0x09, 0x01, 0x02] = .illegal ∧ decodeCore [0x00, 0xFC] = .illegal := by decide +kernel

/-- DivisionFollowsK: a division by the zero at WP + 8. -/
def divZero : CoreInstr := ⟨op 0x1A 3 0, 0, [wp 0, wp 8, wp 12]⟩
theorem witness_div_zero : (aboutIs divZero && (((ops divZero).get 0).2.get 1).1 = 0 &&
    ((((ops divZero).get 0).2.get 1).2.put 2 0).trap = none) = true := by decide +kernel

/-- R191: 0x7F + 1 in .B is 0x80: V and N, no C. 0xFF + 1 is 0: C and Z, no V. -/
theorem test_add_flags : addRes 8 0x7F 1 0 = { val := 0x80, c := some false, v := some true, z := some false, n := some true } ∧
    addRes 8 0xFF 1 0 = { val := 0, c := some true, v := some false, z := some true, n := some false } := by decide +kernel
/-- R193: SHR by the width gives 0 with C the last bit out. -/
theorem test_shr_width : (shrRes 16 0x8000 16).val = 0 ∧ (shrRes 16 0x8000 16).c = some true ∧ (sarRes 16 0x8000 200).val = 0xFFFF := by
  decide +kernel
/-- R194: −7 DIV 2 is −3 with the remainder −1; −128 DIV −1 is −128 with V. -/
theorem test_div : (divRes 8 0 0xF9 2).map (·.val) = some 0xFD ∧ (divRes 8 2 0xF9 2).map (·.val) = some 0xFF ∧
    (divRes 8 0 0x80 0xFF).map (fun r => (r.val, r.v)) = some (0x80, some true) := by decide +kernel
/-- R196: CLZ of 1 in .H is 15; CLS of −1 is 15. -/
theorem test_leading : (clzRes 16 1).val = 15 ∧ (clsRes 16 0xFFFF).val = 15 := by decide +kernel

/-! ### Dispatcher -/

/-- An image for every core with PRIO 3, its code at the start of local RAM. -/
def image : List Byte := natLE 4 0x00F00000 ++ natLE 4 0x1234 ++ natLE 4 0 ++ [3, 0, 0xFF, 0] ++ natLE 16 0
/-- The image stands at 0x1000. -/
def posting : State := (service.memPut 0x1000 image).setFld Adr.DSP_IMGADR 23 0 0x1000
/-- The image lies beyond the Basin. -/
def postingHigh : State := service.setFld Adr.DSP_IMGADR 23 0 0xBFFFF0

/-- Descriptors 0 to 4: FREE, TEMPLATE, WAITING with one peg, READY, RUNNING; 5 WAITING with two. -/
def mixed : State :=
  let d (st pegs : Nat) : Desc := { Desc.free with st := st, pegs := pegs, affinity := 0xFF, ctl := if st = 1 then 64 else 0 }
  { service with disp := { service.disp with
      desc := [(1, d 1 0), (2, d 2 1), (3, d 3 0), (4, d 4 0), (5, d 2 2)], ready := [3] } }

theorem witness_post : (service.reaches .host && posting.reaches .host && 0xC00000 < postingHigh.fld Adr.DSP_IMGADR 23 0 + 32 &&
    posting.fld Adr.DSP_IMGADR 23 0 = 0x1000 && posting.postStatus (posting.memBytes 0x1000 32) = 0 &&
    service.postStatus (service.memBytes (service.fld Adr.DSP_IMGADR 23 0) 32) = 0x02 &&
    (touchedWords 0x1000 32).all (fun w => posting.eccOf w = none)) = true := by decide +kernel

theorem witness_states : (mixed.reaches .host && (mixed.descAt 0).st = 0 && (mixed.descAt 1).st = 1 && (mixed.descAt 2).st = 2 &&
    (mixed.descAt 2).pegs = 1 && (mixed.descAt 3).st = 3 && (mixed.descAt 4).st = 4 && (mixed.descAt 5).pegs = 2 &&
    !(mixed.descAt 3).cascade && mixed.reg Adr.DSP_PEGUF = 0) = true := by decide +kernel

/-- The TEMPLATE is used by a source. -/
def sourced : State := (mixed.setReg (Adr.DSP_SRCCFG 3) 0x00028001).post 3 (List.replicate 16 7)

theorem witness_used : (sourced.fld (Adr.DSP_SRCCFG 3) 9 0 = 1 && sourced.flag (Adr.DSP_SRCCFG 3) 15 &&
    !mixed.flag (Adr.DSP_SRCCFG 3) 15 && (List.range 12).all (fun q => mixed.fld (Adr.DSP_SRCCFG q) 9 0 ≠ 1)) = true := by decide +kernel

theorem witness_dispatch : (mixed.coresOn && !mixed.disp.stopped && mixed.disp.ready = [3] && bit (mixed.descAt 3).affinity 0 &&
    (mixed.coreAt 0).item = none && !(mixed.coreAt 0).testing && !mixed.flag Adr.FAULT_RETIRED1 24 && service.disp.ready = []) = true := by
  decide +kernel

theorem witness_instantiate : (sourced.coresOn && (sourced.descAt 1).st = 1 && 0 < sourced.credit && (sourced.descAt 0).st = 0 &&
    (sourced.ring 3).waiting = [0] && (mixed.ring 3).waiting = []) = true := by decide +kernel

/-- Successor lists at 0x2000: 2 (WAITING), 3 (READY), 0x8001 (a high bit), 0 (no item). -/
def listed (cascade : Bool) (at_ left : Nat) : State :=
  let s := mixed.memPut 0x2000 (natLE 2 2 ++ natLE 2 3 ++ natLE 2 0x8001 ++ natLE 2 0)
  { s with disp := { s.disp with jobs := [⟨0, cascade, at_, left⟩] } }

theorem witness_lists : (leNat ((listed false 0x2000 4).memBytes 0x2000 2) = 2 && leNat ((listed true 0x2002 3).memBytes 0x2002 2) = 3 &&
    leNat ((listed false 0x2004 2).memBytes 0x2004 2) = 0x8001 && leNat ((listed false 0x2006 1).memBytes 0x2006 2) = 0 &&
    (touchedWords 0x2006 2).all (fun w => (listed false 0x2006 1).eccOf w = none)) = true := by decide +kernel

theorem witness_controls : (service.accepts .host Adr.DSP_DSEL 5 && service.accepts .host (Adr.APORT_CTL 0) 0 &&
    service.accepts (.trail 3) (Adr.APORT_CSCTL 6) 1 && service.accepts .host Adr.APORT_LOOPCTL 0x20) = true := by decide +kernel

/-- R214: the posted image is item 0, READY, and the command answers OK with its index. -/
theorem test_post : gives (.dspPost .host) posting (fun t => (t.descAt 0).st = 3 && t.disp.ready = [0] && t.fld Adr.DSP_CMDRES 23 16 = 0 && (t.descAt 0).arg = 0x1234) = true := by decide +kernel
/-- R215: a SIGNAL of an item that is already READY is an underflow. -/
theorem test_signal_ready : gives (.dspSignal .host 3) mixed (fun t => t.fld Adr.DSP_CMDRES 23 16 = 2 && t.reg Adr.DSP_PEGUF = 1 && t.disp.ready = [3]) = true := by decide +kernel
/-- R221: the item starts on core 0. -/
theorem test_dispatch : gives .dispatch mixed (fun t => (t.coreAt 0).item = some 3 && (t.descAt 3).st = 4 && t.disp.ready = []) = true := by decide +kernel
/-- R225: the entry becomes an item of the TEMPLATE, its address in ARG. -/
theorem test_instantiate : gives (.instantiate 3) sourced (fun t => (t.descAt 0).st = 3 && (t.descAt 0).arg = 0 && t.disp.ready = [3, 0] && (t.ring 3).waiting = []) = true := by decide +kernel

/-! ### Stream Program Engine -/

/-- Coefficient 7 is dirty, from 100 to 900; a commit is pending in the second. -/
def dirtied : State := { service with spe := { service.spe with coef := [(7, 100)], shadow := [(7, 900)], dirty := [7] } }
def pendingCommit : State := { dirtied with spe := { dirtied.spe with commit := some (5000, false) } }
/-- A load of 2 steps validates. -/
def loading : State := { service.setFld Adr.SPE_PSTAT 15 14 1 with spe := { service.spe with load := some ⟨2, false, 0⟩ } }
/-- Delay line 3 is being cleared: all of its 8 samples in W16 form; the second still has 4 bytes to go. -/
def clearing (n : Nat) : State :=
  { service.setFlag (Adr.SPE_DLCTL 3) 3 true with
    spe := { service.spe with lines := [(3, { DLine.never with clr := some n, nxt := ⟨true, true, 0, 8⟩ })] } }

theorem witness_commit : (service.reaches .host && service.spe.commit = none && dirtied.spe.dirty = [7] && pendingCommit.spe.commit ≠ none) = true := by
  decide +kernel
theorem witness_load : (loading.fld Adr.SPE_PSTAT 15 14 = 1 && loading.spe.load = some ⟨2, false, 0⟩ && service.fld Adr.SPE_PSTAT 15 14 = 0) = true := by
  decide +kernel
theorem witness_words : ((0x007FFFFF#32 : Word).truncate 24 : S24).signExtend 32 = (0x007FFFFF : Word) ∧
    ((0x00800000#32 : Word).truncate 24 : S24).signExtend 32 ≠ (0x00800000 : Word) := by decide +kernel
theorem witness_lines : (service.accepts .host (Adr.SPE_DLCTL 3) 0x100 && service.accepts .host (Adr.SPE_DLCTL 3) 0x104 &&
    ((clearing 16).dline 3).clr = some 16 && ((clearing 16).dline 3).nxt.len * 2 = 16 && ((clearing 12).dline 3).clr = some 12) = true := by
  decide +kernel

/-- R165: a ramp of 4 runs from 100 to 900 passes 300, 500 and 700. -/
theorem test_ramp : (List.range 6).map (Ramp.value ⟨100, 900, 4, 0⟩) = [100, 300, 500, 700, 900, 900] := by decide +kernel
/-- R164: a second COMMIT is refused with E_BUSY and leaves the first. -/
theorem test_commit_busy : gives (.ccmdCommit .host true) pendingCommit (fun t => t.fld Adr.SPE_CSTAT 31 24 = 4 && t.spe.commit = some (5000, false)) = true := by decide +kernel
/-- R169: LEN 0 is out of range; R171: CANCEL of a load sets DONE and leaves STATE 0. -/
theorem test_load : gives (.pcmdLoad .host 0 false) service (fun t => t.fld Adr.SPE_PSTAT 23 16 = 2 && t.spe.load = none) = true ∧
    gives (.pcmdCancel .host) loading (fun t => t.fld Adr.SPE_PSTAT 15 14 = 0 && t.flag Adr.SPE_PSTAT 24 && t.spe.load = none) = true := by decide +kernel
/-- R163: the word is the shadow's, and its coefficient dirty. -/
theorem test_coef : gives (.coefWrite .host 9 0x00000123) service (fun t => t.spe.shadow = [(9, 0x123)] && t.spe.dirty = [9] && t.spe.coef = []) = true := by decide +kernel

/-! ### Voice Array -/

/-- In RUN, voice 5 in the running state r with words from word w on. -/
def voiced (r : VRun) (w : Nat) (l : List Nat) : State :=
  { running with
    time := 10000000
    voice := { running.voice with
      runs := [(5, r)]
      words := l.zipIdx.map (fun p => (1024 * 5 + w + p.2, BitVec.ofNat 16 p.1)) } }

/-- A voice at the end of its ramp; with a start that waits; early in the ramp. -/
def ramped (k : Nat) (d : Option DStart) : State := voiced { VRun.idle with st := 3, rampK := k, defer := d } 0 []
/-- The start that waits: patch 7, key 60. -/
def waits : DStart := ⟨7, 99, 60 * 256, 100, 2, false, 0, false, false, false⟩
/-- A release since time 0 under RELMAX 1 ms; without a limit. -/
def released (code : Nat) : State := voiced { VRun.idle with st := 2 } 0x7B [code]

theorem witness_ramps : ((ramped 64 none).inRun && ((ramped 64 none).vRun 5).st = 3 && ((ramped 64 (some waits)).vRun 5).defer = some waits &&
    ((ramped 12 none).vRun 5).rampK < 64 && ((released 16).vRun 5).st = 2 &&
    bits ((released 16).vWord 5 0x7B) 13 0 ≠ 0 && timeCode (released 16).rateCode 16 * 512 ≤ (released 16).lastIntake &&
    bits ((released 0).vWord 5 0x7B) 13 0 = 0) = true := by decide +kernel

/-- Oscillator 1 at the zero of its fade; word 0x0B in a crossfade that has run; word 0x02 at the target of its glide. -/
def faded : State := voiced
  { VRun.idle with
    st := 1
    osc1 := { Osc.idle with fade := some ⟨0, true⟩ }
    fHold := [(0x08, 1)]
    xfades := [(4 * 0x18, ⟨1, 2, 32⟩)]
    glides := [(0x02, ⟨5 * 2 ^ 32, 5, false, 0, 0, 0, 64, 64⟩)] } 0x18 [3]

theorem witness_fades : (faded.inRun && (faded.vRun 5).fade .osc1 = some ⟨0, true⟩ && (faded.vRun 5).fade .mix ≠ some ⟨0, true⟩ &&
    (faded.vRun 5).xfades = [(4 * 0x18, ⟨1, 2, 32⟩)] && (faded.vRun 5).glides.length = 1) = true := by decide +kernel

/-- Envelopes that hold, end a segment, sustain, and end their last segment; an LFO past 1 and one that is not. -/
def shaped : State := voiced
  { VRun.idle with
    st := 1
    env := [{ Env.idle with hold := true }, { Env.idle with i := 9, n := 9, segl := 0x6000 }, { Env.idle with i := 9, n := 9, seg := 7, level := 77 }]
    lfo := [{ Lfo.idle with phase := 2 ^ 32 + 5, gen := 1, v1 := 3 }, Lfo.idle] } 0 []

theorem witness_segments : (shaped.inRun && (shaped.vRun 5).st ≠ 0 && ((shaped.vRun 5).env.getD 1 Env.idle).hold = false &&
    bits ((shaped.vRun 5).env.getD 1 Env.idle).segl 15 13 = 3 && 7 ≤ ((shaped.vRun 5).env.getD 2 Env.idle).seg &&
    2 ^ 32 ≤ ((shaped.vRun 5).lfo.getD 0 Lfo.idle).phase && ((shaped.vRun 5).lfo.getD 1 Lfo.idle).phase < 2 ^ 32) = true := by decide +kernel

/-- A sample of 1000, looping from 100 to 200 in form loop, at position pos, moving by inc. -/
def sampling (loop pos inc : Nat) (rev : Bool) : State := voiced
  { VRun.idle with st := 1, osc1 := { Osc.idle with
      entry := some ⟨2, loop, 0, 0, 1000, 0, 0, 100, 200, 0⟩, pos := pos * 2 ^ 32, inc := inc * 2 ^ 32, rev := rev, looping := true } } 0x08 [0x4000]

/-- The sample's hypotheses. -/
def sampled (s : State) : Bool :=
  s.inRun && (s.vRun 5).osc1.entry.isSome && oscMode ((s.vRun 5).inForce (s.vWord 5) 0x08) = 2 && !(s.vRun 5).osc1.loaded && !(s.vRun 5).osc1.ended

theorem witness_samples : (sampled (sampling 2 100 1 true) && sampled (sampling 1 199 1 false) && sampled (sampling 2 199 1 false) &&
    sampled (sampling 0 999 1 false)) = true := by decide +kernel

theorem witness_voice_write : (running.reaches .host && running.reaches (.trail 3) &&
    (runStatus (running.vWord 5) 0x80 [60 * 256, 100]).1 = 0 && (runStatus (running.vWord 5) 0x0C0 [1, 1]).1 ≠ 0) = true := by decide +kernel

/-- A hash recalculation runs, and content was written meanwhile. -/
def hashing : State :=
  { service.setFlag Adr.VOICE_HASHCTL 1 true with voice := { service.voice with dirtied := true } }
/-- A wave region of 128 KiB at 0x40000. -/
def content : State := (hashing.setFld Adr.VOICE_WAVEBASE 23 12 0x40).setFld Adr.VOICE_WAVESIZE 23 12 0x20

theorem witness_hash : (service.accepts .host Adr.VOICE_HASHCTL 1 && hashing.flag Adr.VOICE_HASHCTL 1 && !service.flag Adr.VOICE_HASHCTL 1 &&
    content.touchesContent 0x40000 4) = true := by decide +kernel

/-- VOICE_STOP of voice 5 in group 0 at time 77, at 0x3000; with a reserved SEQ; beyond the Basin. -/
def stopImage (seq : Nat) : List Byte :=
  let a := 63 * 2 ^ 42 + 1 * 2 ^ 27 + 5 * 2 ^ 18
  [22, 0x05] ++ natLE 2 0 ++ natLE 2 seq ++ natLE 8 a ++ natLE 8 77
def going (seq : Nat) : State := (running.memPut 0x3000 (stopImage seq)).setFld Adr.VOICE_EVADR 23 0 0x3000

theorem witness_go : ((going 0).reaches .host && (going 0).fld Adr.VOICE_EVADR 23 0 = 0x3000 && (going 0).memByte 0x3000 = 22 &&
    (touchedWords 0x3000 22).all (fun w => (going 0).eccOf w = none) && (going 0).trail.events.length < 1024) = true := by decide +kernel

/-- R123: at the end of the ramp the voice is IDLE; before it nothing ends. -/
theorem test_ramp_end : (gives (.rampEnd 5) (ramped 64 none) (fun t => (t.vRun 5).st = 0) &&
    gives (.rampEnd 5) (ramped 12 none) (fun t => (t.vRun 5).st = 3)) = true := by
  decide +kernel
/-- R102: the generator's next value is gen × 1,664,525 + 1,013,904,223, and v1 becomes v0. -/
theorem test_lfo_wrap : gives (.lfoWrap 5 0) shaped (fun t => ((t.vRun 5).lfo.getD 0 Lfo.idle).gen = 1015568748 &&
    ((t.vRun 5).lfo.getD 0 Lfo.idle).v0 = 3 && ((t.vRun 5).lfo.getD 0 Lfo.idle).phase = 5) = true := by decide +kernel
/-- R60: an alternating loop reflects 200 to 2 × 199 − 200 = 198 and turns. -/
theorem test_loop_reflects : gives (.sampleLoopPoint 5 0) (sampling 2 199 1 false) (fun t =>
    (t.vRun 5).osc1.pos = 198 * 2 ^ 32 && (t.vRun 5).osc1.rev) = true := by decide +kernel
/-- R25: the write is held, and the word is not changed yet. -/
theorem test_voice_write : gives (.voiceParamWrite .host 5 0x80 [0x3C00, 100]) running (fun t =>
    t.voice.held.length = 1 && t.vWord 5 0x80 = 0) = true := by decide +kernel
/-- R462: the event is queued; an image with a SEQ is refused with E_RESERVED. -/
theorem test_go : gives (.go .host) (going 0) (fun t => (t.trail.events.map (fun e => e.time)) = [77] && t.fld Adr.VOICE_EVCMD 15 8 = 0) = true ∧
    gives (.go .host) (going 9) (fun t => t.trail.events = [] && t.fld Adr.VOICE_EVCMD 15 8 = 1) = true := by decide +kernel

/-! ### Trail -/

/-- A member whose ports are in the states a and b. -/
def linked (a b : Nat) : State :=
  let s := (member.setFld (Adr.TRAIL_PSTAT 0) 2 0 a).setFld (Adr.TRAIL_PSTAT 1) 2 0 b
  { s with power := { s.power with bypassN := true }, clk := 10000000, time := 20000 }
/-- Port a of s with another running state. -/
def withA (s : State) (f : TPort → TPort) : State := s.setPort .a f

theorem witness_ports : ((linked 0 3).inserted && (linked 0 3).power.bypassN && (linked 0 3).power.relayAt = none && (linked 0 3).link .a = 0 &&
    !(linked 0 3).retired 0 && (linked 1 3).link .a = 1 && (linked 2 3).link .a = 2 && (linked 3 3).link .a = 3 &&
    ((linked 1 3).port .a).signalAt + (linked 1 3).msTicks 10 ≤ (linked 1 3).clk &&
    (service.port .a).signalAt + service.msTicks 10 > service.clk &&
    ((withA (linked 3 3) (fun q => { q with misplaced := 4 })).port .a).misplaced = 4) = true := by decide +kernel
/-- The relay's change time has ended. -/
def relaying : State := { linked 3 3 with power := { (linked 3 3).power with relayAt := some 5000 } }
theorem witness_relay : relaying.power.relayAt = some 5000 ∧ 5000 ≤ relaying.clk := by decide +kernel

/-- A member in a lock state, with what its counters say. -/
def locking (l : Nat) (slew : Bool) (f : Trail → Trail) : State := (((linked 3 3).setFld Adr.TRAIL_STAT 1 0 l).setFlag Adr.TRAIL_STAT 2 slew).setTrail f
theorem witness_locks : ((locking 1 false (fun t => { t with steady := 256 })).lock = 1 && !(linked 3 3).isHead &&
    (locking 2 false (fun t => { t with missed := 32 })).lock = 2 && (locking 2 false (fun t => { t with missed := 32 })).trail.realign = 0 &&
    (locking 3 false (fun t => { t with errs := List.replicate 16 7 })).lock = 3 && (locking 3 true (fun t => { t with steady := 1 })).flag Adr.TRAIL_STAT 2 &&
    (locking 2 false (fun t => { t with realign := 3, realignEnd := 20000 })).trail.realignEnd ≤ 20000) = true := by decide +kernel

/-- The 16 bytes of a header of stamp 512, with its check code. -/
def header : List Byte :=
  let h := [0] ++ natLE 2 7 ++ natLE 8 512 ++ natLE 2 0
  [0xBC] ++ h ++ natLE 2 (crc16 h)
/-- Bytes 0 to 1,019 of a frame with their FCRC. -/
def withFcrc (x : List Byte) : List Byte := x ++ natLE 4 (crc32 (x.drop 1))
/-- A frame with this header, no audio and no message. -/
def frame : List Byte := withFcrc (header ++ List.replicate 1004 0)

theorem header_good : Frame.headerGood header false = true := by decide +kernel

theorem header_length : (header ++ List.replicate 1004 (0 : Byte)).length = 1020 := by
  have h : header.length = 16 := by decide +kernel
  rw [List.length_append, h, List.length_replicate]

theorem withFcrc_good (x : List Byte) (hx : x.length = 1020) :
    (withFcrc x).length = 1024 ∧ Frame.fcrc (withFcrc x) = leAt (withFcrc x) 1020 4 := by
  unfold Frame.fcrc leAt withFcrc
  refine ⟨by simp [hx], ?_⟩
  have a : ((x ++ natLE 4 (crc32 (x.drop 1))).drop 1).take 1019 = x.drop 1 := by
    rw [List.drop_append_of_le_length (by omega), List.take_append_of_le_length (by simp [hx])]
    exact List.take_of_length_le (by simp [hx])
  have b : (x ++ natLE 4 (crc32 (x.drop 1))).drop 1020 = natLE 4 (crc32 (x.drop 1)) := by rw [← hx, List.drop_left]
  rw [a, b, List.take_of_length_le (by simp), leNat_natLE, Nat.mod_eq_of_lt (crc32_lt _)]

theorem withFcrc_empty (x : List Byte) (h : x[784]? = some 0) : frameMsgs (withFcrc x) = ([], 784, false) := by
  have lt : 784 < x.length := by
    rcases Nat.lt_or_ge 784 x.length with l | l
    · exact l
    · rw [List.getElem?_eq_none l] at h; cases h
  have z : byteAt (withFcrc x) 784 = 0 := by
    unfold byteAt withFcrc
    rw [List.getD_eq_getElem?_getD, List.getElem?_append_left lt, h]
    rfl
  unfold frameMsgs parseMsgs
  simp [z]

/-- CopiesAreJudgedAndForwarded, FramesStartAndAreDelivered: a frame has 1,024 bytes, and its FCRC can be right. -/
theorem witness_frame : frame.length = 1024 ∧ Frame.fcrc frame = leAt frame 1020 4 := withFcrc_good _ header_length

/-- Port A has a checked header whose copy goes to port B; a good copy waits on port A. -/
def forwarding : State :=
  let s := (linked 3 3).setPort .b (fun q => { q with peer := 2 })
  withA s (fun q => { q with hdr := some ⟨1000000, header, false, 1, some 1002516⟩, commas := [1000000], copy := some frame })
theorem witness_copies : (forwarding.inserted && forwarding.link .a = 3 && (forwarding.port .a).hdr.isSome && (forwarding.port .a).commas = [1000000] &&
    forwarding.trail.txq = [] && !forwarding.learning && (forwarding.port .a).cadence = none && forwarding.carries .b &&
    (forwarding.port .b).copy = none && forwarding.member) = true := by decide +kernel
theorem witness_delivery : (forwarding.port .a).copy = some frame ∧ frameMsgs frame = ([], 784, false) := by
  refine ⟨rfl, withFcrc_empty _ ?_⟩
  have hh : header.length = 16 := by decide +kernel
  rw [List.getElem?_append_right (by omega), hh]
  exact List.getElem?_replicate_of_lt (by decide)

/-- A trailhead. -/
def head : State := (((linked 3 3).setReg Adr.TRAIL_NODE 0x800).setFlag Adr.TRAIL_STAT 4 true).setFlag Adr.TRAIL_ROLE 0 true
theorem witness_head : (head.isHead && head.inserted && head.trail.delay = 0 && head.trail.txq = [] && head.trail.relays = [] &&
    head.trail.started = none && !member.isHead && (head.setTrail (fun t => { t with started := some 30000 })).trail.started = some 30000) = true := by
  decide +kernel

/-- A message to node n: TYPE, SRC with ZD, AUTH and NEW above it, SEQ, ENGINE, body. -/
def message (type src seq n engine : Nat) (body : List Byte) : List Byte :=
  [BitVec.ofNat 8 (14 + body.length), BitVec.ofNat 8 type] ++ natLE 2 src ++ natLE 2 seq ++ natLE 8 (mkAddr 0 63 n engine 0 0 0) ++ body

/-- Claims.passes but for the node's own part, and the row's form. -/
def passes (s : State) (b : List Byte) (i : Instr) : Bool :=
  s.inserted && !s.booting && b.length = Msg.len b && Msg.syschk b = s.fld Adr.TRAIL_SYSID 15 0 && !msgMalformed b && s.selects b && !s.authReq &&
  !s.noPack && (Msg.isNew b || (windowTake (Sp.find s.trail.win (Msg.src b)) (Msg.seq b)).1 = 0) && i.wf

theorem passes_of (s : State) (b : List Byte) (i : Instr) (h : passes s b i = true) : Claims.passes s b := by
  simp only [passes, Bool.and_eq_true, decide_eq_true_eq, Bool.not_eq_true', Bool.or_eq_true] at h
  exact ⟨h.1.1.1.1.1.1.1.1.1, h.1.1.1.1.1.1.1.1.2, h.1.1.1.1.1.1.1.2, h.1.1.1.1.1.1.2, h.1.1.1.1.1.2, h.1.1.1.1.2, h.1.1.1.2, h.1.1.2, h.1.2⟩

/-- VOICE_STOP at time t; TIME_SNAP; CMD_READ and CMD_WRITE of VOICE_SEEDGEN; CORE_CMD. -/
def stopAt (t : Nat) : List Byte := message 0x05 9 3 5 1 (natLE 8 t)
def snapMsg : List Byte := message 0x22 9 3 5 0 (natLE 2 77)
def readMsg : List Byte := message 0x20 9 3 5 0 (natLE 2 77 ++ natLE 4 Adr.VOICE_SEEDGEN ++ [1, 0])
def writeMsg : List Byte := message 0x21 9 3 5 0 (natLE 2 77 ++ natLE 4 Adr.VOICE_SEEDGEN ++ [1, 0] ++ natLE 4 1234)
def coreMsg : List Byte := message 0x23 9 3 5 3 (natLE 2 77 ++ List.replicate 16 1)

theorem witness_messages : (passes (linked 3 3) (stopAt 0) (.eventMessage (stopAt 0)) && passes (linked 3 3) (stopAt (2 ^ 25)) (.eventMessage (stopAt (2 ^ 25))) &&
    Msg.isEvent (Msg.type (stopAt 0)) && (linked 3 3).time + 2 ^ 24 < leAt (stopAt (2 ^ 25)) 14 8 && leAt (stopAt 0) 14 8 = 0 &&
    passes (linked 3 3) snapMsg (.timeSnap snapMsg) && passes (linked 3 3) readMsg (.cmdRead readMsg) && passes (linked 3 3) writeMsg (.cmdWrite writeMsg) &&
    passes (linked 3 3) coreMsg (.coreCmd coreMsg) && leAt readMsg 16 4 % 4 = 0 && byteAt writeMsg 20 = 1 && (regRow Adr.VOICE_SEEDGEN).isSome &&
    !codeReg Adr.VOICE_SEEDGEN && (linked 3 3).trail.kept = [] && Msg.engine coreMsg = 3) = true := by decide +kernel
theorem witness_write_accepted : ((Claims.heard (linked 3 3) writeMsg).draw.2.accepts (.trail 9) Adr.VOICE_SEEDGEN 1234) = true := by decide +kernel

/-- The message's REPLY is kept; its number has been seen; 1,024 events wait. -/
def kept : State := (linked 3 3).setTrail (fun t => { t with kept := [⟨9, 77, snapMsg⟩] })
def seen : State := (linked 3 3).setTrail (fun t => { t with win := [(9, (3, 0))] })
def crowded : State := (linked 3 3).setTrail (fun t => { t with events := List.replicate 1024 ⟨0, 0, 0, 0, false, false, .refused⟩ })
theorem witness_crowded : 1024 ≤ crowded.trail.events.length ∧ (linked 3 3).trail.events.length < 1024 := by
  refine ⟨?_, by decide +kernel⟩
  have h : crowded.trail.events = List.replicate 1024 ⟨0, 0, 0, 0, false, false, .refused⟩ := rfl
  simp only [h, List.length_replicate, Nat.le_refl]
theorem witness_kept : passes kept snapMsg (.timeSnap snapMsg) = true ∧
    kept.trail.kept.find? (fun k => k.src = Msg.src snapMsg && k.orig = Msg.orig snapMsg) = some ⟨9, 77, snapMsg⟩ := by decide +kernel
theorem witness_duplicate : (seen.inserted && !seen.booting && !seen.noPack && !seen.isHead && !msgMalformed snapMsg && !Msg.isNew snapMsg &&
    (windowTake (Sp.find seen.trail.win (Msg.src snapMsg)) (Msg.seq snapMsg)).1 = 1 && (Instr.timeSnap snapMsg).wf) = true := by decide +kernel

/-- HELLO of a serial with WANT none, as NEW to the trailhead; ADMIT and REFUSE; MAPSET and SLOTSET of epoch 3; REPLY; HEAD_CLAIM. -/
def hello (serial rate : Nat) : List Byte := message 0x30 0x2000 0 0 6 (natLE 8 serial ++ natLE 2 0 ++ [BitVec.ofNat 8 rate, 0] ++ natLE 8 0 ++ natLE 4 0x80008000 ++ natLE 2 0)
def admitMsg : List Byte := message 0x31 0 3 5 6 (natLE 8 Config.serial ++ natLE 2 8 ++ natLE 2 72 ++ natLE 8 5 ++ [0, 0])
def refuseMsg : List Byte := message 0x32 0 3 5 6 (natLE 8 1 ++ [4, 0])
def mapsetMsg : List Byte := message 0x33 0 3 5 6 (natLE 2 3 ++ natLE 2 1 ++ natLE 2 5 ++ natLE 2 1)
def slotsetMsg : List Byte := message 0x34 0 3 5 6 (natLE 2 3 ++ [0, 1, 0, 0] ++ natLE 2 0x8005)
def replyMsg (status : Nat) : List Byte := message 0x2F 9 3 5 0 (natLE 2 77 ++ [BitVec.ofNat 8 status, 0])
def claimMsg (serial : Nat) : List Byte := message 0x35 9 3 0 6 (natLE 8 serial ++ natLE 2 9)
/-- A command with ORIGSEQ 77 to node 9 is outstanding. -/
def waiting (left : Nat) : State := (linked 3 3).setTrail (fun t => { t with cmds := [⟨9, 77, [], true, left, 0, 0x0F⟩] })

theorem witness_join : (passes head (hello 1 3) (.hello (hello 1 3)) &&
    head.admitStatus (hello 1 3) false = 0x11 && passes member admitMsg (.admitMsg admitMsg) && passes member refuseMsg (.refuse refuseMsg) &&
    passes member mapsetMsg (.mapset mapsetMsg) && passes member slotsetMsg (.slotset slotsetMsg) && leAt mapsetMsg 14 2 ≠ member.reg Adr.TRAIL_EPOCH &&
    member.trail.wanted = none && !member.dbl && passes (waiting 0) (replyMsg 0) (.reply (replyMsg 0)) &&
    passes (waiting 3) (replyMsg 4) (.reply (replyMsg 4)) &&
    ((waiting 3).trail.cmds.find? (fun c => c.dest = Msg.src (replyMsg 4) && c.orig = Msg.orig (replyMsg 4))).isSome &&
    passes member (message 0x30 9 3 5 6 ((hello 1 1).drop 14)) (.hello (message 0x30 9 3 5 6 ((hello 1 1).drop 14)))) = true := by decide +kernel

/-- The serial of an ADMIT for this node, and of a claim by another. -/
theorem witness_serials : leAt admitMsg 14 8 = Config.serial % 2 ^ 64 ∧ leAt (claimMsg (Config.serial + 1)) 14 8 ≠ Config.serial % 2 ^ 64 := by
  have e (x : Nat) (h t : List Byte) (hl : h.length = 14) : leAt (h ++ natLE 8 x ++ t) 14 8 = x % 2 ^ 64 := by
    unfold leAt
    rw [List.append_assoc, ← hl, List.drop_left, List.take_append_of_le_length (by simp), List.take_of_length_le (by simp), leNat_natLE]
  refine ⟨e Config.serial (admitMsg.take 14) _ rfl, ?_⟩
  have c := e (Config.serial + 1) ((claimMsg (Config.serial + 1)).take 14) (natLE 2 9) rfl
  rw [show claimMsg (Config.serial + 1) = (claimMsg (Config.serial + 1)).take 14 ++ natLE 8 (Config.serial + 1) ++ natLE 2 9 from rfl, c]
  omega

/-- A serial that is not the node's own is granted a number. -/
theorem witness_admit : ∃ x, head.admitStatus (hello x 1) false = 0 ∧ (head.grantNode x 0).isSome = true ∧ x < 3 := by
  by_cases h : Config.serial % 2 ^ 64 = 1
  · refine ⟨2, ?_, by decide +kernel, by decide⟩
    have : (2 : Nat) ≠ Config.serial % 2 ^ 64 := by omega
    have e : leAt (hello 2 1) 14 8 = 2 := by decide +kernel
    have a : leAt (hello 2 1) 22 2 = head.fld Adr.TRAIL_SYSID 15 0 := by decide +kernel
    have r : byteAt (hello 2 1) 24 = head.rateCode := by decide +kernel
    have n : head.trail.nodes = [] := by decide +kernel
    unfold State.admitStatus
    generalize Config.serial % 2 ^ 64 = g at this ⊢
    simp [firstFail, e, a, r, n, this]
  · refine ⟨1, ?_, by decide +kernel, by decide⟩
    have : (1 : Nat) ≠ Config.serial % 2 ^ 64 := by omega
    have e : leAt (hello 1 1) 14 8 = 1 := by decide +kernel
    have a : leAt (hello 1 1) 22 2 = head.fld Adr.TRAIL_SYSID 15 0 := by decide +kernel
    have r : byteAt (hello 1 1) 24 = head.rateCode := by decide +kernel
    have n : head.trail.nodes = [] := by decide +kernel
    unfold State.admitStatus
    generalize Config.serial % 2 ^ 64 = g at this ⊢
    simp [firstFail, e, a, r, n, this]

/-- What falls due: a HELLO, a row of the table with an ADMIT out, one unheard, the map, a command, a takeover, the end of listening. -/
def helloDue : State := (linked 3 3).setTrail (fun t => { t with helloNow := true })
def rows (run : Option (Nat × Nat × Nat)) : State := head.setTrail (fun t => { t with nodes := [⟨7, 4, 0, true, 0, 0, false, run⟩] })
def armed : State := ((linked 3 3).setFlag Adr.TRAIL_ROLE 4 true).setTrail (fun t => { t with judged := [512] })
def listening (heard : Bool) : State := (linked 0 0).setTrail (fun t => { t with listenAt := some 0, heard := heard })
theorem witness_due : (helloDue.inserted && !helloDue.booting && !helloDue.isHead && helloDue.link .a = 3 && !helloDue.learning &&
    ((rows (some (1, 5, 0))).trail.nodes.find? (fun e => e.serial = 7)).isSome && (rows none).isHead && (rows none).msTicks 1000 > (rows none).clk &&
    (rows none).msTicks 10 ≤ (rows none).clk && head.trail.mapSent + head.msTicks 100 ≤ head.clk && !(service.trail.mapSent + service.msTicks 100 ≤ service.clk) &&
    ((waiting 3).trail.cmds.find? (fun c => c.dest = 9)).isSome && (waiting 3).msTicks ((waiting 3).fld Adr.TRAIL_CMDCFG 7 0) ≤ (waiting 3).clk &&
    armed.flag Adr.TRAIL_ROLE 4 && !armed.isHead && armed.inserted && armed.missedFrame.isSome &&
    (listening true).trail.listenAt = some 0 && !(listening false).isHead && (listening false).msTicks 2 ≤ (listening false).clk) = true := by decide +kernel
/-- A row unheard for a second. -/
def unheard : State := { rows none with clk := 30000000 }
theorem witness_unheard : unheard.msTicks 1000 ≤ unheard.clk ∧ head.accepts .host Adr.TRAIL_LEAD 72 = true ∧ head.reaches .host = true := by decide +kernel

/-- R278: numbers 3 to 40 of a source whose highest is 35 with 34 seen: 36 is new, 35 and 34 duplicates, 33 is new. -/
theorem test_window : (windowTake (some (35, 1)) 36).1 = 0 ∧ (windowTake (some (35, 1)) 35).1 = 1 ∧ (windowTake (some (35, 1)) 34).1 = 1 ∧
    (windowTake (some (35, 1)) 33).1 = 0 ∧ (windowTake (some (35, 1)) 3).1 = 0 ∧ (windowTake (some (35, 1)) 2).1 = 2 := by decide +kernel
/-- Example of chapter 00: SYSCHK 0x4B1C, zone 63, node 317, engine 1, group 12, voice 5, PARAM 0x02A. -/
theorem test_address : mkAddr 0x4B1C 63 317 1 12 5 0x02A = 0x4B1CFC9E8B140A80 := by decide +kernel
/-- R262: a comma takes a port from SIGNAL to ALIGNING. -/
theorem test_comma : gives (.commaFound .a) (linked 1 3) (fun t => t.link .a = 2 && t.link .b = 3) = true := by decide +kernel
/-- R305: the event is queued. R308: TIME_SNAP is answered with a REPLY of two words. -/
theorem test_event : gives (.eventMessage (stopAt 99)) (linked 3 3) (fun t => t.trail.events.map (fun e => (e.time, e.src, e.seq)) = [(99, 9, 3)]) = true ∧
    gives (.timeSnap snapMsg) (linked 3 3) (fun t => t.trail.txq.map (fun m => (Msg.type m.bytes, Msg.node m.bytes, byteAt m.bytes 17, leAt m.bytes 18 4)) =
      [(0x2F, 9, 2, 20000)]) = true := by decide +kernel

/-! ### Audio ports and analogue outputs -/

/-- A node whose SAP 0, a slave of 2 channels, receives and sends; MUTED or not; with a clock and FIFOs. -/
def port (muted : Bool) (clk : PClk) (fifo tx : List (List Int)) : State :=
  let s := ((linked 3 3).setReg (Adr.APORT_FMT 0) (2 * 512 + 2 * 16 + 4)).setReg (Adr.APORT_STAT 0) (1 + 2 * b2n muted)
  s.setAport 0 (fun a => { a with rxRun := true, txRun := true, clk := clk, fifo := fifo, txFifo := tx })
/-- SAP 0 as a master. -/
def master : State := (port false ⟨[], 0, 0, 0, false⟩ [] []).setFlag (Adr.APORT_CTL 0) 1 true

theorem witness_fifos : ((port false ⟨[], 0, 0, 0, false⟩ [] [[1, 2]]).inserted && !(port false ⟨[], 0, 0, 0, false⟩ [] []).apRetired 0 &&
    (port false ⟨[], 0, 0, 0, false⟩ [] []).apSlave 0 && ((port false ⟨[], 0, 0, 0, false⟩ [] []).aport 0).rxRun && !(port false ⟨[], 0, 0, 0, false⟩ [] []).apMuted 0 &&
    (port true ⟨[], 0, 0, 0, false⟩ [] []).apMuted 0 && !(port true ⟨[], 0, 0, 0, false⟩ [] []).apFlag 0 0 && !master.apSlave 0 &&
    (port false ⟨[], 0, 0, 0, false⟩ [] []).apHz [512 * 256] = 48000) = true := by decide +kernel

/-- A clock that stands still; 16 periods off; 256 good periods (of one in the list) while MUTED. -/
theorem witness_clocks : ((port false ⟨[131072], 0, 0, 0, false⟩ [] []).flag (Adr.APORT_STAT 0) 0 && 2 * 512 ≤ (port false ⟨[131072], 0, 0, 0, false⟩ [] []).clk &&
    !(port false ⟨[140000], 16, 0, 0, false⟩ [] []).apMuted 0 && 16 ≤ ((port false ⟨[140000], 16, 0, 0, false⟩ [] []).pclk 0).off &&
    (port false ⟨[140000], 16, 0, 0, false⟩ [] []).shaped && (port true ⟨[131072], 0, 256, 0, false⟩ [] []).rateRight [131072] &&
    256 ≤ ((port true ⟨[131072], 0, 256, 0, false⟩ [] []).pclk 0).stable && !(port false ⟨[], 0, 0, 0, false⟩ [] []).apFlag 8 0 &&
    !(port false ⟨[], 0, 0, 0, false⟩ [] []).apMuted 8) = true := by decide +kernel

/-- BPR 0 receives. A block of zeros is a consumer's and passes; one whose first bit says professional, with a wrong code, does not. -/
def block : State := (linked 3 3).setAport 4 (fun a => { a with rxRun := true })
theorem witness_blocks : ((block.aport 4).rxRun && !block.apMuted 4 && csGood (List.replicate 24 0) && !csGood (1 :: List.replicate 23 0) &&
    !((linked 3 3).aport 4).rxRun) = true := by decide +kernel
/-- The loop of a trailhead follows SAP 0, which does not run; it stands at its limit. -/
def loop : State := (head.setReg Adr.APORT_LOOPCTL 1)
theorem witness_loop : (loop.flag Adr.APORT_LOOPCTL 0 && loop.flag Adr.TRAIL_STAT 4 && loop.aports.release = none && !(loop.aport 0).rxRun &&
    !member.flag Adr.APORT_LOOPCTL 0) = true := by decide +kernel

/-- DAC 1 has fallen in SERVICE; channel 2 in range 1 moves from 1000 to 5000; channel 3 in its clamp; channel 4 drives a current. -/
def outputs : State :=
  let s := (linked 3 3).setReg (Adr.COUT_CTL 2) 0x101 |>.setReg (Adr.COUT_SLEW 2) 64 |>.setReg (Adr.COUT_CTL 3) 2
  let s := s.setDac 1 ⟨true, 0, 0, false⟩ |>.setCout 2 ⟨1, 1000, 5000, .none, true, true, 0, 0⟩ |>.setCout 3 ⟨1, 0, 0, .clamp 5, true, true, 0, 0⟩
  let s := s.setCout 4 ⟨3, 40000, 40000, .none, true, true, 0, 0⟩
  { s with time := 0, ana := { s.ana with vdda28 := true } }
theorem witness_outputs : ((outputs.dac 1).opened && (outputs.dac 1).gain = 0 && !outputs.inRun && outputs.trail.realign = 0 && outputs.shaped &&
    outputs.inserted && (outputs.cout 2).seq = .none && (outputs.cout 2).range ≠ 0 && outputs.flag (Adr.COUT_CTL 2) 8 &&
    (outputs.cout 3).seq = .clamp 5 && outputs.accepts .host Adr.ADAC_CTL 0xF && outputs.accepts .host (Adr.COUT_CTL 0) 0x101 && !outputs.retired 11 &&
    !outputs.retired 16 && (outputs.cout 4).range = 3 && !outputs.flag (Adr.COUT_STAT 4) 19 && 65535 < 100 * (outputs.cout 4).out && !outputs.retired 18) = true := by
  decide +kernel
/-- COMPL is set since clock time 0. -/
def complied : State := { outputs.setFlag (Adr.COUT_STAT 4) 19 true with clk := 30000000 }
theorem witness_compl : (complied.flag (Adr.COUT_STAT 4) 19 && (complied.cout 4).complAt + complied.msTicks 1000 ≤ complied.clk && complied.shaped) = true := by
  decide +kernel

/-- R353: one step towards the target, and no further. -/
theorem test_slew : gives (.slewStep 2) outputs (fun t => (t.cout 2).out = 1064 && (t.cout 2).target = 5000) = true := by decide +kernel
/-- R326: the frame joins the FIFO, cut to the port's two channels. -/
theorem test_fifo : gives (.sapFrameReceived 0 ⟨[5, -1, 9], 131072, [], [], false⟩) (port false ⟨[131072], 0, 1, 0, false⟩ [[7, 7]] []) (fun t =>
    (t.aport 0).fifo = [[7, 7], [5, -1]] && t.reg (Adr.APORT_RATE 0) = 48000) = true := by decide +kernel
/-- R334: nothing to send repeats and counts. -/
theorem test_under : gives (.txFrameStart 0) (port false ⟨[], 0, 0, 0, false⟩ [] []) (fun t => t.reg (Adr.APORT_UNDER 0) = 1) = true := by decide +kernel

/-! ### Serial ports and timers -/

/-- Port 0 in a mode, enabled, 8 data bits, armed or disarmed, with a running state. -/
def serial (mode : Nat) (f : SerPort → SerPort) : State :=
  let s := ((linked 3 3).setReg (Adr.SER_CTL 0) (mode + 8)).setReg (Adr.SER_FMT 0) 8 |>.setReg (Adr.SER_DIV 0) 64
  s.setSerp 0 f
/-- The same with SER_STAT bit i set. -/
def serialFlag (mode i : Nat) : State := (serial mode id).setFlag (Adr.SER_STAT 0) i true

theorem witness_characters : ((serial 0 id).shaped && (serial 0 id).serOn 0 && (serial 0 id).serMode 0 = 0 && !(serial 0 id).flag (Adr.SER_STAT 0) 19 &&
    !((serial 0 id).serp 0).de && !(serial 0 id).flag (Adr.SER_CTL 0) 4 && (serialFlag 0 19).flag (Adr.SER_STAT 0) 19 &&
    ((serial 0 (fun p => { p with shift := some 65, tx := [66], flow := some 0x11 })).serp 0).flow = some 0x11 &&
    ((serial 0 (fun p => { p with shift := some 65, tx := [66] })).serp 0).tx = [66] && ((serial 0 id).serp 0).shift = none &&
    ((serial 0 (fun p => { p with de := true })).serp 0).ends ≤ (serial 0 id).clk && (serial 0 id).fld (Adr.SER_FMT 0) 3 0 = 8 &&
    (serial 0 (fun p => { p with lowAt := some 5 })).msTicks 100 + 5 ≤ (serial 0 id).clk && ((serial 0 id).reg (Adr.SER_STUCK 0) = 100) &&
    ((serial 0 (fun p => { p with rx := [65] })).serp 0).rx = [65] && (serial 0 id).reaches .host && (serial 0 id).accepts .host (Adr.SER_TXDATA 0) 65 &&
    (serial 0 id).accepts .host (Adr.SER_DIV 0) 100 && (serial 0 id).accepts .host (Adr.SER_CTL 0) 0x1A28) = true := by decide +kernel
/-- A queue of 32 characters takes no more from a core; the host is refused. -/
theorem witness_full : ((serial 0 (fun p => { p with tx := List.replicate 32 65 })).serp 0).tx.length = 32 := by decide +kernel

theorem witness_frames : ((serial 2 id).shaped && (serial 2 id).serOn 0 && (serial 2 id).accepts .host (Adr.SER_FCMD 0) 0x12 &&
    (serial 2 id).serp 0 = SerPort.reset && ((serial 2 (fun p => { p with frame := .listen 1 2 false [] })).serp 0).frame = .listen 1 2 false [] &&
    ((serial 2 id).serp 0).rbit * 420 / 160 ≤ (serial 2 id).clk && (serial 4 id).serMode 0 = 4 && ((serial 4 id).serp 0).rdm = none &&
    ((serial 4 id).serp 0).started = none && (touchedWords 2176 2).all (fun w => (serial 4 id).eccOf w = none) && (serial 5 id).serMode 0 = 5 &&
    (serial 5 id).msTicks 1250 > (serial 5 id).clk && !(serial 5 id).flag (Adr.SER_DMXCTL 0) 9 &&
    (serial 4 id).accepts .host (Adr.SER_FCMD 0) (64 + 256 + 512 * 4) && (serial 5 id).accepts .host (Adr.SER_FCMD 0) (64 + 256 + 512 * 4) &&
    ((serial 5 (fun p => { p with packetAt := 9999999 })).serp 0).packetAt + (serial 5 id).msTicks 2 > (serial 5 id).clk &&
    ((serial 4 (fun p => { p with rdm := some 5 })).serp 0).rdm = some 5 && (serial 4 id).basin.groups = []) = true := by decide +kernel
/-- The clock has run 1,250 ms without a packet. -/
theorem witness_loss : ({ serial 5 id with clk := 40000000 } : State).msTicks 1250 ≤ ({ serial 5 id with clk := 40000000 } : State).clk := by decide +kernel

/-- Timer 2 counts in mode 1 with a PER and a CMP; timers 4 and 5 are linked; group 1 waits for its boundary. -/
def timed (x : Tmr) : State :=
  let s := (((linked 3 3).setReg (Adr.TMR_CTL 2) 1).setReg (Adr.TMR_PER 2) 100).setReg (Adr.TMR_CTL 4) 4
  let s := { s with tmr := { s.tmr with chans := s.tmr.chans.set 2 x } }
  (s.setReg (Adr.TMR_GCTL 1) (2 ^ 18 + 4))
/-- One tick before CMP, and one before the wrap. -/
def beforeMatch : State := timed { Tmr.reset with cnt := 9, cmp := 10, per := 100 }
def beforeWrap : State := timed { Tmr.reset with cnt := 99, cmp := 10, per := 100 }

theorem witness_timers : (beforeMatch.shaped && beforeMatch.power.vddao && !beforeMatch.power.held && !beforeMatch.linkedHigh 2 && !beforeMatch.tmrStopped &&
    (beforeMatch.tch 2).jump = none && beforeMatch.tmrMod 2 = 100 && beforeMatch.tmrCount 2 = 9 && beforeWrap.tmrCount 2 + 1 = 100 &&
    beforeMatch.time + 1 < beforeMatch.nextBoundary && beforeMatch.linkedLow 4 && beforeMatch.linkedHigh 5) = true := by decide +kernel
theorem witness_timer_commands : (beforeMatch.accepts .host (Adr.TMR_CNT 2) 5 && beforeMatch.accepts .host (Adr.TMR_CNT 4) 5 &&
    beforeMatch.accepts .host (Adr.TMR_CNT 5) 5 && beforeMatch.reaches .host && beforeMatch.accepts .host (Adr.TMR_CTL 2) 2 &&
    (beforeMatch.setReg (Adr.TMR_CTL 2) 2).tmrMode 2 = 2 && beforeMatch.accepts .host (Adr.TMR_GCTL 0) (2 ^ 17 + 4) &&
    beforeMatch.flag (Adr.TMR_GCTL 1) 18 && beforeMatch.inserted && beforeMatch.gtime 1 ≤ 0 && beforeMatch.members 1 = [2]) = true := by decide +kernel

/-- R367: a character whose stop bit is 0 enters with FE, and one whose samples differ with NOISE; both are counted. -/
theorem test_receive : gives (.receiveCharacter 0 ⟨[0, 3, 0, 0, 0, 0, 0, 7, 0, 0], 0, true⟩) (serial 0 id) (fun t =>
    (t.serp 0).rx = [0x1241] && t.reg (Adr.SER_FERR 0) = 1 && t.reg (Adr.SER_NOISE 0) = 1) = true := by decide +kernel
/-- R376: identifier 0x12 has parity bits 6 and 7 of 0 ⊕ 1 ⊕ 0 ⊕ 1 and not (1 ⊕ 0 ⊕ 1 ⊕ 0): 0x92. -/
theorem test_pid : gives (.sendHeader .host 0 0x12) (serial 2 id) (fun t => (t.serp 0).out = [0x55, 0x92] && (t.serp 0).shift = some 256) = true := by
  decide +kernel
/-- R390: the step to CMP sets CMPF; R387: the step past PER wraps to 0 and sets OVF. -/
theorem test_compare : gives (.compareMatch 2) beforeMatch (fun t => t.flag (Adr.TMR_STAT 2) 0 && !t.flag (Adr.TMR_STAT 2) 1 && (t.tch 2).cnt = 10) = true ∧
    gives (.timerWrap 2) beforeWrap (fun t => t.flag (Adr.TMR_STAT 2) 1 && (t.tch 2).cnt = 0) = true := by decide +kernel

/-! ### Power, resets and start-up -/

/-- A transition under way from mode m. -/
def moving (m target : Nat) (fall quiet : Nat) (s : State) : State :=
  { s with power := { s.power with trans := some ⟨m, target, fall, quiet⟩ } }
/-- REST, nothing under way; LANTERN. -/
def rest : State := inMode 2
def lantern : State := inMode 1

theorem witness_commands : (service.accepts .host Adr.PWR_MODECMD 1 && service.accepts .host Adr.PWR_MODECMD 4 && service.accepts .host Adr.PWR_MODECMD 5 &&
    running.accepts .host Adr.PWR_MODECMD 2 && service.power.trans.isNone && (linked 3 3).accepts .host Adr.PWR_WAKESEND 3 &&
    (linked 3 3).power.burstA.isNone && (linked 3 3).power.burstB.isNone) = true := by decide +kernel
/-- From REST with the PLL locked, and before; between the Trail's modes; into REST. -/
theorem witness_entered : ((moving 2 4 0 0 rest).flag Adr.CLK_STAT 0 && (moving 2 4 0 0 rest).supply .vddt && (moving 2 4 0 0 rest).supply .vdda &&
    !((moving 2 4 0 0 rest).setFlag Adr.CLK_STAT 0 false).flag Adr.CLK_STAT 0 && (moving 4 3 0 0 service).time % service.spt = 0 &&
    ({ moving 4 3 0 0 service with time := 5 } : State).time % service.spt ≠ 0 && (moving 4 2 0 2 service).basin.copying.isEmpty &&
    (moving 4 2 0 2 service).cores.all (fun c => c.item.isNone) && (moving 4 1 0 2 service).ustate ≠ 6 && (moving 4 1 0 1 service).power.trans.isSome) =
    true := by decide +kernel
theorem witness_wake : (!rest.power.held && rest.power.vddao && rest.power.trans.isNone && rest.mode = 2 && lantern.mode = 1 && !lantern.power.held &&
    lantern.power.vddao && rest.fld Adr.PWR_WAKECFG 2 0 = 3 && rest.flag Adr.PWR_WAKECFG 3) = true := by decide +kernel
/-- A burst on port A up to 100. -/
def bursting (clk : Nat) : State := { service with clk := clk, power := { service.power with burstA := some 100 } }
theorem witness_bursts : ((bursting 100).power.burstA = some 100 && 100 ≤ (bursting 100).clk && (bursting 99).clk < 100) = true := by decide +kernel

/-- A reset asked for, a watchdog at 0, a node on the Trail. -/
def expiring : State :=
  let s := service.setFlag Adr.PWR_WDOG 16 true
  { s with clk := 50, power := { s.power with resetAt := some 50, wdog := 0 } }
theorem witness_resets : (expiring.power.vddao && !expiring.power.held && expiring.mode ≠ 1 && expiring.flag Adr.PWR_WDOG 16 && expiring.coresOn &&
    expiring.power.wdog = 0 && expiring.supply .vddt && expiring.supply .vdda && expiring.inserted && expiring.ustate ≠ 6 &&
    expiring.basin.copying.isEmpty && !rest.inserted && !((service.setReg Adr.PWR_SUPPLY 0).supply .vddt) && service.accepts .host Adr.SYS_RESET 0x5AFE &&
    service.power.resetAt.isNone && !service.flag Adr.PWR_WDOG 16) = true := by decide +kernel

/-- Start-up, as far as step n, with CLK_STAT c. -/
def starting (n c : Nat) : State :=
  let s := (State.reset.setReg Adr.PWR_SUPPLY 0x1F).setReg Adr.CLK_STAT c
  { s with power := { s.power with vddao := true, held := false, pwrenC := true, startup := n } }
theorem witness_startup : ((starting 0 0).power.vddao && !(starting 0 0).power.held && !(starting 0 0).power.xtal && !(starting 0 0).flag Adr.PWR_STAT 8 &&
    (starting 0 0).power.pwrenC && !(starting 0 0).flag Adr.CLK_STAT 1 && (starting 0 0).supply .vddc && (starting 0 0).supply .vddt &&
    (starting 0 0).supply .vdda && (starting 1 2).flag Adr.CLK_STAT 1 && !(starting 1 2).flag Adr.CLK_STAT 0 && (starting 1 2).mode = 6 &&
    (starting 1 2).power.startup = 1 && (starting 1 2).power.needClear && (starting 3 3).booting && (starting 3 3).power.startup = 3 &&
    !(starting 3 3).pack.bootDone && (starting 3 3).supply .vddio1 && !(starting 3 3).candidate 0 && !(starting 3 3).candidate 1 &&
    ({ starting 0 0 with clk := (starting 0 0).msTicks 1000 } : State).power.xtalStart + (starting 0 0).msTicks 1000 ≤ (starting 0 0).msTicks 1000) = true := by
  decide +kernel
/-- The boot is done. -/
def booted : State := { starting 3 3 with pack := { (starting 3 3).pack with bootDone := true, bootTarget := 4 } }
theorem witness_booted : (booted.booting && !booted.power.held && booted.pack.bootDone && booted.flag Adr.CLK_STAT 0 && booted.supply .vddt &&
    booted.supply .vdda && booted.pack.bootTarget < 8 && !booted.retired 0) = true := by decide +kernel

/-- R399: MODE, BUSY and TARGET after a command to RUN, before it is entered. -/
theorem test_mode_command : gives (.modeRun .host) service (fun t => t.mode = 4 && t.flag Adr.PWR_STAT 3 && t.fld Adr.PWR_STAT 6 4 = 5) = true := by
  decide +kernel
/-- R409: the watchdog's reset shows WDOG and starts at BOOT. -/
theorem test_watchdog : gives .watchdogExpiry expiring (fun t => t.mode = 6 && t.flag Adr.PWR_RSTCAUSE 3) = true := by decide +kernel
/-- R411: from the PLL's lock the Basin is cleared first. -/
theorem test_pll : gives .pllLock (starting 1 2) (fun t => t.flag Adr.BASIN_STAT 0 && t.power.startup = 2) = true := by decide +kernel
/-- R429: the boot target waits for VDDA. -/
theorem test_booted : gives .booted (booted.setReg Adr.PWR_SUPPLY 0x0F) (fun t => t.mode = 6 && !t.flag Adr.HOST_IRQ 0) = true := by decide +kernel

/-! ### Pack, update and fault log; units -/

/-- SERVICE, the update session in state st, owned by the Host but in IDLE; NEXT is 8. -/
def session (st : Nat) : State :=
  let s := (service.setFld Adr.PACK_USTAT 2 0 st).setReg Adr.PACK_UNEXT 8
  { s with pack := { s.pack with owner := if st = 0 then none else some .host } }

theorem witness_session : ((session 2).reaches .host && (session 2).pack.owner = some (ownerOf .host) && (session 2).supply .vddio1 && (session 0).pack.owner.isNone &&
    (session 0).ustate = 0 && (session 5).ustate = 5 && (session 3).ustate = 3 && (session 4).ustate = 4 && (session 6).ustate = 6 && (session 2).pack.work ≠ .page &&
    (session 2).reg Adr.PACK_UNEXT = 8 && 8 + 192 ≤ (session 2).bankSize - 0x1000 && (session 0).flag Adr.PACK_STAT 1 = false &&
    ((session 0).setFlag Adr.PACK_STAT 1 true).flag Adr.PACK_STAT 1 && (session 0).pack.logq.length < 16 && (session 0).mode = 4 && !(session 0).fused &&
    (session 0).flashSize < 2 ^ 31 + 4 && 4 ≤ (session 0).flashSize && (session 0).reg Adr.PACK_UADR + 32 ≤ 0xC00000 && (session 0).basin.ecc.isEmpty) = true := by
  decide +kernel

/-- One record waits for the log. -/
def logging : State := { service with pack := { service.pack with logq := [List.replicate 31 1] } }
theorem witness_work : ((session 1).ustate = 1 && (session 2).ustate ≠ 1 && (session 3).ustate = 3 && (session 6).ustate = 6 &&
    logging.supply .vddio1 && logging.inserted && logging.pack.work ≠ .page && logging.pack.work ≠ .commit && logging.pack.logPos < 32768 &&
    20 ≤ logging.pack.log2size && logging.pack.flash.isEmpty && service.pack.logq.isEmpty) = true := by decide +kernel

/-- Core 3 holds item 7; core 2 is the only live one; line unit 9 is retired. -/
def coreBusy : State := { service with cores := service.cores.set 3 { Core.idle with item := some 7 } }
def lastCore : State := (service.setReg Adr.FAULT_RETIRED1 0xFB000000)
def retiredLine : State := service.setReg Adr.FAULT_RETIRED0 0x200
/-- The test of a line, or of core 3, runs. -/
def testing (u : Nat) : State := { service with flt := { service.flt with testUnit := some u } }

theorem witness_units : (service.reaches .host && service.roleStatus .host Adr.FAULT_CMD 0 = 0 && service.shaped && service.mode = 4 && running.mode ≠ 4 &&
    running.shaped && service.flt.testUnit.isNone && (testing 9).flt.testUnit = some 9 && (testing 9).shaped && retiredLine.retired 9 && retiredLine.shaped &&
    !service.retired 9 && (service.coreAt 3).item.isNone && service.liveCores ≠ [3] && (coreBusy.coreAt 3).item.isSome && coreBusy.shaped &&
    lastCore.liveCores = [2] && !lastCore.retired 58 && (lastCore.coreAt 2).item.isNone && lastCore.shaped && service.inserted &&
    (service.setReg Adr.FAULT_RETIRED0 1).retired 0 && (testing 59).flt.testUnit = some 59) = true := by decide +kernel

/-- R432: BEGIN erases the commit sector of the target bank (bank 1 with bank 0 active) and NEXT is 0. -/
theorem test_begin : gives (.packBegin .host) (session 0) (fun t => t.ustate = 1 && t.reg Adr.PACK_UNEXT = 0 && t.pack.work = .erase) = true := by decide +kernel
/-- R432: WRITE at NEXT goes 4096 bytes after the bank's base, and only clears bits. -/
theorem test_pack_write : gives (.packWrite .host 8#32 [1, 2, 3, 4]) (session 2) (fun t =>
    t.flashByte ((session 2).bankBase (session 2).targetBank + 0x1000 + 9) = 2 && t.reg Adr.PACK_UNEXT = 12) = true := by decide +kernel
/-- R432: a WRITE elsewhere than NEXT is E_SEQ. -/
theorem test_pack_seq : gives (.packWrite .host 12#32 [1, 2, 3, 4]) (session 2) (fun t => t.fld Adr.PACK_USTAT 23 16 = 0x0D) = true := by decide +kernel
/-- R437: a record ends with its complete byte 0x5A. -/
theorem test_log : gives .faultLogWrite logging (fun t => t.flashByte (logging.logBase + 31) = 0x5A && t.flashByte logging.logBase = 1 && t.pack.logPos = 1) = true := by
  decide +kernel
/-- R443: a running core is retired at the end of its item. -/
theorem test_retire : gives (.retire .host 59#6) coreBusy (fun t => !t.retired 59 && (t.coreAt 3).retireAtEnd = some 4) = true := by decide +kernel
theorem test_readmit : gives (.readmit .host 9#6 true) retiredLine (fun t => !t.retired 9) = true := by decide +kernel
theorem test_readmit_fails : gives (.readmit .host 9#6 false) retiredLine (fun t => t.retired 9 && t.fld Adr.FAULT_CMDRES 7 0 = 9) = true := by decide +kernel

/-! ### Basin -/

/-- Word 5 corrected and waiting, word 130 not correctable; a remapped row is being copied. -/
def repairing : State :=
  { service with basin := { service.basin with
      writeback := [5], ecc := [(5, false), (130, true)], copying := [(bankOf 130, rowOf 130)] } }
/-- The sweep runs at region 3; or at the last one; with every spare of word 200's bank in use. -/
def sweeping (k : Nat) : State := (service.setReg Adr.BASIN_SWCTL 1).setFld Adr.BASIN_SWSTAT 15 0 k
def sparesSpent : State := (sweeping 3).setReg (Adr.BASIN_SPARE (bankOf 200 / 8)) 0x88888888
/-- The power-up clear runs. -/
def powerClearing : State := State.reset.setFlag Adr.BASIN_STAT 0 true
/-- Master 4 has written byte 0 of word 0x800 in this cycle. -/
def grouped : State :=
  { service with basin := { service.basin with groups := [⟨0x800, service.clk, [0, 0, 0, 0], [⟨4, 0, [some 1, none, none, none], false⟩]⟩] } }
theorem witness_group : grouped.basin.groups.find? (fun h => decide (h.word = 0x2000 / 4)) =
    some ⟨0x2000 / 4, grouped.clk, [0, 0, 0, 0], [⟨4, 0, [some 1, none, none, none], false⟩]⟩ ∧ (4 : Nat) ≠ 6 ∧ [(1 : Byte), 2].length ≤ 4 - 0x2000 % 4 := by
  decide +kernel

theorem witness_basin : (repairing.basin.writeback.contains 5 && !repairing.basin.writeback.contains 6 && service.basin.copying.isEmpty &&
    repairing.basin.copying = [(bankOf 130, rowOf 130)] && repairing.basin.ecc.contains (130, true) && (sweeping 3).inserted &&
    (sweeping 3).flag Adr.BASIN_SWCTL 0 && (sweeping 3).basin.ecc.isEmpty && (sweeping 49151).fld Adr.BASIN_SWSTAT 15 0 + 1 = 49152 &&
    (sweeping 49151).reg Adr.BASIN_SWPASS < 2 ^ 31 - 1 && (sweeping 3).sparesUsed (bankOf 200) < 8 && 8 ≤ sparesSpent.sparesUsed (bankOf 200) &&
    !(service.setReg Adr.BASIN_SWCTL 0).flag Adr.BASIN_SWCTL 0 && powerClearing.flag Adr.BASIN_STAT 0 && !service.flag Adr.BASIN_STAT 0) = true := by decide +kernel

/-- R245: the write-back leaves word 5 without an error. -/
theorem test_writeback : gives (.eccWriteback 5) repairing (fun t => t.eccOf 5 = none && t.basin.writeback.isEmpty && t.eccOf 130 = some true) = true := by
  decide +kernel
/-- R249: the last region of a pass starts the next pass. -/
theorem test_sweep : gives (.sweepRegion []) (sweeping 49151) (fun t => t.fld Adr.BASIN_SWSTAT 15 0 = 0 && t.reg Adr.BASIN_SWPASS = 1) = true := by decide +kernel
theorem test_sweep_remap : gives (.sweepRegion [8]) (sweeping 3) (fun t => t.sparesUsed (bankOf 200) = 1 && t.flag Adr.BASIN_STAT 2) = true := by decide +kernel
theorem test_clear : gives .basinClearEnd powerClearing (fun t => !t.flag Adr.BASIN_STAT 0 && t.power.startup = 3) = true := by decide +kernel

/-! ### Host interface -/

/-- A message of type 0x05 as a host sends it. -/
def plainMessage : List Byte := message 0x05 0 0 5 0 [0, 0, 0, 0, 0, 0, 0, 0]
/-- A READ of two words at 0x100 with its CCRC, one whose CCRC is wrong, one that stops short. -/
def readFrame : List Byte := Spi.frame 1 0x100 2 []
def badFrame : List Byte := [1, 0, 1, 0, 0, 2, crc8 [1, 0, 1, 0, 0, 2] ^^^ 1]
/-- A node that boots. -/
def bootNode : State := starting 3 3

theorem witness_spi : (service.spiServed && bootNode.spiServed && bootNode.booting && !service.booting && Spi.complete readFrame && !Spi.complete (readFrame.take 6) &&
    Spi.complete badFrame && !Spi.crcGood badFrame && Spi.crcGood (Spi.frame 9 0 0 []) && Spi.op (Spi.frame 9 0 0 []) = 9 &&
    Spi.headStatus (Spi.frame 3 4 0 []) = 1 && Spi.headStatus (Spi.frame 1 0 65 []) = 2 && Spi.headStatus (Spi.frame 1 2 1 []) = 5 &&
    Spi.headStatus readFrame = 0 && !Spi.bootRead readFrame && service.basin.ecc.isEmpty && !service.flag Adr.TRAIL_AUTHCTL 1 &&
    service.reg Adr.HOST_CRCERR < 2 ^ 31 - 1) = true := by decide +kernel
theorem witness_send : (linked 3 3).sendStatus plainMessage = 0 ∧ ((linked 3 3).spiServed && !(linked 3 3).booting && !(linked 3 3).flag Adr.TRAIL_AUTHCTL 1 &&
    Msg.len plainMessage = plainMessage.length && !Msg.isCommand (Msg.type plainMessage) && !Msg.auth plainMessage) = true := by
  refine ⟨?_, by decide +kernel⟩
  have room : ¬ txLimit ≤ (linked 3 3).txUsed := by
    have h : (linked 3 3).txUsed = 0 := by decide +kernel
    rw [h]; unfold txLimit; simp
  unfold State.sendStatus
  rw [decide_eq_false room]
  decide +kernel

/-- R455: a frame with a wrong CCRC is answered E_CRC and counted. -/
theorem test_spi_crc : gives (.spiRead badFrame) service (fun t => t.host.miso.head? = some 0x0B && t.reg Adr.HOST_CRCERR = 1) = true := by decide +kernel
/-- R453: during boot a READ of the Basin is E_BUSY. -/
theorem test_spi_boot : gives (.spiRead readFrame) bootNode (fun t => t.host.miso.head? = some 0x04) = true := by decide +kernel
/-- R456: a WRITE stores its words, the low byte first. -/
theorem test_spi_write : gives (.spiWrite (Spi.frame 2 0x100 1 [1, 2, 3, 4])) service (fun t => leNat (t.memBytes 0x100 4) = 0x04030201) = true := by decide +kernel

/-! ### Register writes -/

theorem witness_writes : (service.accepts .host Adr.PACK_UADR 0x1234 && (regRow Adr.PACK_UADR).isSome && service.accepts .host Adr.HOST_CRCERR 0x80000000 &&
    service.reaches .host && !bootNode.reaches (.core 0) && (regRow 0x02000FFC).isNone && (regRow 0x02000000).any (fun r => r.readOnly) &&
    !service.accepts .host Adr.SYS_RESET 1 && !service.accepts (.core 1) Adr.SYS_RESET 1) = true := by decide +kernel
/-- Every register of the list is in the register map, and takes some write. -/
theorem witness_plain : Claims.plain.all (fun a => (regRow a).isSome) = true := by decide +kernel
/-- An access of core 1, which runs an item. -/
def coreWrites : State := { service with cores := service.cores.set 1 { Core.idle with item := some 7 } }
theorem witness_rows : (Claims.writes .host (.sysReset .host 1) = some (Adr.SYS_RESET, 1) && !codeReg Adr.SYS_RESET && coreWrites.reaches (.core 1) &&
    !coreWrites.accepts (.core 1) Adr.SYS_RESET 1 && (coreWrites.coreAt 1).item = some 7 && !lantern.reaches .host) = true := by decide +kernel

/-- R459: a bit outside the defined ones refuses the write. -/
theorem test_reserved : gives (.registerWrite .host 0x0200F010#32 0x80000000#32) service (fun t => t.reg Adr.HOST_IRQEN = 1) = true := by decide +kernel

/-! ### Boundaries -/

/-- Half a sample period into RUN; a node in REST. -/
def midSample : State := { running with time := 256, clk := 256 }
theorem witness_boundary : (midSample.inserted && midSample.trail.realign ≠ 2 && midSample.power.trans.isNone && midSample.shaped && midSample.inRun &&
    !rest.inserted) = true := by decide +kernel

/-! ### Boundary values of single clauses -/

/-- FramesPassThroughTheFifos, ClocksBlocksAndTheLoopAreWatched: a supplied port whose rate stays right, in a glitch and out of one; the 256th stable
period of a wrong rate; WCLK running; a good clock and a source at its limit. -/
def wrongRate : State := port false ⟨[98304], 0, 255, 0, false⟩ [] []
theorem witness_steady : ((port false ⟨[131072], 0, 0, 0, false⟩ [] []).apSupplied && (port false ⟨[131072], 0, 0, 0, false⟩ [] []).apHz [131072, 131072] ≠ 0 &&
    withinPm 60 (131072 * 1) 131072 && !withinPm 60 (150000 * 1) 131072 && wrongRate.apSupplied && !wrongRate.apFlag 0 0 && !wrongRate.apFlag 0 2 &&
    255 ≤ (wrongRate.pclk 0).stable && (wrongRate.pclk 0).near 98304 5 && wrongRate.apHz [98304, 98304] ≠ 0 && !wrongRate.rateRight [98304, 98304] &&
    !(linked 3 3).apFlag 8 0 && !(linked 3 3).apMuted 8 && (linked 3 3).apHz [131072] ≠ 0 && ((port false ⟨[], 0, 0, 0, false⟩ [] []).aport 0).txFifo.isEmpty &&
    (port true ⟨[131072], 0, 256, 0, false⟩ [] []).apSlave 0) = true := by decide +kernel
def limited : State :=
  let s := (head.setReg Adr.APORT_LOOPCTL 1).setAport 0 (fun a => { a with rxRun := true })
  { s with clk := 400000000, aports := { s.aports with limitAt := some 0 } }
theorem witness_limited : (limited.aports.limitAt = some 0 && limited.msTicks 10000 ≤ limited.clk && (limited.aport 0).rxRun && !limited.apMuted 0) = true := by
  decide +kernel

/-- OutputsMoveAndFaultByTheirRules: a channel before the old range's zero code and at it, one that goes to RANGE 0, one on its way to its target. -/
def changing (seq : CSeq) (out range : Nat) : State :=
  (outputs.setReg (Adr.COUT_CTL 5) (0x100 + range)).setReg (Adr.COUT_SLEW 5) 64 |>.setCout 5 ⟨1, out, 500, seq, true, true, 0, 0⟩
theorem witness_changing : ((changing .toZero 1000 2).coutRange 5 = 2 && (changing .toZero 10 2).slew 5 = (64, 25) && (changing .toZero 10 0).coutRange 5 = 0 &&
    ((changing .toTarget 480 1).cout 5).seq = .toTarget && (changing .toTarget 480 1).shaped && ((changing (.clamp 0) 0 2).cout 5).seq = .clamp 0 &&
    0 < (changing (.clamp 0) 0 2).clampTicks && (changing (.clamp 0) 0 0).coutRange 5 = 0) = true := by decide +kernel

/-- PortsTrainAndFall: sets of a port that sends its own; CopiesAreJudgedAndForwarded: a comma out of its place; FramesStartAndAreDelivered: the start of a cycle,
a claim heard; TrailTimersRunAndTimeIsCaptured: a lead written by the host and in the boot. -/
def misplacedComma : State := withA forwarding (fun q => { q with cadence := some 500000 })
def cycleStart : State := { head with time := 20480 }
/-- Boot applies records as writes made in SERVICE (R425). -/
def loadingPack : State := bootNode.setFld Adr.PWR_STAT 3 0 4
theorem witness_trail_clauses : ((linked 2 3).power.burstA.isNone && (linked 2 3).power.burstB.isNone &&
    ((withA (linked 2 3) (fun q => { q with sets := 1023 })).port .a).sets + 1 = 1024 && (misplacedComma.port .a).cadence = some 500000 &&
    500000 + 512 * 256 + 25 < 1000000 && cycleStart.isHead && cycleStart.sub < 256 && cycleStart.time % 512 = 0 && cycleStart.trail.commitFor = none &&
    (cycleStart.setTrail (fun t => { t with stopping := true })).trail.stopping && head.time % 512 ≠ 0 && loadingPack.booting &&
    loadingPack.accepts .boot Adr.TRAIL_LEAD 72 && loadingPack.reaches .boot && !head.booting && !head.leadOk 5 && member.leadOk 72 &&
    (forwarding.member && forwarding.tapSlots = [])) = true := by decide +kernel
/-- A node with a receive tap, whose slot no node owns. -/
def tapped : State := forwarding.setReg (Adr.SPE_INMAP 48) 0x103
theorem witness_taps : tapped.tapSlots = [3] := by decide +kernel

/-- CharactersPassThroughTheQueues, FramesAndPacketsAreSentAndTaken: a shifter at its end and before it, a line low for STUCK_TIME, a frame that answers, a
header, DMX of mode 5, a DMX period that has passed, an RDM exchange. -/
theorem witness_serial_clauses : (((serial 0 (fun p => { p with shift := some 65 })).serp 0).done ≤ (serial 0 id).clk &&
    ((serial 0 (fun p => { p with shift := some 65, done := 99999999 })).serp 0).done > (serial 0 id).clk &&
    ((serial 0 (fun p => { p with lowAt := some 0 })).serp 0).lowAt = some 0 &&
    ((serial 2 (fun p => { p with frame := .respond 1 [1, 2] })).serp 0).frame = .respond 1 [1, 2] && (serialFlag 5 20).flag (Adr.SER_STAT 0) 20 &&
    (serial 5 id).accepts .host (Adr.SER_FCMD 0) (64 + 256 + 512 * 4) && (serial 5 id).serOn 0 && !((serial 5 id).serp 0).de &&
    ((serial 4 (fun p => { p with started := some 0 })).serp 0).ends ≤ (serial 4 id).clk &&
    (serial 4 id).msTicks ((serial 4 id).fld (Adr.SER_DMXTIM 0) 24 17) ≤ (serial 4 id).clk && !(serialFlag 0 17).serOn 1 &&
    (serial 0 id).fld (Adr.SER_FMT 0) 5 4 = 0 && !(serial 0 id).flag (Adr.SER_CTL 0) 5) = true := by decide +kernel

/-- TimersMatchAndWrap, TimerCommandsTakeEffect: the slow clock, standing and in mid-period; a staged write; a filtered edge of a prescaled channel. -/
def slowTimers (acc : Nat) : State := { beforeMatch with tmr := { beforeMatch.tmr with slow := true, acc := acc } }
def staging : State := timed { Tmr.reset with cnt := 99, cmp := 10, per := 100, staged := some (20, 200) }
theorem witness_timer_clauses : ((slowTimers 0).tmr.slow && (slowTimers 7).tmr.acc ≠ 0 && (slowTimers 0).flag Adr.CLK_STAT 0 &&
    (staging.tch 2).staged = some (20, 200) && staging.tmrMode 2 = 1 && !(beforeMatch.setFlag Adr.CLK_STAT 0 false).tmr.slow &&
    (beforeMatch.setReg (Adr.TMR_CTL 2) 0x802).fld (Adr.TMR_CTL 2) 18 11 = 1 && !beforeMatch.linkedLow 2 &&
    (beforeMatch.setReg (Adr.TMR_GTIMELO 0) 5).gtime 0 = 5 &&
    ({ beforeMatch with tmr := { beforeMatch.tmr with late := [1] } } : State).tmr.late = [1]) = true := by decide +kernel

/-- ModesAreCommandedAndEntered, ResetsKeepTheirDomains, StartUpRunsInOrder: a supply that is lost or found, a transition of a node whose reload waits for its
quiet cycle, boot on a flash without a pack, the crystal qualified or late. -/
def unsupplied : State := service.setReg Adr.PWR_SUPPLY 0x0F
theorem witness_power_clauses : ((moving 4 3 0 0 service).sub < 256 && (moving 4 3 0 0 service).power.reloadQuiet = 0 && !service.borrowed && unsupplied.power.vddao &&
    [Supply.vddc, .vddt, .vdda, .vddio1].any (fun u => !unsupplied.supply u) && (starting 3 3).power.vddao && !(starting 3 3).power.held &&
    ((starting 0 0).power.xtalStart + (starting 0 0).msTicks 1000 > (starting 0 0).clk) && service.basin.copying.isEmpty) = true := by decide +kernel

/-- UpdateOperationsFollowTheState: another source's session, a flash without supply, a page under way, a reload on the Trail and off it, FUSE on blank fuses. -/
def darkFlash : State := (session 0).setReg Adr.PWR_SUPPLY 0
theorem witness_pack_clauses : ((session 2).pack.owner ≠ some (ownerOf (.trail 3)) && (session 2).reaches (.trail 3) && !darkFlash.supply .vddio1 && darkFlash.reaches (.trail 3) &&
    ({ session 2 with pack := { (session 2).pack with work := .page } } : State).pack.work = .page && (session 0).inserted &&
    (linked 3 3).inserted && (linked 3 3).power.bypassN && !(session 0).power.bypassN && (session 0).flashSize = 16777216 && !(session 0).fused &&
    (session 0).mode = 4 && (session 0).reg Adr.PACK_UADR + 4 ≤ 0xC00000 && (session 0).basin.groups = [] && running.mode ≠ 4) = true := by decide +kernel

/-- TheBasinRepairsItself: a region borrowed; one not yet due. EntriesAndSuccessorsTakeEffect: the last credit. GoQueuesAnEvent: another system; a bad word. -/
theorem witness_basin_clauses : ((sweeping 3).basin.sweepAt ≤ (sweeping 3).clk && ((sweeping 3).setFlag Adr.BASIN_STAT 1 true).flag Adr.BASIN_STAT 1 &&
    !((sweeping 3).setFlag Adr.BASIN_STAT 1 false).flag Adr.BASIN_STAT 1 && ({ sweeping 3 with basin := { (sweeping 3).basin with sweepAt := 9 } } : State).clk < 9 &&
    sourced.sourcesAhead 3 = 0 && 0 < sourced.nFree && (sourced.ring 3).next % 4 = 0 && sourced.disp.rings.length = 12 &&
    ((going 0).setReg Adr.TRAIL_SYSID 5).fld Adr.TRAIL_SYSID 15 0 ≠ Msg.syschk (stopImage 0) &&
    ((({ going 0 with basin := { (going 0).basin with ecc := [(0xC00, true)] } } : State).basinRead Master.host 0x3000 22).1 = none) &&
    ((going 0).basinRead Master.host 0x3000 22).1 = some (stopImage 0)) = true := by decide +kernel

/-- SpiFramesAreAnswered: no write of this cycle, and one of another. -/
theorem witness_clear : Claims.clear service 0x100 4 ∧ Claims.clear { grouped with clk := 9 } 0x2000 4 := by
  refine ⟨⟨fun w _ _ => ?_, fun g hg => ?_⟩, ⟨fun w _ _ => ?_, fun g hg _ => ?_⟩⟩
  · rfl
  · exact absurd (show g ∈ ([] : List WordGroup) from hg) (by simp)
  · rfl
  · simp [grouped] at hg; subst hg; decide
/-! ### Commands that no one can give (WellFormed) -/

/-- A command that is refused for its form. -/
def illFormed (i : Instr) : Bool :=
  !i.wf && match exec i service with
  | .fault .illFormed => true
  | _ => false

theorem test_wf_header : illFormed (.frameHeader .a (List.replicate 15 0) 0) = true := by decide +kernel
theorem test_wf_frame : illFormed (.frameReceived .a (List.replicate 1023 0) 0 0) = true := by decide +kernel
theorem test_wf_block : illFormed (.csBlock 6 (List.replicate 47 0) (List.replicate 48 0)) = true := by decide +kernel
theorem test_wf_dmx : illFormed (.dmxReceivePacket 0 ⟨[], 0, 0, 0, 0, 0⟩) = true := by decide +kernel
theorem test_wf_event : illFormed (.eventMessage (message 0x0E 9 1 5 0 [])) = true := by decide +kernel
theorem test_wf_commands : (illFormed (.cmdRead (message 0x21 9 1 5 0 [])) && illFormed (.cmdWrite (message 0x20 9 1 5 0 [])) &&
    illFormed (.timeSnap [15, 0x22, 0, 0, 0, 0, 0, 0, 0, 0, 0, 0, 0, 0]) && illFormed (.coreCmd (message 0x24 9 1 5 0 [])) &&
    illFormed (.reply (message 0x30 9 1 5 0 []))) = true := by decide +kernel
theorem test_wf_management : (illFormed (.hello (message 0x31 9 1 5 0 [])) && illFormed (.admitMsg (message 0x30 9 1 5 0 [])) &&
    illFormed (.refuse (message 0x31 9 1 5 0 [])) && illFormed (.mapset (message 0x34 9 1 5 0 [])) &&
    illFormed (.slotset (message 0x33 9 1 5 0 [])) && illFormed (.headClaim [])) = true := by decide +kernel

/-! ### The queue and the invariants -/

/-- A node whose queue holds two commands. -/
def queueing : State := service.queued [.modeRun .host, .modeEntered]
theorem witness_queue : (queueing.queueWf && queueing.canonical && queueing.shaped && service.canonical && State.reset.canonical &&
    State.reset.shaped) = true := by decide +kernel
theorem witness_step : (match step queueing with | .next t => t.canonical && t.shaped | _ => false) = true := by decide +kernel
/-- The command at the front is taken, and the next one waits. -/
theorem test_step : (match step queueing with | .next t => t.pending = [.modeEntered] && t.fld Adr.PWR_STAT 6 4 = 5 | _ => false) = true := by decide +kernel
/-- On an empty queue the clock ticks. -/
theorem test_idle : (match step (service.queued []) with | .next t => t.pending = [] && t.clk = service.clk + 1 && t.time = service.time + 1 | _ => false) = true := by
  decide +kernel
/-- No row of the table gives bits. -/
theorem test_decode : decodeTableWord 32 0 = none := rfl

end Sys2Proof.Tests
end

/-!
SUPPORT. What REGISTER_WRITE does (R9, R31, R459): where the registers of the map stand, which of them a write only stores, and what
the write of a source is in each case.
-/
section
namespace Sys2Proof.Machine

variable {s : State} {src : Source} {a v : Nat} {addr value : Word} {r : RegRow}

/-! ### The places of the register map -/

theorem findRow_some {l : List RegRow} (h : findRow a l = some r) : r ∈ l ∧ (r.idx a).isSome = true := by
  induction l with
  | nil => exact absurd h (by simp [findRow])
  | cons x t ih =>
    rw [findRow] at h
    split at h
    next hit =>
      obtain rfl := Option.some.inj h
      exact ⟨List.mem_cons_self, hit⟩
    next => exact ⟨List.mem_cons_of_mem _ (ih h).1, (ih h).2⟩

/-- An address that a row holds is its base and a multiple of each stride. -/
theorem RegRow.eq_of_idx_isSome (h : (r.idx a).isSome = true) :
    ∃ i < r.count, ∃ j < r.count2, a = r.base + r.stride * i + r.stride2 * j := by
  have outer := Nat.div_add_mod (a - r.base) r.stride
  have inner := Nat.div_add_mod ((a - r.base) % r.stride) r.stride2
  unfold RegRow.idx at h
  dsimp only at h
  split at h
  next => cases h
  next below =>
  split at h
  next => cases h
  next past =>
  split at h
  next single =>
    split at h
    next aligned => exact ⟨(a - r.base) / r.stride, by omega, 0, by omega, by omega⟩
    next => cases h
  next several =>
    split at h
    next fits => exact ⟨(a - r.base) / r.stride, by omega, (a - r.base) % r.stride / r.stride2, fits.2, by omega⟩
    next => cases h

/-- What holds at every place of the table holds of every register and its row. -/
theorem forall_of_regRow {P : RegRow → Nat → Prop}
    (table : ∀ r ∈ regTable, ∀ i < r.count, ∀ j < r.count2, P r (r.base + r.stride * i + r.stride2 * j))
    (row : regRow a = some r) : P r a := by
  obtain ⟨mem, held⟩ := findRow_some row
  obtain ⟨i, hi, j, hj, rfl⟩ := r.eq_of_idx_isSome held
  exact table r mem i hi j hj

/-- A word of the register blocks (R31). -/
abbrev InRegBlocks (a : Nat) : Prop := a % 4 = 0 ∧ 0x02000000 ≤ a ∧ a < 0x02010000

theorem inRegBlocks_of_regRow (row : regRow a = some r) : InRegBlocks a :=
  forall_of_regRow (P := fun _ a => InRegBlocks a) (by decide +kernel) row

/-! ### Registers that a write only stores -/

/-- The single registers whose write does more than store bits. -/
def actingRegs : List Nat :=
  [Adr.SYS_RESET, Adr.PWR_MODECMD, Adr.PWR_WDOG, Adr.PWR_WAKESEND, Adr.CLK_RATE, Adr.DSP_DSEL, Adr.SPE_STAT, Adr.VOICE_WAVEBASE,
   Adr.VOICE_WAVESIZE, Adr.VOICE_PATCHBASE, Adr.VOICE_HASHCTL, Adr.VOICE_NODEPOSXY, Adr.VOICE_NODEPOSZ, Adr.TRAIL_LEAD, Adr.TRAIL_SNAPCTL]

/-- The base, stride and count of the arrays of registers whose write does more than store bits. -/
def actingArrays : List (Nat × Nat × Nat) :=
  [(Adr.SPE_DLCTL 0, 4, 64), (Adr.SPE_TAPCTL 0, 4, 20), (Adr.APORT_CSCTL 0, 0x100, 8), (Adr.COUT_CTL 0, 0x20, 8), (Adr.COUT_CODE 0, 0x20, 8)]

/-- The serial and timer registers whose write does more than store bits. -/
def actingSerTmr (a : Nat) : Bool :=
  (a / 0x1000 % 16 = 0xB && (a % 0x100 = 0x00 || a % 0x100 = 0x08 || a % 0x100 = 0x14 || a % 0x100 = 0x24 || a % 0x100 = 0x34)) ||
  (a / 0x1000 % 16 = 0xC && a < 0x0200C200 && a % 0x20 < 0x10) || (a / 0x1000 % 16 = 0xC && 0x0200C200 ≤ a && a % 0x10 = 0)

/-- The register at address a is nothing but its bits: a write of it is no command and has no effect of its own. -/
def storesOnly (a : Nat) : Bool :=
  !codeReg a && !actingRegs.contains a && actingArrays.all (fun p => (arrIx a p.1 p.2.1 p.2.2).isNone) && !actingSerTmr a

theorem codeReg_of_storesOnly (h : storesOnly a = true) : codeReg a = false := by
  simp only [storesOnly, Bool.and_eq_true, Bool.not_eq_true'] at h
  exact h.1.1.1

/-- An accepted write of a register that is nothing but its bits stores them. -/
theorem State.regApply_of_storesOnly (s : State) (r : RegRow) (v : Nat) (h : storesOnly a = true) : s.regApply r a v = s.storeReg r a v := by
  simp only [storesOnly, Bool.and_eq_true, Bool.not_eq_true'] at h
  obtain ⟨⟨⟨-, single⟩, array⟩, serTmr⟩ := h
  simp [actingRegs] at single
  simp [actingArrays] at array
  simp only [actingSerTmr, Bool.or_eq_false_iff] at serTmr
  unfold State.regApply
  simp [single, array, serTmr]

/-- Every counter is nothing but its bits (Table TL-12). -/
theorem storesOnly_of_isCounter (row : regRow a = some r) (counter : r.isCounter = true) : storesOnly a = true :=
  forall_of_regRow (P := fun r a => r.isCounter = true → storesOnly a = true) (by decide +kernel) row counter

theorem storesOnly_of_mem_plain : ∀ a ∈ Claims.plain, storesOnly a = true := by decide +kernel

theorem not_isCounter_of_mem_plain : ∀ a ∈ Claims.plain, ∀ r ∈ regRow a, r.isCounter = false := by decide +kernel

/-! ### Free values -/

@[simp] theorem State.draw_reg (s : State) (a : Nat) : s.draw.2.reg a = s.reg a := rfl

/-- What a source reaches depends on no free value. -/
@[simp] theorem State.draw_reaches (s : State) (src : Source) : s.draw.2.reaches src = s.reaches src := by
  cases src <;> rfl

/-- The checks of a write depend on no free value. -/
@[simp] theorem State.draw_regStatus (s : State) (src : Source) (a v : Nat) : s.draw.2.regStatus src a v = s.regStatus src a v := rfl

/-- The rules over several registers depend on no free value that was drawn before a store. -/
theorem State.draw_storeReg_rulesFor (s : State) (r : RegRow) (a v : Nat) (l : List Nat) :
    (s.draw.2.storeReg r a v).rulesFor l = (s.storeReg r a v).rulesFor l := by
  unfold State.storeReg
  split
  · split <;> rfl
  · rfl

/-- The acceptance of a write that only stores bits: the checks of R459 and the rules on what it leaves. -/
theorem State.accepts_iff_of_storesOnly (only : storesOnly a = true) (row : regRow a = some r) : s.accepts src a v = true ↔
    (s.reaches src = true ∧ s.regStatus src a v = 0) ∧ ruleFail [a] ((s.storeReg r a v).rulesFor [a]) = none := by
  unfold State.accepts
  simp [row, codeReg_of_storesOnly only, State.regApply_of_storesOnly s r v only]

/-- A free value decides on no write that only stores bits. -/
theorem State.draw_accepts (only : storesOnly a = true) (row : regRow a = some r) (acc : s.accepts src a v = true) :
    s.draw.2.accepts src a v = true := by
  rw [State.accepts_iff_of_storesOnly only row] at acc ⊢
  rwa [State.draw_reaches, State.draw_regStatus, State.draw_storeReg_rulesFor]

/-! ### Refused writes -/

@[simp] theorem State.setCode_pending (s : State) (a st : Nat) : (s.setCode a st).pending = s.pending := by
  simp only [State.setCode, State.spePcode, State.speCcode, State.packCode, apply_ite State.pending, State.setFld_pending, ite_self]

/-- A write that a check about the register alone refuses keeps the status in the CODE of a command register, and does nothing else (R459). -/
theorem State.regWrite1_refused (pass : Bool) (bad : s.regStatus src a v ≠ 0) : s.regWrite1 src a v pass =
    (s.regStatus src a v, if codeReg a = true ∧ regRow a ≠ none then s.setCode a (s.regStatus src a v) else s) := by
  unfold State.regWrite1
  simp [bad]

/-- A refused write of one word that is no command register: nothing changes (R459). -/
theorem State.busWrites_refused (pass : Bool) (lo : 0x02000000 ≤ a) (hi : a < 0x02010000) (code : codeReg a = false)
    (bad : s.regStatus src a v ≠ 0) : s.busWrites src a [v] pass = (s.regStatus src a v, a, s) := by
  have one : (List.range [v].length).map (fun i => (a + 4 * i, [v].getD i 0)) = [(a, v)] := rfl
  have first : s.busWrite1 src a v pass = (s.regStatus src a v, s) := by
    unfold State.busWrite1
    rw [State.place_reg s _ lo hi]
    simp [State.regWrite1_refused pass bad, code]
  unfold State.busWrites
  simp only [one]
  simp [State.pass1, first, bad, code, wordDropped_reg _ lo]

theorem State.refusedBy_of_not_core (notCore : srcIsCore src = false) : s.refusedBy src = s := by
  cases src with
  | core k => exact absurd notCore (by simp [srcIsCore])
  | host | trail _ | boot => rfl

/-- A refused write of a register by a source that is no core (R459). -/
theorem State.writeBy_refused (pass : Bool) (lo : 0x02000000 ≤ a) (hi : a < 0x02010000) (reach : s.reaches src = true)
    (notCore : srcIsCore src = false) (bad : s.regStatus src a v ≠ 0) : s.writeBy src a v pass =
    if codeReg a = true ∧ regRow a ≠ none then s.setCode a (s.regStatus src a v) else s := by
  cases code : codeReg a
  case true => rw [State.writeBy_command pass lo hi code reach (.inl notCore), State.regWrite1_refused pass bad, code]
  case false =>
    have refused := State.busWrites_refused pass lo hi code bad
    unfold State.writeBy
    cases src with
    | core k => exact absurd notCore (by simp [srcIsCore])
    | host | trail _ | boot => simp [reach, refused, code]

/-! ### REGISTER_WRITE -/

theorem exec_registerWrite (s : State) (src : Source) (addr value : Word) :
    exec (.registerWrite src addr value) s = execRegisterWrite src addr value s := rfl

/-- At an address of a register, REGISTER_WRITE is the write of the source after one draw. -/
theorem exec_registerWrite_inside (inside : InRegBlocks addr.toNat) :
    exec (.registerWrite src addr value) s =
      .next ((s.draw.2.writeBy src addr.toNat value.toNat (s.draw.1 % 2 = 1)).queued s.pending) := by
  rw [exec_registerWrite, execRegisterWrite]
  simp [State.run, inside]

/-- Anywhere else REGISTER_WRITE is a refused access of a source that reaches the node. -/
theorem exec_registerWrite_outside (outside : ¬ InRegBlocks addr.toNat) :
    exec (.registerWrite src addr value) s = .next ((if s.reaches src then s.refusedBy src else s).queued s.pending) := by
  rw [exec_registerWrite, execRegisterWrite]
  simp only [State.run, Bool.and_eq_true, decide_eq_true_eq, and_assoc, if_neg outside]

/-- An accepted write of a register that is nothing but its bits. -/
theorem exec_registerWrite_accepted (row : regRow addr.toNat = some r) (only : storesOnly addr.toNat = true)
    (acc : s.accepts src addr.toNat value.toNat = true) :
    exec (.registerWrite src addr value) s = .next ((s.draw.2.storeReg r addr.toNat value.toNat).queued s.pending) := by
  obtain ⟨aligned, lo, hi⟩ := inRegBlocks_of_regRow row
  rw [exec_registerWrite_inside ⟨aligned, lo, hi⟩, State.writeBy_accepted _ row lo hi (codeReg_of_storesOnly only)
    (State.draw_accepts only row acc), State.regApply_of_storesOnly _ r _ only]

/-- An accepted write of a counter zeroes it where SAT is written 1 (Table TL-12). -/
theorem exec_registerWrite_counter (row : regRow addr.toNat = some r) (counter : r.isCounter = true)
    (acc : s.accepts src addr.toNat value.toNat = true) :
    exec (.registerWrite src addr value) s = .next (if bit value.toNat 31 then s.draw.2.setReg addr.toNat 0 else s.draw.2) := by
  rw [exec_registerWrite_accepted row (storesOnly_of_isCounter row counter) acc, State.storeReg, if_pos counter]
  split <;> rfl

/-- An accepted write of a plain register stores its RW bits and clears its W1C bits written 1 (R9). -/
theorem exec_registerWrite_plain (row : regRow addr.toNat = some r) (plain : addr.toNat ∈ Claims.plain)
    (acc : s.accepts src addr.toNat value.toNat = true) :
    exec (.registerWrite src addr value) s = .next (s.draw.2.setReg addr.toNat ((value.toNat &&& r.rw) |||
      (s.reg addr.toNat &&& (0xFFFFFFFF - r.rw) &&& (0xFFFFFFFF - (value.toNat &&& r.w1c))))) := by
  have notCounter := not_isCounter_of_mem_plain _ plain r row
  rw [exec_registerWrite_accepted row (storesOnly_of_mem_plain _ plain) acc, State.storeReg, if_neg (by simp [notCounter])]
  rfl

/-- A source that does not reach the node writes nothing: a register's write takes its draw alone. -/
theorem exec_registerWrite_unreached (inside : InRegBlocks addr.toNat)
    (reach : s.reaches src = false) : exec (.registerWrite src addr value) s = .next s.draw.2 := by
  rw [exec_registerWrite_inside inside, State.writeBy]
  simp only [State.draw_reaches, reach]
  rfl

/-- Outside the registers the host, the Trail and the boot engine change nothing. -/
theorem exec_registerWrite_outside_same (outside : ¬ InRegBlocks addr.toNat)
    (quiet : s.reaches src = false ∨ srcIsCore src = false) : exec (.registerWrite src addr value) s = .next s := by
  have same : (if s.reaches src then s.refusedBy src else s) = s := by
    rcases quiet with reach | notCore
    · simp [reach]
    · rw [State.refusedBy_of_not_core notCore, ite_self]
  rw [exec_registerWrite_outside outside, same, State.queued_self]

/-- A write of a source that is no core, refused by a check about the register alone (R459). -/
theorem exec_registerWrite_refused (inside : InRegBlocks addr.toNat)
    (reach : s.reaches src = true) (notCore : srcIsCore src = false) (bad : s.regStatus src addr.toNat value.toNat ≠ 0) :
    exec (.registerWrite src addr value) s = .next (if codeReg addr.toNat = true ∧ regRow addr.toNat ≠ none then
      s.draw.2.setCode addr.toNat (s.regStatus src addr.toNat value.toNat) else s.draw.2) := by
  have kept (t : State) (h : t.pending = s.pending) : t.queued s.pending = t := by rw [← h, State.queued_self]
  have ⟨_, lo, hi⟩ := inside
  rw [exec_registerWrite_inside inside, State.writeBy_refused _ lo hi (by simpa using reach) notCore (by simpa using bad),
    State.draw_regStatus, kept _ (by split <;> simp)]

/-! ### The order of the checks (R459) -/

theorem State.regStatus_noaddr (row : regRow a = none) : s.regStatus src a v = 0x06 := by
  unfold State.regStatus
  rw [row]
  rfl

/-- The first four checks of a write, in order: the role, a register of RO fields alone, the locks and the reserved bits. -/
theorem State.regStatus_order (row : regRow a = some r) :
    (s.roleStatus src a v ≠ 0 → s.regStatus src a v = s.roleStatus src a v) ∧
    (s.roleStatus src a v = 0 → r.readOnly = true → s.regStatus src a v = 0x07) ∧
    (s.roleStatus src a v = 0 → r.readOnly = false → s.lockStatus a v ≠ 0 → s.regStatus src a v = s.lockStatus a v) ∧
    (s.roleStatus src a v = 0 → r.readOnly = false → s.lockStatus a v = 0 → v &&& (0xFFFFFFFF - r.defined) ≠ 0 →
      s.regStatus src a v = 0x01) := by
  unfold State.regStatus
  rw [row]
  refine ⟨fun role => ?_, fun role ro => ?_, fun role writable lock => ?_, fun role writable lock reserved => ?_⟩
  · simp [role]
  · simp [role, ro, St.readonly]
  · simp [role, writable, lock]
  · simp [role, writable, lock, reserved, St.reserved]

/-- Settles O57: an accepted write by what regApply does to a register that is nothing but its bits, a refused one by what is left of the two
passes, and the order of R459 by the branches of regStatus. -/
theorem registerWritesAreCheckedAndStored : Obligations.RegisterWritesAreCheckedAndStored := by
  unfold Obligations.RegisterWritesAreCheckedAndStored
  intro s src addr value
  refine ⟨fun r row acc => ⟨fun plain => ?_, fun counter => ?_⟩, fun reach inside => ?_, fun reach outside => ?_,
    fun _ notCore outside => ?_, fun reach notCore inside bad => ?_, fun _ => ⟨fun row => ?_, fun r row => ?_⟩⟩
  · exact exec_registerWrite_plain row plain acc
  · exact exec_registerWrite_counter row counter acc
  · exact exec_registerWrite_unreached inside reach
  · exact exec_registerWrite_outside_same outside (.inl reach)
  · exact exec_registerWrite_outside_same outside (.inr notCore)
  · exact exec_registerWrite_refused inside reach notCore bad
  · exact State.regStatus_noaddr row
  · exact State.regStatus_order row

end Sys2Proof.Machine
end

/-!
SUPPORT. What leaves every voice alone: registers, stores in the Basin, its error detection, source records, notices and the reads of the
wave directory keep the words and the running states of all voices.
-/
section
namespace Sys2Proof.Machine

variable (s : State)

/-- The words and the running states of all voices. -/
def State.voices (s : State) : List (Nat × Half) × List (Nat × VRun) := (s.voice.words, s.voice.runs)

theorem State.vRun_congr {s t : State} (h : t.voices = s.voices) : t.vRun = s.vRun := by
  funext u
  rw [State.vRun, State.vRun, show t.voice.runs = s.voice.runs from congrArg Prod.snd h]

theorem State.vWord_congr {s t : State} (h : t.voices = s.voices) : t.vWord = s.vWord := by
  funext u w
  rw [State.vWord, State.vWord, show t.voice.words = s.voice.words from congrArg Prod.fst h]

@[simp] theorem State.setReg_voices (a v : Nat) : (s.setReg a v).voices = s.voices := rfl
@[simp] theorem State.setFld_voices (a hi lo v : Nat) : (s.setFld a hi lo v).voices = s.voices := rfl
@[simp] theorem State.setFlag_voices (a i : Nat) (b : Bool) : (s.setFlag a i b).voices = s.voices := rfl
@[simp] theorem State.raise_voices (i : Nat) : (s.raise i).voices = s.voices := State.setFlag_voices s Adr.HOST_IRQ i true
@[simp] theorem State.drawStatus_voices : s.drawStatus.2.voices = s.voices := rfl
@[simp] theorem State.setRing_voices (q : Nat) (r : SrcRing) : (s.setRing q r).voices = s.voices := rfl
@[simp] theorem State.setGroup_voices (g : WordGroup) : (s.setGroup g).voices = s.voices := rfl
theorem State.setBasin_voices (b : Basin) : ({ s with basin := b } : State).voices = s.voices := rfl
@[simp] theorem State.queued_voices (q : List Instr) : (s.queued q).voices = s.voices := rfl

@[simp] theorem State.count_voices (a : Nat) : (s.count a).voices = s.voices := by
  rw [State.count, State.countBy]
  split <;> exact State.setReg_voices s _ _

/-! ### Basin stores and the records of the source rings -/

@[simp] theorem State.memPut_voices (a : Nat) (l : List Byte) : (s.memPut a l).voices = s.voices := by
  have stale : s.setStale.voices = s.voices := by
    unfold State.setStale
    dsimp only
    split <;> rfl
  unfold State.memPut
  dsimp only
  split
  · split
    · exact stale
    · rfl
  · rfl

@[simp] theorem State.tellLost_voices (x : LaneWrite) : (s.tellLost x).voices = s.voices := by
  unfold State.tellLost
  dsimp only
  split <;> rfl

theorem State.putPart_voices (master port a : Nat) (l : List Byte) : (s.putPart master port a l).2.voices = s.voices := by
  unfold State.putPart
  dsimp only
  split
  · simp
  · exact List.foldlRecOn (motive := fun t : State => t.voices = s.voices) _ _ (by simp) (fun t kept x _ => by simpa using kept)

@[simp] theorem State.basinPut_voices (master port a : Nat) (l : List Byte) : (s.basinPut master port a l).2.voices = s.voices :=
  List.foldlRecOn (motive := fun p : Bool × State => p.2.voices = s.voices) _ _ rfl
    (fun p kept q _ => (p.2.putPart_voices master port q.1 q.2).trans kept)

@[simp] theorem State.offer_voices (q : Nat) (record : List Byte) : (s.offer q record).2.voices = s.voices := by
  unfold State.offer State.loseEvent State.writeEntry
  dsimp only
  split
  · simp
  · split <;> simp

@[simp] theorem State.postFault_voices (code engine status cause arg : Nat) :
    (s.postFault code engine status cause arg).voices = s.voices := by
  simp [State.postFault, State.post]

@[simp] theorem State.logFault_voices (type engine status a b c : Nat) : (s.logFault type engine status a b c).voices = s.voices := by
  unfold State.logFault
  dsimp only
  split
  · rfl
  · simp

/-! ### Basin reads -/

@[simp] theorem State.basinErr_voices (type w master : Nat) : (s.basinErr type w master).voices = s.voices := State.setReg_voices s _ _

@[simp] theorem State.remapRow_voices (w : Nat) : (s.remapRow w).voices = s.voices := by
  unfold State.remapRow
  dsimp only
  split
  · simp only [State.postFault_voices, State.logFault_voices]
    rfl
  · simp

@[simp] theorem State.chargeRow_voices (w : Nat) : (s.chargeRow w).voices = s.voices := by
  unfold State.chargeRow
  dsimp only
  split
  · simp
  · rfl

@[simp] theorem State.correctWord_voices (master w : Nat) : (s.correctWord master w).voices = s.voices := by
  have counted : ((s.count Adr.BASIN_CECNT).basinErr 1 w master).voices = s.voices := by simp
  unfold State.correctWord
  generalize (s.count Adr.BASIN_CECNT).basinErr 1 w master = t at counted ⊢
  dsimp only
  rw [State.chargeRow_voices, State.setBasin_voices, State.postFault_voices, State.drawStatus_voices, counted]

@[simp] theorem State.badWord_voices (master w : Nat) : (s.badWord master w).voices = s.voices := by
  have counted : ((s.count Adr.BASIN_UECNT).basinErr 2 w master).voices = s.voices := by simp
  unfold State.badWord
  generalize (s.count Adr.BASIN_UECNT).basinErr 2 w master = t at counted ⊢
  dsimp only
  rw [State.remapRow_voices, State.postFault_voices, State.drawStatus_voices, counted]

@[simp] theorem State.checkWords_voices (master : Nat) (l : List Nat) : (s.checkWords master l).2.voices = s.voices := by
  induction l generalizing s with
  | nil => rfl
  | cons w ws ih =>
    unfold State.checkWords
    split
    · exact ih s
    · exact (ih _).trans (s.correctWord_voices master w)
    · exact (ih _).trans (s.badWord_voices master w)

@[simp] theorem State.basinRead_voices (master a n : Nat) : (s.basinRead master a n).2.voices = s.voices := by
  simp [State.basinRead]

/-! ### Notices and reads of the wave directory -/

@[simp] theorem State.noticeV_voices (code v detail arg time : Nat) : (s.noticeV code v detail arg time).voices = s.voices := by
  unfold State.noticeV State.notice
  dsimp only
  split
  · split <;> simp
  · rfl

@[simp] theorem State.latchReads_voices (mode idx : Nat) : (s.latchReads mode idx).voices = s.voices :=
  List.foldlRecOn (motive := fun t : State => t.voices = s.voices) _ _ rfl (fun t kept n _ => by simpa using kept)

@[simp] theorem State.reportWave_voices (v osc idx : Nat) (l : Latched) (time : Nat) :
    (s.reportWave v osc idx l time).voices = s.voices := by
  unfold State.reportWave
  split <;> simp

@[simp] theorem State.latched_voices (v : Nat) (r : VRun) (b k time : Nat) : (s.latched v r b k time).voices = s.voices := by
  unfold State.latched
  dsimp only
  split <;> simp

end Sys2Proof.Machine
end

/-!
SUPPORT. What a voice start does (R81, R121, R124, R131): it changes its own voice alone, and leaves it started with the event's words.
-/
section
namespace Sys2Proof.Machine

variable {s t u : State} {v : Nat}

@[simp] theorem State.vRun_setVRun (s : State) (v x : Nat) (r : VRun) : (s.setVRun v r).vRun x = if x = v then r else s.vRun x :=
  Sp.get_put _ _ _ _ _

@[simp] theorem State.vWord_setVRun (s : State) (v : Nat) (r : VRun) : (s.setVRun v r).vWord = s.vWord := rfl

@[simp] theorem State.vRun_setVWord (s : State) (v w x : Nat) : (s.setVWord v w x).vRun = s.vRun := rfl

/-- The words of a voice are 1,024 keys of their own (R37). -/
theorem State.vWord_setVWord (s : State) {v w x u k : Nat} (hw : w < 1024) (hk : k < 1024) :
    (s.setVWord v w x).vWord u k = if u = v ∧ k = w then x % 2 ^ 16 else s.vWord u k := by
  have key : 1024 * u + k = 1024 * v + w ↔ u = v ∧ k = w := by omega
  unfold State.vWord State.setVWord
  rw [Sp.get_put]
  simp only [key]
  split <;> simp

/-! ### What a start may change -/

/-- From s to t at most voice v has changed. -/
structure State.OnlyVoice (v : Nat) (s t : State) : Prop where
  run : ∀ x, x ≠ v → t.vRun x = s.vRun x
  word : ∀ x w, x ≠ v → w < 1024 → t.vWord x w = s.vWord x w

theorem State.OnlyVoice.of_voices (h : t.voices = s.voices) : s.OnlyVoice v t :=
  ⟨fun x _ => by rw [State.vRun_congr h], fun x w _ _ => by rw [State.vWord_congr h]⟩

theorem State.OnlyVoice.trans (h : s.OnlyVoice v t) (g : t.OnlyVoice v u) : s.OnlyVoice v u :=
  ⟨fun x hx => (g.run x hx).trans (h.run x hx), fun x w hx hw => (g.word x w hx hw).trans (h.word x w hx hw)⟩

theorem State.setVRun_onlyVoice (s : State) (v : Nat) (r : VRun) : s.OnlyVoice v (s.setVRun v r) :=
  ⟨fun x hx => by simp [hx], fun _ _ _ _ => rfl⟩

theorem State.setVWords_onlyVoice {w : Nat} {l : List Nat} (fits : w + l.length ≤ 1024) : s.OnlyVoice v (s.setVWords v w l) := by
  induction l generalizing s w with
  | nil => exact .of_voices rfl
  | cons x xs ih =>
    rw [List.length_cons] at fits
    have one : s.OnlyVoice v (s.setVWord v w x) :=
      ⟨fun _ _ => rfl, fun y k hy hk => by rw [State.vWord_setVWord s (by omega) hk, if_neg (fun e => hy e.1)]⟩
    exact one.trans (ih (by omega))

/-! ### Held writes of a start (R124) -/

theorem wordStatus_of_undefined {w x : Nat} (h : 0xDC ≤ w) : wordStatus w x ≠ 0 := by
  simp [wordStatus, firstFail, wordUndefined, h, St.noaddr]

/-- A run of words that every rule accepts lies in the defined words. -/
theorem runStatus_fits {g : Nat → Nat} {w : Nat} {vals : List Nat} (fine : (runStatus g w vals).1 = 0) :
    vals = [] ∨ w + vals.length ≤ 0xDC := by
  refine Classical.byContradiction fun out => ?_
  simp only [not_or, Nat.not_le] at out
  obtain ⟨some_, past⟩ := out
  have pos : 0 < vals.length := List.length_pos_iff.mpr some_
  unfold runStatus at fine
  dsimp only at fine
  split at fine
  next i hit =>
    have bad := List.find?_some hit
    exact of_decide_eq_true bad fine
  next noneBad =>
    have last := List.find?_eq_none.mp noneBad (vals.length - 1) (by simp; omega)
    exact last (by simpa using wordStatus_of_undefined (by omega))

theorem State.startWrites_onlyVoice (s : State) (v : Nat) (l : List HeldWrite) : s.OnlyVoice v (s.startWrites v l).2 := by
  induction l generalizing s with
  | nil => exact .of_voices rfl
  | cons h hs ih =>
    unfold State.startWrites
    split
    · refine .trans (.of_voices ?_) (ih _)
      split <;> simp
    next fine =>
      refine .trans ?_ (ih _)
      rcases runStatus_fits (Decidable.not_not.mp fine) with empty | fits
      · rw [empty]; exact .of_voices rfl
      · exact State.setVWords_onlyVoice (by omega)

/-! ### MIRRORED (R131) -/

/-- From s to t at most MIRRORED of voice v has changed. -/
structure State.MirroredOnly (v : Nat) (s t : State) : Prop where
  run : ∃ m, t.vRun v = { s.vRun v with mirrored := m }
  others : ∀ x, x ≠ v → t.vRun x = s.vRun x
  word : t.vWord = s.vWord

theorem State.MirroredOnly.of_voices (h : t.voices = s.voices) : s.MirroredOnly v t :=
  ⟨⟨(s.vRun v).mirrored, by rw [State.vRun_congr h]⟩, fun x _ => by rw [State.vRun_congr h], State.vWord_congr h⟩

theorem State.MirroredOnly.refl (s : State) : s.MirroredOnly v s := .of_voices rfl

theorem State.MirroredOnly.trans (h : s.MirroredOnly v t) (g : t.MirroredOnly v u) : s.MirroredOnly v u := by
  obtain ⟨m, hm⟩ := h.run
  obtain ⟨n, hn⟩ := g.run
  exact ⟨⟨n, by rw [hn, hm]⟩, fun x hx => (g.others x hx).trans (h.others x hx), g.word.trans h.word⟩

theorem State.MirroredOnly.onlyVoice (h : s.MirroredOnly v t) : s.OnlyVoice v t :=
  ⟨h.others, fun x w _ _ => by rw [h.word]⟩

theorem State.mirrorBreak_mirroredOnly (s : State) (v cause time : Nat) : s.MirroredOnly v (s.mirrorBreak v cause time) := by
  have same : (s.mirrorBreak v cause time).voices = (s.setVRun v { s.vRun v with mirrored := false }).voices := by
    simp [State.mirrorBreak]
  refine ⟨⟨false, ?_⟩, fun x hx => ?_, ?_⟩
  · simp [State.vRun_congr same]
  · simp [State.vRun_congr same, hx]
  · rw [State.vWord_congr same, State.vWord_setVRun]

theorem State.reach_mirroredOnly (s : State) (v : Nat) (x : VSrc) (time : Nat) : s.MirroredOnly v (s.reach v x time) := by
  unfold State.reach
  split
  · split
    · exact s.mirrorBreak_mirroredOnly v _ time
    · exact .refl s
  · exact .refl s

theorem State.reachWords_mirroredOnly (s : State) (v w n : Nat) (x : VSrc) (time : Nat) :
    s.MirroredOnly v (s.reachWords v w n x time) := by
  unfold State.reachWords
  extract_lets r
  have reached : s.MirroredOnly v r := by
    unfold r
    split
    · exact .refl s
    · exact s.reach_mirroredOnly v x time
  split
  · exact reached.trans (r.mirrorBreak_mirroredOnly v 6 time)
  · exact reached

/-! ### A start (R81, R121) -/

/-- Voice v has started at boundary time with what d says, its generators from SEED as its words leave it. -/
structure State.Started (v : Nat) (d : DStart) (time : Nat) (t : State) : Prop where
  st : (t.vRun v).st = 1
  start : (t.vRun v).start = time
  patchno : (t.vRun v).patchno = d.patch
  prio : (t.vRun v).prio = d.prio
  notekey : (t.vRun v).notekey = d.key / 256
  defer : (t.vRun v).defer = none
  seed : (t.vRun v).seed = t.vWord v 0x8A + 2 ^ 16 * t.vWord v 0x8B

theorem State.Started.mirroredOnly {d : DStart} {time : Nat} (h : s.Started v d time) (g : s.MirroredOnly v t) : t.Started v d time := by
  obtain ⟨m, hm⟩ := g.run
  exact ⟨by rw [hm]; exact h.st, by rw [hm]; exact h.start, by rw [hm]; exact h.patchno, by rw [hm]; exact h.prio,
    by rw [hm]; exact h.notekey, by rw [hm]; exact h.defer, by rw [hm, g.word]; exact h.seed⟩

/-- The event's own words of voice v stand as d gives them. -/
structure State.EventWords (v : Nat) (d : DStart) (t : State) : Prop where
  key : t.vWord v 0x80 = d.key % 2 ^ 16
  vel : t.vWord v 0x81 = d.vel % 2 ^ 16
  seedLow : t.vWord v 0x8A = d.seed % 2 ^ 16
  seedHigh : t.vWord v 0x8B = d.seed / 2 ^ 16 % 2 ^ 16

theorem State.EventWords.congr {d : DStart} (h : s.EventWords v d) (g : t.vWord = s.vWord) : t.EventWords v d :=
  ⟨by rw [g]; exact h.key, by rw [g]; exact h.vel, by rw [g]; exact h.seedLow, by rw [g]; exact h.seedHigh⟩

theorem State.setVWords_eventWords (s : State) (v : Nat) (d : DStart) :
    ((s.setVWords v 0x80 [d.key, d.vel]).setVWords v 0x8A [d.seed % 65536, d.seed / 65536]).EventWords v d := by
  constructor <;> simp [State.setVWords, State.vWord_setVWord]

/-- A start changes voice v alone, starts it, and sets the event's words, which only the held writes may change. -/
theorem State.startVoice_spec (s : State) (v : Nat) (d : DStart) (deferred : Bool) (writes : List HeldWrite) (time : Nat) :
    s.OnlyVoice v (s.startVoice v d deferred writes time) ∧ (s.startVoice v d deferred writes time).Started v d time ∧
    (writes = [] → (s.startVoice v d deferred writes time).EventWords v d) := by
  unfold State.startVoice
  extract_lets rd read img gp good copied noticed keyed seeded held written g rc seed m1 m2 l1 l2 latched osc why mirrored idle run ready
  have copy : s.OnlyVoice v copied := by
    have patch : read.OnlyVoice v copied := by
      unfold copied
      split
      · exact State.setVWords_onlyVoice (by simp)
      · exact .of_voices rfl
    exact .trans (.of_voices (s.basinRead_voices _ _ _)) patch
  have notice : noticed.voices = copied.voices := by
    unfold noticed
    split <;> simp
  have words : noticed.OnlyVoice v written :=
    ((State.setVWords_onlyVoice (by simp)).trans (State.setVWords_onlyVoice (by simp))).trans (seeded.startWrites_onlyVoice v writes)
  have reports : latched.voices = written.voices := by
    unfold latched
    split <;> simp
  have begun : ready.Started v d time := by
    constructor <;> simp [ready, run, idle, VRun.idle, seed, g, State.vWord_congr reports]
  have fromReady : ∀ t, ready.MirroredOnly v t →
      s.OnlyVoice v t ∧ t.Started v d time ∧ (writes = [] → t.EventWords v d) := by
    refine fun t shown => ⟨?_, begun.mirroredOnly shown, fun noWrites => ?_⟩
    · exact ((copy.trans (.of_voices notice)).trans (words.trans (.of_voices reports))).trans
        ((latched.setVRun_onlyVoice v run).trans shown.onlyVoice)
    · have event : seeded.EventWords v d := noticed.setVWords_eventWords v d
      have kept : written = seeded := by simp [written, held, noWrites, State.startWrites]
      exact event.congr (by rw [shown.word, State.vWord_setVRun, State.vWord_congr reports, kept])
  clear_value why
  split
  · cases why with
    | some c => exact fromReady _ (ready.mirrorBreak_mirroredOnly v c time)
    | none => exact fromReady _ (List.foldlRecOn (motive := ready.MirroredOnly v) _ _ (.refl ready)
        (fun t kept h _ => kept.trans (t.reachWords_mirroredOnly v _ _ _ time)))
  · exact fromReady _ (.refl ready)

end Sys2Proof.Machine
end

/-!
The ends of ramps, release phases, fades, crossfades and glides (R48, R82, R85, R100, R119, R123): each row outside RUN, when it is due and
when it is not.
-/
section
namespace Sys2Proof.Machine

variable {s t : State} {v : Fin 512} {r : VRun} {g : Nat → Nat} {latch : Nat → Nat → Latched} {u : FadeUnit}

@[simp] theorem State.setVRun_queued (s : State) (v : Nat) (r : VRun) : (s.setVRun v r).queued s.pending = s.setVRun v r := rfl

/-! ### RAMP_END (R123) -/

theorem exec_rampEnd (s : State) (v : Fin 512) :
    exec (.rampEnd v) s = s.run fun s => if s.inRun then s.endRamp v s.lastIntake else s := rfl

theorem State.endRamp_start {d : DStart} (ramp : (s.vRun v).st = 3) (full : 64 ≤ (s.vRun v).rampK) (defer : (s.vRun v).defer = some d)
    (time : Nat) : s.endRamp v time = s.startVoice v d true (s.vRun v).deferWrites time := by
  simp [State.endRamp, ramp, full, defer]

theorem State.endRamp_idle (ramp : (s.vRun v).st = 3) (full : 64 ≤ (s.vRun v).rampK) (alone : (s.vRun v).defer = none) (time : Nat) :
    s.endRamp v time = s.endVoice v time := by
  simp [State.endRamp, ramp, full, alone]

theorem State.endRamp_early (early : (s.vRun v).st ≠ 3 ∨ (s.vRun v).rampK < 64) (time : Nat) : s.endRamp v time = s := by
  have : ¬ ((s.vRun v).st = 3 ∧ 64 ≤ (s.vRun v).rampK) := by omega
  simp [State.endRamp, this]

theorem State.endVoice_vRun (s : State) (v time x : Nat) : (s.endVoice v time).vRun x = if x = v then (s.vRun v).toIdle else s.vRun x := by
  rw [State.endVoice, State.vRun_congr (State.noticeV_voices _ _ _ _ _ _), State.vRun_setVRun]

theorem State.endVoice_vWord (s : State) (v time : Nat) : (s.endVoice v time).vWord = s.vWord := by
  rw [State.endVoice, State.vWord_congr (State.noticeV_voices _ _ _ _ _ _), State.vWord_setVRun]

theorem exec_rampEnd_off (off : s.inRun = false) : exec (.rampEnd v) s = .next s := by
  rw [exec_rampEnd, State.run_same (by simp [off])]

theorem exec_rampEnd_early (early : (s.vRun v).st ≠ 3 ∨ (s.vRun v).rampK < 64) : exec (.rampEnd v) s = .next s := by
  rw [exec_rampEnd, State.run_same (by simp [State.endRamp_early early])]

/-- Without a deferred start the ramp ends in IDLE. -/
theorem exec_rampEnd_idle (run : s.inRun = true) (ramp : (s.vRun v).st = 3) (full : 64 ≤ (s.vRun v).rampK) (alone : (s.vRun v).defer = none) :
    ∃ t, exec (.rampEnd v) s = .next t ∧ t.vWord = s.vWord ∧ ∀ x, t.vRun x = if x = v then (s.vRun v).toIdle else s.vRun x := by
  refine ⟨(s.endVoice v s.lastIntake).queued s.pending, ?_, ?_, fun x => ?_⟩
  · rw [exec_rampEnd, State.run, if_pos run, State.endRamp_idle ramp full alone]
  · rw [State.vWord_congr (State.queued_voices _ _), State.endVoice_vWord]
  · rw [State.vRun_congr (State.queued_voices _ _), State.endVoice_vRun]

/-- A deferred start takes the voice at the end of its ramp. -/
theorem exec_rampEnd_start {d : DStart} (run : s.inRun = true) (ramp : (s.vRun v).st = 3) (full : 64 ≤ (s.vRun v).rampK)
    (defer : (s.vRun v).defer = some d) :
    ∃ t, exec (.rampEnd v) s = .next t ∧ s.OnlyVoice v t ∧ t.Started v d s.lastIntake ∧
      ((s.vRun v).deferWrites = [] → t.EventWords v d) := by
  obtain ⟨only, started, event⟩ := s.startVoice_spec v d true (s.vRun v).deferWrites s.lastIntake
  refine ⟨(s.startVoice v d true (s.vRun v).deferWrites s.lastIntake).queued s.pending, ?_, ?_, ?_, fun noWrites => ?_⟩
  · rw [exec_rampEnd, State.run, if_pos run, State.endRamp_start ramp full defer]
  · exact only.trans (.of_voices (State.queued_voices _ _))
  · exact started.mirroredOnly (.of_voices (State.queued_voices _ _))
  · exact (event noWrites).congr (State.vWord_congr (State.queued_voices _ _))

/-! ### RELEASE_LIMIT (R100) -/

theorem exec_releaseLimit (s : State) (v : Fin 512) :
    exec (.releaseLimit v) s = s.run fun s => if s.inRun then s.limitRelease v s.lastIntake else s := rfl

theorem exec_releaseLimit_off (off : s.inRun = false) : exec (.releaseLimit v) s = .next s := by
  rw [exec_releaseLimit, State.run_same (by simp [off])]

theorem exec_releaseLimit_due (run : s.inRun = true) (release : (s.vRun v).st = 2) (limit : bits (s.vWord v 0x7B) 13 0 ≠ 0)
    (past : (s.vRun v).reltime + timeCode s.rateCode (bits (s.vWord v 0x7B) 13 0) * s.spt ≤ s.lastIntake) :
    exec (.releaseLimit v) s = .next (s.setVRun v { s.vRun v with st := 3, rampK := 0, fin := false }) := by
  have effect : s.limitRelease v s.lastIntake = s.rampVoice v := by simp [State.limitRelease, release, limit, past]
  rw [exec_releaseLimit, State.run, if_pos run, effect, State.rampVoice, State.setVRun_queued]

theorem exec_releaseLimit_early (early : ¬ ((s.vRun v).st = 2 ∧ bits (s.vWord v 0x7B) 13 0 ≠ 0 ∧
    (s.vRun v).reltime + timeCode s.rateCode (bits (s.vWord v 0x7B) 13 0) * s.spt ≤ s.lastIntake)) :
    exec (.releaseLimit v) s = .next s := by
  have effect : s.limitRelease v s.lastIntake = s := by
    unfold State.limitRelease
    dsimp only
    rw [if_neg (by simpa [and_assoc] using early)]
  rw [exec_releaseLimit, State.run_same (by simp [effect])]

/-! ### SWITCH_FADE_ZERO (R48) -/

theorem Sp.find_del_same {α : Type} (l : List (Nat × α)) (k : Nat) : Sp.find (Sp.del l k) k = none := by
  induction l with
  | nil => rfl
  | cons p l ih =>
    obtain ⟨j, x⟩ := p
    by_cases h : j = k <;> simp [Sp.del, Sp.find, h, ih]

theorem Sp.find_del_of_none {α : Type} {l : List (Nat × α)} {m : Nat} (h : Sp.find l m = none) (k : Nat) :
    Sp.find (Sp.del l k) m = none := by
  induction l with
  | nil => rfl
  | cons p l ih =>
    obtain ⟨j, x⟩ := p
    have miss : j ≠ m := fun e => by simp [Sp.find, e] at h
    have rest : Sp.find l m = none := by simpa [Sp.find, miss] using h
    by_cases hk : j = k <;> simp [Sp.del, Sp.find, hk, miss, ih rest]

/-- Every deleted key is gone. -/
theorem Sp.find_foldl_del {α : Type} {ks : List Nat} {l : List (Nat × α)} {k : Nat} (h : k ∈ ks) :
    Sp.find (ks.foldl Sp.del l) k = none := by
  induction ks generalizing l with
  | nil => cases h
  | cons j ks ih =>
    rcases List.mem_cons.mp h with rfl | h
    · exact List.foldlRecOn (motive := fun l => Sp.find l k = none) ks _ (Sp.find_del_same l k)
        (fun l gone j _ => Sp.find_del_of_none gone j)
    · exact ih h

/-- The switch fade of unit u turns at its zero: the held changes come into force and the gain starts to rise. -/
def VRun.turnFade (r : VRun) (g : Nat → Nat) (latch : Nat → Nat → Latched) (u : FadeUnit) : VRun :=
  (r.setFade u (some ⟨0, false⟩)).applyHeld g latch u

theorem VRun.turnFade_fade : (r.turnFade g latch u).fade u = some ⟨0, false⟩ := by
  have load (o : Osc) (b : Nat) (q : VRun) : (q.restart g latch o b).fade = o.fade := by
    unfold VRun.restart Osc.load Osc.take
    split <;> rfl
  cases u with
  | osc1 => exact load _ _ _
  | osc2 => exact load _ _ _
  | mix => rfl
  | filter => rfl

theorem VRun.turnFade_fHold {w : Nat} (h : w ∈ fadeWords u) : Sp.find (r.turnFade g latch u).fHold w = none :=
  Sp.find_foldl_del h

theorem VRun.turnFade_keeps : (r.turnFade g latch u).st = r.st ∧ (r.turnFade g latch u).env = r.env ∧
    (r.turnFade g latch u).lfo = r.lfo ∧ (r.turnFade g latch u).glides = r.glides := by
  cases u <;> exact ⟨rfl, rfl, rfl, rfl⟩

/-- The entries that the unit of a fade latches as it turns are read (R74). -/
def State.turnReads (s : State) (v : Nat) (u : FadeUnit) : State :=
  match u with
  | .osc1 => s.latched v (s.vRun v) 0x08 1 s.lastIntake
  | .osc2 => s.latched v (s.vRun v) 0x10 2 s.lastIntake
  | _ => s

theorem State.turnReads_voices (s : State) (v : Nat) (u : FadeUnit) : (s.turnReads v u).voices = s.voices := by
  cases u <;> simp [State.turnReads]

theorem exec_switchFadeZero (s : State) (v : Fin 512) (u : FadeUnit) : exec (.switchFadeZero v u) s = s.run fun s =>
    if s.inRun && (s.vRun v).fade u = some ⟨0, true⟩ then
      (s.turnReads v u).setVRun v ((s.vRun v).turnFade ((s.turnReads v u).vWord v) ((s.turnReads v u).latch v) u)
    else s := by
  cases u <;> rfl

theorem exec_switchFadeZero_due (run : s.inRun = true) (zero : (s.vRun v).fade u = some ⟨0, true⟩) :
    ∃ t g latch, exec (.switchFadeZero v u) s = .next t ∧ t.vWord = s.vWord ∧
      ∀ x, t.vRun x = if x = v then (s.vRun v).turnFade g latch u else s.vRun x := by
  have reads := s.turnReads_voices v u
  rw [exec_switchFadeZero, State.run]
  simp only [run, zero, decide_true, Bool.and_self, if_true]
  refine ⟨_, (s.turnReads v u).vWord v, (s.turnReads v u).latch v, rfl, ?_, fun x => ?_⟩
  · rw [State.vWord_congr (State.queued_voices _ _), State.vWord_setVRun, State.vWord_congr reads]
  · rw [State.vRun_congr (State.queued_voices _ _), State.vRun_setVRun, State.vRun_congr reads]

theorem exec_switchFadeZero_same (h : s.inRun = false ∨ (s.vRun v).fade u ≠ some ⟨0, true⟩) : exec (.switchFadeZero v u) s = .next s := by
  rw [exec_switchFadeZero]
  refine State.run_same ?_
  rcases h with off | other
  · simp [off]
  · simp [other]

/-! ### CROSSFADE_END (R82) -/

/-- The present value of a field of code X, by its key. -/
def fieldNow (g : Nat → Nat) (k : Nat) : Nat :=
  bits (g (k / 4)) ((wordXFields (k / 4)).getD (k % 4) (0, 0)).1 ((wordXFields (k / 4)).getD (k % 4) (0, 0)).2

theorem endXFade_eq (g : Nat → Nat) (q : Nat × XFade) : endXFade g q =
    if q.2.i < 32 then some q else if fieldNow g q.1 = q.2.new then none else some (q.1, ⟨q.2.new, fieldNow g q.1, 0⟩) := rfl

theorem endXFade_eq_some {p q : Nat × XFade} : endXFade g q = some p ↔
    q.2.i < 32 ∧ q = p ∨ 32 ≤ q.2.i ∧ fieldNow g q.1 ≠ q.2.new ∧ (q.1, ⟨q.2.new, fieldNow g q.1, 0⟩) = p := by
  rw [endXFade_eq]
  by_cases early : q.2.i < 32
  · simp [early, show ¬ 32 ≤ q.2.i by omega]
  · by_cases same : fieldNow g q.1 = q.2.new <;> simp [early, same, show 32 ≤ q.2.i by omega]

/-- The crossfades of word w that have run end; the others stay. -/
def endWordXFades (g : Nat → Nat) (w : Nat) (l : List (Nat × XFade)) : List (Nat × XFade) :=
  l.filterMap (fun p => if p.1 / 4 = w then endXFade g p else some p)

theorem mem_endWordXFades {w : Nat} {l : List (Nat × XFade)} {p : Nat × XFade} : p ∈ endWordXFades g w l ↔
    (p ∈ l ∧ (p.1 / 4 ≠ w ∨ p.2.i < 32)) ∨
      ∃ x, (p.1, x) ∈ l ∧ p.1 / 4 = w ∧ 32 ≤ x.i ∧ fieldNow g p.1 ≠ x.new ∧ p.2 = ⟨x.new, fieldNow g p.1, 0⟩ := by
  rw [endWordXFades, List.mem_filterMap]
  constructor
  · rintro ⟨q, mem, kept⟩
    split at kept
    next here =>
      rcases endXFade_eq_some.mp kept with ⟨early, rfl⟩ | ⟨late, differs, rfl⟩
      · exact .inl ⟨mem, .inr early⟩
      · exact .inr ⟨q.2, mem, here, late, differs, rfl⟩
    next other =>
      obtain rfl := Option.some.inj kept
      exact .inl ⟨mem, .inl other⟩
  · rintro (⟨mem, stays⟩ | ⟨x, mem, here, late, differs, next⟩)
    · refine ⟨p, mem, ?_⟩
      split
      next here => exact endXFade_eq_some.mpr (.inl ⟨stays.resolve_left (fun other => other here), rfl⟩)
      next => rfl
    · refine ⟨(p.1, x), mem, ?_⟩
      rw [if_pos here]
      exact endXFade_eq_some.mpr (.inr ⟨late, differs, Prod.ext rfl next.symm⟩)

theorem exec_crossfadeEnd (s : State) (v : Fin 512) (w : Nat) : exec (.crossfadeEnd v w) s = s.run fun s =>
    if s.inRun then s.setVRun v { s.vRun v with xfades := endWordXFades (s.vWord v) w (s.vRun v).xfades } else s := rfl

theorem exec_crossfadeEnd_off (w : Nat) (off : s.inRun = false) : exec (.crossfadeEnd v w) s = .next s := by
  rw [exec_crossfadeEnd, State.run_same (by simp [off])]

theorem exec_crossfadeEnd_run (w : Nat) (run : s.inRun = true) : exec (.crossfadeEnd v w) s =
    .next (s.setVRun v { s.vRun v with xfades := endWordXFades (s.vWord v) w (s.vRun v).xfades }) := by
  rw [exec_crossfadeEnd, State.run, if_pos run, State.setVRun_queued]

/-! ### GLIDE_END (R85) -/

theorem Glide.done_iff {x : Glide} : x.done = true ↔ x.v = x.target * 2 ^ 32 ∧ 0 < x.i := by
  rw [Glide.done, Bool.and_eq_true, decide_eq_true_eq, decide_eq_true_eq]

theorem exec_glideEnd (s : State) (v : Fin 512) (w : Nat) : exec (.glideEnd v w) s = s.run fun s =>
    if s.inRun then s.setVRun v { s.vRun v with glides := (s.vRun v).glides.filter (fun p => !(p.1 = w && p.2.done)) } else s := rfl

theorem exec_glideEnd_off (w : Nat) (off : s.inRun = false) : exec (.glideEnd v w) s = .next s := by
  rw [exec_glideEnd, State.run_same (by simp [off])]

theorem exec_glideEnd_run (w : Nat) (run : s.inRun = true) : exec (.glideEnd v w) s =
    .next (s.setVRun v { s.vRun v with glides := (s.vRun v).glides.filter (fun p => !(p.1 = w && p.2.done)) }) := by
  rw [exec_glideEnd, State.run, if_pos run, State.setVRun_queued]

/-- Settles O29: each row by what it does outside RUN, when it is not due and when it is; a deferred start by startVoice_spec. -/
theorem rampsFadesAndGlidesEnd : Obligations.RampsFadesAndGlidesEnd := by
  unfold Obligations.RampsFadesAndGlidesEnd
  refine ⟨fun s v off => ⟨exec_rampEnd_off off, exec_releaseLimit_off off, fun u => exec_switchFadeZero_same (.inl off),
      fun w => exec_crossfadeEnd_off w off, fun w => exec_glideEnd_off w off⟩,
    fun s v run => ⟨fun ramp full alone => ?_, fun d ramp full defer => ?_, exec_rampEnd_early,
      fun ⟨release, limit, past⟩ => exec_releaseLimit_due run release limit past, exec_releaseLimit_early⟩,
    fun s v run => ⟨fun u zero => ?_, fun u other => exec_switchFadeZero_same (.inr other), fun w => ?_, fun w => ?_⟩⟩
  · obtain ⟨t, next, word, vRun⟩ := exec_rampEnd_idle run ramp full alone
    have own : t.vRun v = (s.vRun v).toIdle := by rw [vRun, if_pos rfl]
    exact ⟨t, next, ⟨fun x other => by rw [vRun, if_neg other], fun x w _ _ => by rw [word]⟩, by rw [own]; rfl, by rw [own]; rfl,
      by rw [own]; rfl, fun w => by rw [word]⟩
  · obtain ⟨t, next, only, started, event⟩ := exec_rampEnd_start run ramp full defer
    refine ⟨t, next, ⟨only.run, only.word⟩, started.st, started.start, started.patchno, started.prio, started.notekey, started.defer,
      started.seed, fun noWrites => ⟨?_, (event noWrites).key, (event noWrites).vel⟩⟩
    rw [started.seed, (event noWrites).seedLow, (event noWrites).seedHigh]
    omega
  · obtain ⟨t, g, latch, next, word, vRun⟩ := exec_switchFadeZero_due run zero
    have own : t.vRun v = (s.vRun v).turnFade g latch u := by rw [vRun, if_pos rfl]
    obtain ⟨st, env, lfo, glides⟩ := VRun.turnFade_keeps (r := s.vRun v) (g := g) (latch := latch) (u := u)
    refine ⟨t, next, ?_, ?_, ?_, ?_, ?_, ?_, fun x other => by rw [vRun, if_neg other], fun x w => by rw [word]⟩ <;> rw [own]
    · exact VRun.turnFade_fade
    · exact fun w held => VRun.turnFade_fHold held
    · exact st
    · exact env
    · exact lfo
    · exact glides
  · refine ⟨_, exec_crossfadeEnd_run w run, fun p => mem_endWordXFades.trans ?_⟩
    refine or_congr_right (exists_congr fun x => and_congr_right fun _ => and_congr_right fun here => and_congr_right fun _ => ?_)
    subst here
    rfl
  · refine ⟨_, exec_glideEnd_run w run, fun p => List.mem_filter.trans (and_congr_right fun _ => ?_)⟩
    rw [Bool.not_eq_true', ← Bool.not_eq_true, Bool.and_eq_true, decide_eq_true_eq, Glide.done_iff]

end Sys2Proof.Machine
end

/-!
A sample that has ended, under SAMPLE_LOOP_POINT (R60).
-/
section
namespace Sys2Proof.Machine

variable {s : State} {v : Fin 512}

/-- A sample that has ended does not move. -/
theorem Osc.moveSample_ended {x : Osc} (ended : x.ended = true) (e : WaveEntry) : x.moveSample e = x := by
  simp [Osc.moveSample, ended]

/-- Where the sample of oscillator 1 has ended, its position stays, which an increment that is not 0 would have changed: SAMPLE_LOOP_POINT
takes that for a crossing and marks the oscillator as loaded. -/
theorem exec_sampleLoopPoint_ended {e : WaveEntry} (run : s.inRun = true) (sounds : (s.vRun v).st ≠ 0)
    (sample : oscMode ((s.vRun v).inForce (s.vWord v) 0x08) = 2) (entry : (s.vRun v).osc1.entry = some e)
    (rendered : (s.vRun v).osc1.loaded = false) (ended : (s.vRun v).osc1.ended = true) (moves : (s.vRun v).osc1.inc ≠ 0) :
    exec (.sampleLoopPoint v 0) s =
      .next (s.setVRun v { s.vRun v with osc1 := { (s.vRun v).osc1 with loaded := true } }) := by
  have stays := Osc.moveSample_ended ended e
  have crossed : (s.vRun v).osc1.pos ≠
      if (s.vRun v).osc1.rev then (s.vRun v).osc1.pos - (s.vRun v).osc1.inc else (s.vRun v).osc1.pos + (s.vRun v).osc1.inc := by
    split <;> omega
  change execSampleLoopPoint v 0 s = _
  simp [execSampleLoopPoint, State.run, entry, stays, crossed, run, VRun.sounding, sounds, sample, rendered]

/-- A node in RUN whose voice 0 sounds: oscillator 1 has played a sample of 8 without a loop to its end, one sample of it in each sample. -/
def playedOut : State :=
  { State.reset.setFld Adr.PWR_STAT 2 0 5 with
    power := { State.reset.power with held := false }
    voice := { VoiceArr.reset with
      words := [(0x08, 0x4000)]
      runs := [(0, { VRun.idle with st := 1, osc1 := { Osc.idle with
        entry := some ⟨2, 0, 15360, 0x20000, 8, 0, 0, 0, 0, 48000⟩, pos := 8 * 2 ^ 32, inc := 2 ^ 32, ended := true } })] } }

theorem playedOut_sounds : playedOut.inRun = true ∧ (playedOut.vRun 0).st ≠ 0 ∧
    oscMode ((playedOut.vRun 0).inForce (playedOut.vWord 0) 0x08) = 2 := by decide +kernel

/-- Refutes O30: where a sample oscillator has ended, which is none of the cases in which SAMPLE_LOOP_POINT is due, the row of playedOut
marks the oscillator as loaded, where the statement says that nothing changes. -/
theorem not_segmentsWrapsAndLoopsTurn : ¬ Obligations.SegmentsWrapsAndLoopsTurn := by
  unfold Obligations.SegmentsWrapsAndLoopsTurn
  intro h
  obtain ⟨run, sounds, sample⟩ := playedOut_sounds
  obtain ⟨-, -, loops⟩ := h.2 playedOut 0 run sounds
  have same : exec (.sampleLoopPoint 0 0) playedOut = .next playedOut :=
    (loops 0).1 (.inr fun ⟨_, _, goesOn⟩ => absurd goesOn (by decide +kernel))
  rw [exec_sampleLoopPoint_ended (v := 0) run sounds sample rfl rfl rfl (by decide)] at same
  have marked := congrArg (fun t => (t.vRun 0).osc1.loaded) (Host.Outcome.next.inj same)
  exact absurd marked (by decide +kernel)

end Sys2Proof.Machine
end

/-!
The content hash (R132): RECALC, the end of a recalculation, and what makes the hash stale.
-/
section
namespace Sys2Proof.Machine

variable (s : State) {src : Source} {a i j n : Nat} {l : List Byte}

/-! ### Flags and byte fields -/

/-- Setting a bit leaves every other bit. -/
theorem bit_putBit_other (h : j ≠ i) (x : Bool) : bit (putBit n i x) j = bit n j := by
  have one : b2n x < 2 := by cases x <;> decide
  have shape : putBit n i x = 2 ^ i * (2 * (n >>> (i + 1)) + b2n x) + n % 2 ^ i := by
    simp only [putBit, putBits, Nat.shiftLeft_eq, Nat.add_sub_cancel_left, Nat.pow_one, Nat.mod_eq_of_lt one]
    rw [Nat.mul_comm (2 ^ i), Nat.pow_succ, ← Nat.mul_assoc, Nat.mul_right_comm, ← Nat.add_mul, Nat.mul_comm 2]
  unfold bit
  rw [shape, Nat.testBit_two_pow_mul_add _ (Nat.mod_lt _ (Nat.two_pow_pos i))]
  split
  next below => simp [Nat.testBit_mod_two_pow, below]
  next =>
    obtain ⟨k, rfl⟩ : ∃ k, j = i + 1 + k := ⟨j - (i + 1), by omega⟩
    have half : (2 * (n >>> (i + 1)) + b2n x) / 2 = n >>> (i + 1) := by omega
    rw [show i + 1 + k - i = k + 1 by omega, Nat.testBit_succ, half, Nat.testBit_shiftRight]

/-- Setting a flag leaves every other flag of the register. -/
theorem State.flag_setFlag_other (h : j ≠ i) (hi : i < 32) (x : Bool) : (s.setFlag a i x).flag a j = s.flag a j := by
  have fits : putBit (s.reg a) i x < 2 ^ 32 := putBits_lt (s.reg_lt a) hi (Nat.le_refl i)
  rw [State.flag, State.setFlag, State.reg_setReg_same, Nat.mod_eq_of_lt fits, bit_putBit_other h, State.flag]

theorem State.reg_queued (q : List Instr) (a : Nat) : (s.queued q).reg a = s.reg a := rfl

theorem State.flag_queued (q : List Instr) (a i : Nat) : (s.queued q).flag a i = s.flag a i := rfl

theorem leNat_lt (l : List Byte) : leNat l < 2 ^ (8 * l.length) := by
  induction l with
  | nil => simp [leNat]
  | cons b bs ih =>
    have split : 2 ^ (8 * (bs.length + 1)) = 256 * 2 ^ (8 * bs.length) := by rw [Nat.mul_succ, Nat.pow_add, Nat.mul_comm]
    have := b.isLt
    rw [leNat, List.length_cons, split]
    omega

/-- A field of four bytes fits a register. -/
theorem leAt_four_lt (l : List Byte) (k : Nat) : leAt l k 4 < 2 ^ 32 :=
  Nat.lt_of_lt_of_le (leNat_lt _) (Nat.pow_le_pow_right (by omega) (by simp; omega))

/-! ### Changes of registers alone -/

/-- State t differs from s in registers alone. -/
def State.RegsOnly (s t : State) : Prop := t = { s with regs := t.regs }

theorem State.RegsOnly.refl (s : State) : s.RegsOnly s := rfl

theorem State.RegsOnly.setReg {s t : State} (h : s.RegsOnly t) (a v : Nat) : s.RegsOnly (t.setReg a v) :=
  show { t with regs := (t.setReg a v).regs } = ({ s with regs := (t.setReg a v).regs } : State) from
    congrArg (fun u : State => { u with regs := (t.setReg a v).regs }) h

theorem State.RegsOnly.setFlag {s t : State} (h : s.RegsOnly t) (a i : Nat) (x : Bool) : s.RegsOnly (t.setFlag a i x) := h.setReg a _

theorem State.RegsOnly.queued {s t : State} (h : s.RegsOnly t) : s.RegsOnly (t.queued s.pending) :=
  congrArg (State.queued · s.pending) h

/-! ### RECALC (Table VA-10) -/

theorem exec_recalc (s : State) (src : Source) : exec (.recalc src) s = s.run fun s => s.regBy src Adr.VOICE_HASHCTL 1 := rfl

/-- A write that passes the checks about its register alone passes those of the register's own chapter (R459). -/
theorem State.ownStatus_of_regStatus {v : Nat} (notRate : a ≠ Adr.CLK_RATE) (fine : s.regStatus src a v = 0) : s.ownStatus src a v = 0 := by
  unfold State.regStatus at fine
  split at fine
  next => cases fine
  next =>
    dsimp only at fine
    rw [if_neg notRate] at fine
    split at fine
    next role => exact absurd fine role
    split at fine
    next => cases fine
    split at fine
    next lock => exact absurd fine lock
    split at fine
    next => cases fine
    next => exact fine

/-- While a recalculation runs, RECALC is refused. -/
theorem State.idle_of_regStatus_recalc (fine : s.regStatus src Adr.VOICE_HASHCTL 1 = 0) : s.flag Adr.VOICE_HASHCTL 1 = false := by
  have own : (if s.flag Adr.VOICE_HASHCTL 1 then St.busy else 0) = 0 := s.ownStatus_of_regStatus (by decide) fine
  split at own
  next => cases own
  next idle => simpa using idle

/-- A write of RECALC to VOICE_HASHCTL does nothing but start the recalculation. -/
theorem State.regApply_recalc (r : RegRow) : s.regApply r Adr.VOICE_HASHCTL 1 = s.recalcStart.2 := rfl

theorem State.recalcStart_idle (idle : s.flag Adr.VOICE_HASHCTL 1 = false) : s.recalcStart.2 =
    { s.setFlag Adr.VOICE_HASHCTL 1 true with voice := { s.voice with dirtied := false } } := by
  simp [State.recalcStart, idle]

/-- An accepted RECALC finds no recalculation under way and starts one. -/
theorem exec_recalc_accepted (acc : s.accepts src Adr.VOICE_HASHCTL 1 = true) : exec (.recalc src) s =
    .next { s.setFlag Adr.VOICE_HASHCTL 1 true with voice := { s.voice with dirtied := false } } := by
  obtain ⟨r, row⟩ : ∃ r, regRow Adr.VOICE_HASHCTL = some r := Option.isSome_iff_exists.mp (by decide +kernel)
  have fine : s.regStatus src Adr.VOICE_HASHCTL 1 = 0 := by
    unfold State.accepts at acc
    simp only [Bool.and_eq_true, decide_eq_true_eq] at acc
    exact acc.1.2
  rw [exec_recalc, State.run, State.regBy, State.writeBy_accepted true row (by decide) (by decide) (by decide) acc,
    s.regApply_recalc, s.recalcStart_idle (s.idle_of_regStatus_recalc fine)]
  rfl

/-! ### The end of a recalculation -/

theorem exec_recalcDone (s : State) : exec .recalcDone s = s.run State.recalcEnd := rfl

theorem exec_recalcDone_idle (idle : s.flag Adr.VOICE_HASHCTL 1 = false) : exec .recalcDone s = .next s := by
  rw [exec_recalcDone, State.run_same (by simp [State.recalcEnd, idle])]

/-- The hash is stored, BUSY clears, and STALE tells whether content was written meanwhile. -/
theorem exec_recalcDone_busy (busy : s.flag Adr.VOICE_HASHCTL 1 = true) : exec .recalcDone s = .next
    (((s.storeHash.setFlag Adr.VOICE_HASHCTL 1 false).setFlag Adr.VOICE_HASHCTL 2 s.storeHash.voice.dirtied).queued s.pending) := by
  rw [exec_recalcDone, State.run, State.recalcEnd, if_pos busy]

theorem State.reg_storeHash_lo : s.storeHash.reg Adr.VOICE_HASHLO = leAt s.contentHash 0 4 := by
  rw [State.storeHash, State.reg_setFlag_other _ (by decide), State.reg_setReg_other _ (by decide), State.reg_setReg_same,
    Nat.mod_eq_of_lt (leAt_four_lt _ _)]

theorem State.reg_storeHash_hi : s.storeHash.reg Adr.VOICE_HASHHI = leAt s.contentHash 4 4 := by
  rw [State.storeHash, State.reg_setFlag_other _ (by decide), State.reg_setReg_same, Nat.mod_eq_of_lt (leAt_four_lt _ _)]

theorem State.checkWords_of_clean (clean : s.contentErrors = []) (master : Nat) : (s.checkWords master s.contentErrors).2 = s := by
  rw [clean, State.checkWords]

/-- Where the reads meet no error, nothing but the registers of the hash changes. -/
theorem State.storeHash_regsOnly (clean : s.contentErrors = []) : s.RegsOnly s.storeHash := by
  rw [State.storeHash, s.checkWords_of_clean clean]
  exact (((State.RegsOnly.refl s).setReg _ _).setReg _ _).setFlag _ _ _

theorem State.reg_storeHash_other (clean : s.contentErrors = []) (notLo : a ≠ Adr.VOICE_HASHLO) (notHi : a ≠ Adr.VOICE_HASHHI)
    (notCtl : a ≠ Adr.VOICE_HASHCTL) : s.storeHash.reg a = s.reg a := by
  rw [State.storeHash, s.checkWords_of_clean clean, State.reg_setFlag_other _ notCtl, State.reg_setReg_other _ notHi, State.reg_setReg_other _ notLo]

/-! ### Stores into content -/

theorem State.setStale_stale : s.setStale.flag Adr.VOICE_HASHCTL 2 = true := by
  have stale := s.flag_setFlag Adr.VOICE_HASHCTL 2 true (by decide)
  unfold State.setStale
  dsimp only
  split
  · exact stale
  · exact stale

/-- A change of content while a recalculation runs is kept for its end. -/
theorem State.setStale_dirtied (busy : s.flag Adr.VOICE_HASHCTL 1 = true) : s.setStale.voice.dirtied = true := by
  have still : (s.setFlag Adr.VOICE_HASHCTL 2 true).flag Adr.VOICE_HASHCTL 1 = true := by
    rw [State.flag_setFlag_other _ (by decide) (by decide), busy]
  rw [State.setStale, if_pos still]

/-- A store into content leaves the registers and the Voice Array as setStale does. -/
theorem State.memPut_content (touches : s.touchesContent a l.length = true) (fits : a + l.length ≤ basinSize) :
    (s.memPut a l).regs = s.setStale.regs ∧ (s.memPut a l).voice = s.setStale.voice := by
  rw [State.memPut, if_pos fits, if_pos touches]
  exact ⟨rfl, rfl⟩

/-- Settles O32: RECALC by what an accepted write of VOICE_HASHCTL does, its end by what storeHash leaves in the registers, and a store into
content by setStale. -/
theorem theContentHashFollowsTheContent : Obligations.TheContentHashFollowsTheContent := by
  unfold Obligations.TheContentHashFollowsTheContent
  refine ⟨fun s src acc => ⟨_, exec_recalc_accepted s acc, rfl⟩,
    fun s busy => ⟨_, exec_recalcDone_busy s busy, ?lo, ?hi, ?notBusy, ?stale, fun clean => ⟨?frame, fun a notLo notHi notCtl => ?others⟩⟩,
    exec_recalcDone_idle, fun s a l touches fits => ?content⟩
  case lo =>
    rw [State.reg_queued, State.reg_setFlag_other _ (by decide), State.reg_setFlag_other _ (by decide), State.reg_storeHash_lo]
  case hi =>
    rw [State.reg_queued, State.reg_setFlag_other _ (by decide), State.reg_setFlag_other _ (by decide), State.reg_storeHash_hi]
  case notBusy =>
    rw [State.flag_queued, State.flag_setFlag_other _ (by decide) (by decide), State.flag_setFlag _ _ _ _ (by decide)]
  case stale =>
    rw [State.flag_queued, State.flag_setFlag _ _ _ _ (by decide), State.queued_voice, State.setFlag_voice, State.setFlag_voice]
  case frame => exact (((s.storeHash_regsOnly clean).setFlag _ _ _).setFlag _ _ _).queued
  case others =>
    rw [State.reg_queued, State.reg_setFlag_other _ notCtl, State.reg_setFlag_other _ notCtl, s.reg_storeHash_other clean notLo notHi notCtl]
  case content =>
    obtain ⟨regs, voice⟩ := s.memPut_content touches fits
    refine ⟨?_, fun busy => by rw [voice, s.setStale_dirtied busy]⟩
    rw [State.flag, State.reg_congr regs]
    exact s.setStale_stale

end Sys2Proof.Machine
end

/-!
SUPPORT. What the command registers of the SPE do with a word that a source writes (R164, R169, R459), and stores of many entries.
-/
section
namespace Sys2Proof.Machine

variable {s : State} {src : Source} {v : Nat}

/-! ### Words of a command register -/

/-- A number below 2^n has no bit in common with a mask above it. -/
theorem and_eq_zero_of_lt {n m : Nat} (small : v < 2 ^ n) (apart : (2 ^ n - 1) &&& m = 0) : v &&& m = 0 := by
  rw [← Nat.and_two_pow_sub_one_of_lt_two_pow small, Nat.and_assoc, apart, Nat.and_zero]

/-- A write that meets no rule of role or lock and sets no reserved bit is judged by the rules of the register's own chapter (R459). -/
theorem State.regStatus_own {a : Nat} {r : RegRow} (row : regRow a = some r) (notRate : a ≠ Adr.CLK_RATE)
    (role : s.roleStatus src a v = 0) (writable : r.readOnly = false) (lock : s.lockStatus a v = 0)
    (defined : v &&& (0xFFFFFFFF - r.defined) = 0) : s.regStatus src a v = s.ownStatus src a v := by
  unfold State.regStatus
  simp [row, role, writable, lock, defined, notRate]

/-- A command that passes the checks about its register is carried out, and its status kept where the command keeps it (R459). -/
theorem State.regWrite1_command {a : Nat} (pass : Bool) (code : codeReg a = true) (fine : s.regStatus src a v = 0) :
    s.regWrite1 src a v pass = ((s.command src a v pass).1,
      if keepsCode a v then (s.command src a v pass).2 else (s.command src a v pass).2.setCode a (s.command src a v pass).1) := by
  unfold State.regWrite1
  simp [fine, code]

theorem State.regStatus_ccmd (small : v < 2 ^ 3) : s.regStatus src Adr.SPE_CCMD v = 0 := by
  have row : regRow Adr.SPE_CCMD = some ⟨0x02006018, 0x4, 1, 0, 1, 0, 0, 0, 0x7, 0, 0⟩ := by decide +kernel
  rw [State.regStatus_own row (by decide) rfl rfl rfl (and_eq_zero_of_lt small (by decide))]
  rfl

theorem State.regStatus_pcmd (small : v < 2 ^ 17) (op : bits v 1 0 ≠ 3) : s.regStatus src Adr.SPE_PCMD v = 0 := by
  have row : regRow Adr.SPE_PCMD = some ⟨0x02006004, 0x4, 1, 0, 1, 0, 0, 0, 0x1ffff, 0, 0⟩ := by decide +kernel
  rw [State.regStatus_own row (by decide) rfl rfl rfl (and_eq_zero_of_lt small (by decide))]
  exact if_neg op

/-- A command of SPE_CCMD of a source that reaches the node: its effect, and its status in SPE_CSTAT.CODE. -/
theorem State.regBy_ccmd (reach : s.reaches src = true) (small : v < 2 ^ 3) :
    s.regBy src Adr.SPE_CCMD v = (s.ccmd v).2.speCcode (s.ccmd v).1 := by
  rw [State.regBy, State.writeBy_command true (by decide) (by decide) rfl reach (.inr (by decide)),
    State.regWrite1_command true rfl (State.regStatus_ccmd small)]
  rfl

/-- A command of SPE_PCMD of a source that reaches the node: its effect, and its status in SPE_PSTAT.CODE but for CANCEL (R171). -/
theorem State.regBy_pcmd (reach : s.reaches src = true) (small : v < 2 ^ 17) (op : bits v 1 0 ≠ 3) :
    s.regBy src Adr.SPE_PCMD v = if bits v 1 0 = 2 then (s.pcmd v).2 else (s.pcmd v).2.spePcode (s.pcmd v).1 := by
  have keeps : keepsCode Adr.SPE_PCMD v = decide (bits v 1 0 = 2) := by simp [keepsCode]
  rw [State.regBy, State.writeBy_command true (by decide) (by decide) rfl reach (.inr (by decide)),
    State.regWrite1_command true rfl (State.regStatus_pcmd small op), keeps]
  simp only [decide_eq_true_eq]
  rfl


/-! ### Stores of many entries -/

/-- Each key of a list put at the value that a function gives it. -/
theorem Sp.get_foldl_put {α : Type} [DecidableEq α] (dflt g : Nat → α) (ks : List Nat) (l : List (Nat × α)) (i : Nat) :
    Sp.get dflt (ks.foldl (fun l k => Sp.put dflt l k (g k)) l) i = if i ∈ ks then g i else Sp.get dflt l i := by
  induction ks generalizing l with
  | nil => simp
  | cons k ks ih =>
    rw [List.foldl_cons, ih, Sp.get_put]
    by_cases later : i ∈ ks
    · simp [later]
    · by_cases here : i = k <;> simp [later, here]

theorem Sp.find_ins {α : Type} (l : List (Nat × α)) (k i : Nat) (x : α) :
    Sp.find (Sp.ins l k x) i = if i = k then some x else Sp.find l i := by
  induction l with
  | nil => simp [Sp.ins, Sp.find, eq_comm]
  | cons p l ih =>
    obtain ⟨j, y⟩ := p
    rw [Sp.ins]
    split
    next same =>
      subst same
      by_cases here : j = i
      · simp [Sp.find, here]
      · simp [Sp.find, here, Ne.symm here]
    next differs =>
      split
      next before => simp [Sp.find, eq_comm]
      next after =>
        rw [Sp.find, ih, Sp.find]
        by_cases here : i = k
        · subst here
          simp [differs]
        · simp [here]

/-- Each key of a list inserted with the entry that a function gives it. -/
theorem Sp.find_foldl_ins {α : Type} (g : Nat → α) (ks : List Nat) (l : List (Nat × α)) (i : Nat) :
    Sp.find (ks.foldl (fun l k => Sp.ins l k (g k)) l) i = if i ∈ ks then some (g i) else Sp.find l i := by
  induction ks generalizing l with
  | nil => simp
  | cons k ks ih =>
    rw [List.foldl_cons, ih, Sp.find_ins]
    by_cases later : i ∈ ks
    · simp [later]
    · by_cases here : i = k <;> simp [later, here]

end Sys2Proof.Machine
end

/-!
Commits and ramps (R163 to R167): COMMIT, CANCEL, DISCARD, the end of a copy-back, a commit that acts, and the values of a ramp.
-/
section
namespace Sys2Proof.Machine

variable {s : State} {src : Source} {v : Nat}

/-! ### Commits (R163 to R167) -/

theorem State.ccmd_commit (s : State) (noramp : Bool) : s.ccmd (1 + 4 * b2n noramp) =
    s.speCommit (s.reg Adr.SPE_CTIMELO + 2 ^ 32 * s.reg Adr.SPE_CTIMEHI) noramp := by
  cases noramp <;> rfl

theorem State.ccmd_cancel (s : State) : s.ccmd 2 = s.speCommitCancel := rfl

theorem State.ccmd_discard (s : State) : s.ccmd 3 = s.speDiscard := rfl

/-- A command of SPE_CCMD that leaves the SPE as e with a status changes nothing else. -/
theorem State.run_ccmd {e : Spe} {code : Nat} (reach : s.reaches src = true) (small : v < 2 ^ 3)
    (effect : s.ccmd v = (code, { s with spe := e })) :
    (s.run fun s => s.regBy src Adr.SPE_CCMD v) = .next (({ s with spe := e } : State).setFld Adr.SPE_CSTAT 31 24 code) := by
  rw [State.run, State.regBy_ccmd reach small, effect]
  rfl

theorem exec_ccmdCommit (reach : s.reaches src = true) (noramp : Bool) : exec (.ccmdCommit src noramp) s =
    .next (if s.spe.commit.isSome then s.setFld Adr.SPE_CSTAT 31 24 0x04
      else ({ s with spe := { s.spe with commit := some (s.reg Adr.SPE_CTIMELO + 2 ^ 32 * s.reg Adr.SPE_CTIMEHI, noramp) } } : State).setFld
        Adr.SPE_CSTAT 31 24 0x00) := by
  have small : 1 + 4 * b2n noramp < 2 ^ 3 := by cases noramp <;> decide
  change (s.run fun s => s.regBy src Adr.SPE_CCMD (1 + 4 * b2n noramp)) = _
  split
  next pending => exact State.run_ccmd (e := s.spe) reach small (by rw [State.ccmd_commit, State.speCommit, if_pos pending]; rfl)
  next free => exact State.run_ccmd reach small (by rw [State.ccmd_commit, State.speCommit, if_neg free]; rfl)

theorem exec_ccmdCancel (reach : s.reaches src = true) : exec (.ccmdCancel src) s =
    .next (({ s with spe := { s.spe with commit := none } } : State).setFld Adr.SPE_CSTAT 31 24 0x00) :=
  State.run_ccmd reach (by decide) s.ccmd_cancel

/-- The shadow after DISCARD: the value in force of every dirty coefficient (R167). -/
def Spe.discarded (e : Spe) : List (Nat × S24) := e.dirty.foldl (fun l i => putS24 l i (getS24 e.coef i)) e.shadow

theorem Spe.getS24_discarded (e : Spe) (i : Nat) :
    getS24 e.discarded i = if i ∈ e.dirty then getS24 e.coef i else getS24 e.shadow i := by
  have put (l : List (Nat × S24)) (k : Nat) :
      putS24 l k (getS24 e.coef k) = Sp.put (fun _ => (0 : S24)) l k (Sp.get (fun _ => (0 : S24)) e.coef k) := by
    rw [putS24, getS24, BitVec.ofInt_toInt]
  simp only [Spe.discarded, put]
  rw [getS24, Sp.get_foldl_put, apply_ite BitVec.toInt]
  rfl

theorem exec_ccmdDiscard_pending (reach : s.reaches src = true) (pending : s.spe.commit ≠ none) :
    exec (.ccmdDiscard src) s = .next (s.setFld Adr.SPE_CSTAT 31 24 0x04) :=
  State.run_ccmd (e := s.spe) reach (by decide) (by
    rw [State.ccmd_discard, State.speDiscard, if_pos (Option.isSome_iff_ne_none.mpr pending)]; rfl)

theorem exec_ccmdDiscard_free (reach : s.reaches src = true) (free : s.spe.commit = none) : exec (.ccmdDiscard src) s =
    .next (({ s with spe := { s.spe with shadow := s.spe.discarded, dirty := [] } } : State).setFld Adr.SPE_CSTAT 31 24 0x00) :=
  State.run_ccmd reach (by decide) (by rw [State.ccmd_discard, State.speDiscard, if_neg (by simp [free])]; rfl)

theorem exec_copybackEnd (s : State) : exec .copybackEnd s = .next (s.setFlag Adr.SPE_CSTAT 14 false) := rfl

/-- Settles O24: each command of SPE_CCMD by what ccmd does, with its status in CODE; the shadow after DISCARD key by key. -/
theorem commitCommandsTakeEffect : Obligations.CommitCommandsTakeEffect := by
  unfold Obligations.CommitCommandsTakeEffect
  refine fun s src reach => ⟨fun noramp => ?_, exec_ccmdCancel reach, exec_ccmdDiscard_pending reach,
    fun free => ⟨s.spe.discarded, exec_ccmdDiscard_free reach free, s.spe.getS24_discarded⟩, exec_copybackEnd s⟩
  rw [exec_ccmdCommit reach, apply_ite Host.Outcome.next]

/-! ### Ramps (R164, R165) -/

theorem Ramp.value_before {r : Ramp} {k : Nat} (before : k < r.n) : r.value k = r.v0 + (k : Int) * (r.v1 - r.v0) / (r.n : Int) :=
  if_neg (by omega)

theorem Ramp.value_after {r : Ramp} {k : Nat} (after : r.n ≤ k) : r.value k = r.v1 := if_pos after

/-- A rising ramp stays between its ends. -/
theorem Ramp.value_mem_of_rising {r : Ramp} (rising : r.v0 ≤ r.v1) (k : Nat) : r.v0 ≤ r.value k ∧ r.value k ≤ r.v1 := by
  by_cases after : r.n ≤ k
  · rw [Ramp.value_after after]
    exact ⟨rising, Int.le_refl _⟩
  · have before : k < r.n := by omega
    have low : 0 ≤ (k : Int) * (r.v1 - r.v0) / (r.n : Int) :=
      Int.ediv_nonneg (Int.mul_nonneg (by omega) (by omega)) (by omega)
    have high : (k : Int) * (r.v1 - r.v0) / (r.n : Int) ≤ r.v1 - r.v0 :=
      Int.ediv_le_of_le_mul (by omega) (by rw [Int.mul_comm]; exact Int.mul_le_mul_of_nonneg_left (by omega) (by omega))
    rw [Ramp.value_before before]
    omega

/-- A falling ramp stays between its ends. -/
theorem Ramp.value_mem_of_falling {r : Ramp} (falling : r.v1 ≤ r.v0) (k : Nat) : r.v1 ≤ r.value k ∧ r.value k ≤ r.v0 := by
  by_cases after : r.n ≤ k
  · rw [Ramp.value_after after]
    exact ⟨Int.le_refl _, falling⟩
  · have before : k < r.n := by omega
    have low : r.v1 - r.v0 ≤ (k : Int) * (r.v1 - r.v0) / (r.n : Int) :=
      (Int.le_ediv_iff_mul_le (by omega)).mpr (by rw [Int.mul_comm]; exact Int.mul_le_mul_of_nonpos_right (by omega) (by omega))
    have high : (k : Int) * (r.v1 - r.v0) / (r.n : Int) ≤ 0 :=
      Int.ediv_nonpos_of_nonpos_of_neg (Int.mul_nonpos_of_nonneg_of_nonpos (by omega) (by omega)) (by omega)
    rw [Ramp.value_before before]
    omega

theorem Ramp.value_rises {r : Ramp} (rising : r.v0 ≤ r.v1) (k : Nat) : r.value k ≤ r.value (k + 1) := by
  by_cases last : r.n ≤ k + 1
  · rw [Ramp.value_after last]
    exact (Ramp.value_mem_of_rising rising k).2
  · rw [Ramp.value_before (by omega), Ramp.value_before (by omega)]
    exact Int.add_le_add_left (Int.ediv_le_ediv (by omega) (Int.mul_le_mul_of_nonneg_right (by omega) (by omega))) _

theorem Ramp.value_falls {r : Ramp} (falling : r.v1 ≤ r.v0) (k : Nat) : r.value (k + 1) ≤ r.value k := by
  by_cases last : r.n ≤ k + 1
  · rw [Ramp.value_after last]
    exact (Ramp.value_mem_of_falling falling k).1
  · rw [Ramp.value_before (by omega), Ramp.value_before (by omega)]
    exact Int.add_le_add_left (Int.ediv_le_ediv (by omega) (Int.mul_le_mul_of_nonpos_right (by omega) (by omega))) _

/-- The SPE after a commit that acts: a ramp for every dirty coefficient, and no commit pending. -/
theorem State.commitActs_spe (s : State) (noramp : Bool) : (s.commitActs noramp).spe = { s.spe with
    ramps := s.spe.dirty.foldl (fun l i =>
      Sp.ins l i ⟨getS24 s.spe.coef i, getS24 s.spe.shadow i, if noramp then 0 else s.rampLen i, 0⟩) s.spe.ramps
    dirty := [], commit := none, copyAt := if s.spe.dirty.isEmpty then s.spe.copyAt else s.clk } := by
  unfold State.commitActs
  dsimp only
  split <;> rfl

theorem State.commitActs_copyback (s : State) (noramp : Bool) : (s.commitActs noramp).flag Adr.SPE_CSTAT 14 = true ↔
    s.spe.dirty ≠ [] ∨ s.flag Adr.SPE_CSTAT 14 = true := by
  unfold State.commitActs
  dsimp only
  split
  next clean =>
    rw [List.isEmpty_iff] at clean
    simp [clean, State.flag, State.reg]
  next dirty =>
    rw [List.isEmpty_iff] at dirty
    simp [dirty]

/-- Settles O25: the values of a ramp by its two branches, rising and falling, and the ramps after a commit by what an insertion of each
dirty coefficient finds. -/
theorem commitsRampTheDirtySet : Obligations.CommitsRampTheDirtySet := by
  unfold Obligations.CommitsRampTheDirtySet
  refine ⟨fun r k => ⟨fun before => ?_, Ramp.value_after, fun rising => ?_, fun falling => ?_⟩,
    fun s noramp => ⟨?dirty, ?commit, ?coef, ?shadow, fun i => ?ramps, s.commitActs_copyback noramp⟩⟩
  · rw [Ramp.value_before before, Int.fdiv_eq_ediv_of_nonneg _ (by omega)]
  · obtain ⟨low, high⟩ := Ramp.value_mem_of_rising rising k
    exact ⟨low, high, Ramp.value_rises rising k⟩
  · obtain ⟨low, high⟩ := Ramp.value_mem_of_falling falling k
    exact ⟨low, high, Ramp.value_falls falling k⟩
  all_goals rw [s.commitActs_spe noramp]
  case ramps => exact Sp.find_foldl_ins _ _ _ i

end Sys2Proof.Machine
end

/-!
LOAD, CANCEL and the validation of a program (R169, R171, Table SP-10).
-/
section
namespace Sys2Proof.Machine

variable {s : State} {src : Source}

/-- A node with the queue that it has. -/
theorem State.queued_of_pending {t : State} (kept : t.pending = s.pending) : t.queued s.pending = t := by rw [← kept, State.queued_self]

/-! ### LOAD and CANCEL (R169, R171) -/

/-- The word of SPE_PCMD that LOAD writes. -/
def loadWord (len : BitVec 14) (clrt : Bool) : Nat := 1 + 4 * b2n clrt + 8 * len.toNat

theorem b2n_lt (c : Bool) : b2n c < 2 := by cases c <;> decide

theorem loadWord_lt (len : BitVec 14) (clrt : Bool) : loadWord len clrt < 2 ^ 17 := by
  have := len.isLt
  have := b2n_lt clrt
  unfold loadWord
  omega

theorem bits_loadWord_op (len : BitVec 14) (clrt : Bool) : bits (loadWord len clrt) 1 0 = 1 := by
  simp only [bits, loadWord, Nat.shiftRight_eq_div_pow]
  omega

theorem bits_loadWord_len (len : BitVec 14) (clrt : Bool) : bits (loadWord len clrt) 16 3 = len.toNat := by
  have := len.isLt
  have := b2n_lt clrt
  simp only [bits, loadWord, Nat.shiftRight_eq_div_pow]
  omega

theorem bit_loadWord_clrt (len : BitVec 14) (clrt : Bool) : bit (loadWord len clrt) 2 = clrt := by
  have third : bits (loadWord len clrt) 2 2 = b2n clrt := by
    have := b2n_lt clrt
    simp only [bits, loadWord, Nat.shiftRight_eq_div_pow]
    omega
  rw [bit_eq_bits, third]
  cases clrt <;> rfl

theorem State.pcmd_load (s : State) (len : BitVec 14) (clrt : Bool) : s.pcmd (loadWord len clrt) =
    s.speLoad len.toNat clrt (s.reg Adr.SPE_PTIMELO + 2 ^ 32 * s.reg Adr.SPE_PTIMEHI) := by
  rw [State.pcmd, bits_loadWord_op, bits_loadWord_len, bit_loadWord_clrt]
  rfl

theorem State.pcmd_cancel (s : State) : s.pcmd 2 = s.speLoadCancel := rfl

theorem State.speLoad_range {len : Nat} (outside : len = 0 ∨ s.speMaxLen < len) (clrt : Bool) (time : Nat) :
    s.speLoad len clrt time = (0x02, s) := if_pos (by simpa using outside)

theorem State.speLoad_busy {len : Nat} (inside : ¬ (len = 0 ∨ s.speMaxLen < len)) (busy : s.fld Adr.SPE_PSTAT 15 14 ≠ 0) (clrt : Bool)
    (time : Nat) : s.speLoad len clrt time = (0x04, s) := by
  rw [State.speLoad, if_neg (by simpa using inside), if_pos busy]
  rfl

theorem State.speLoad_free {len : Nat} (inside : ¬ (len = 0 ∨ s.speMaxLen < len)) (free : ¬ s.fld Adr.SPE_PSTAT 15 14 ≠ 0) (clrt : Bool)
    (time : Nat) : s.speLoad len clrt time =
      (0x00, ({ s with spe := { s.spe with load := some ⟨len, clrt, time⟩ } } : State).setFld Adr.SPE_PSTAT 15 14 1) := by
  rw [State.speLoad, if_neg (by simpa using inside), if_neg free]
  rfl

/-- LOAD keeps its status in SPE_PSTAT.CODE. -/
theorem exec_pcmdLoad_of_speLoad {len : BitVec 14} {clrt : Bool} {t : State} {code : Nat} (reach : s.reaches src = true)
    (load : s.speLoad len.toNat clrt (s.reg Adr.SPE_PTIMELO + 2 ^ 32 * s.reg Adr.SPE_PTIMEHI) = (code, t))
    (kept : t.pending = s.pending) : exec (.pcmdLoad src len clrt) s = .next (t.setFld Adr.SPE_PSTAT 23 16 code) := by
  have notCancel : bits (loadWord len clrt) 1 0 ≠ 2 := by rw [bits_loadWord_op]; decide
  have noOther : bits (loadWord len clrt) 1 0 ≠ 3 := by rw [bits_loadWord_op]; decide
  change (s.run fun s => s.regBy src Adr.SPE_PCMD (loadWord len clrt)) = _
  rw [State.run, State.regBy_pcmd reach (loadWord_lt len clrt) noOther, if_neg notCancel, State.pcmd_load, load, State.spePcode,
    State.queued_of_pending (by simp [kept])]

theorem exec_pcmdLoad (reach : s.reaches src = true) (len : BitVec 14) (clrt : Bool) : exec (.pcmdLoad src len clrt) s =
    if len.toNat = 0 ∨ s.speMaxLen < len.toNat then .next (s.setFld Adr.SPE_PSTAT 23 16 0x02)
    else if s.fld Adr.SPE_PSTAT 15 14 ≠ 0 then .next (s.setFld Adr.SPE_PSTAT 23 16 0x04)
    else .next ((({ s with spe := { s.spe with load := some ⟨len.toNat, clrt, s.reg Adr.SPE_PTIMELO + 2 ^ 32 * s.reg Adr.SPE_PTIMEHI⟩ } } :
      State).setFld Adr.SPE_PSTAT 15 14 1).setFld Adr.SPE_PSTAT 23 16 0x00) := by
  split
  next outside => exact exec_pcmdLoad_of_speLoad reach (State.speLoad_range outside _ _) rfl
  next inside =>
    split
    next busy => exact exec_pcmdLoad_of_speLoad reach (State.speLoad_busy inside busy _ _) rfl
    next free => exact exec_pcmdLoad_of_speLoad reach (State.speLoad_free inside free _ _) rfl

@[simp] theorem State.speLoadEnds_pending (s : State) : s.speLoadEnds.pending = s.pending := by
  rw [State.speLoadEnds, State.raise_pending, State.setFlag_pending, State.setFld_pending, State.setSpe_pending]

theorem exec_pcmdCancel (reach : s.reaches src = true) : exec (.pcmdCancel src) s =
    if s.fld Adr.SPE_PSTAT 15 14 = 0 then .next s else .next s.speLoadEnds := by
  change (s.run fun s => s.regBy src Adr.SPE_PCMD 2) = _
  rw [State.run, State.regBy_pcmd reach (by decide) (by decide), if_pos (by decide), State.pcmd_cancel, State.speLoadCancel]
  by_cases idle : s.fld Adr.SPE_PSTAT 15 14 = 0
  · rw [if_pos idle, if_pos idle]
    rfl
  · rw [if_neg idle, if_neg idle, State.queued_of_pending s.speLoadEnds_pending]

/-- What validation finds in the staging program of a LOAD. -/
def State.verdict (s : State) (l : Load) : Option (Nat × Nat) := speValidate s.speLimit ((List.range l.len).map s.stageStep) 0 [] 0

theorem State.speValidated_passed {l : Load} (load : s.spe.load = some l) (validating : s.fld Adr.SPE_PSTAT 15 14 = 1)
    (passed : s.verdict l = none) : s.speValidated = s.setFld Adr.SPE_PSTAT 15 14 2 := by
  rw [State.verdict] at passed
  simp only [State.speValidated, load, validating, if_true, passed]

theorem State.speValidated_failed {l : Load} {step rule : Nat} (load : s.spe.load = some l) (validating : s.fld Adr.SPE_PSTAT 15 14 = 1)
    (failed : s.verdict l = some (step, rule)) : s.speValidated =
      (s.speLoadEnds.setFld Adr.SPE_PSTAT 23 16 (speRuleCode rule)).setReg Adr.SPE_PERR (step + rule * 65536) := by
  rw [State.verdict] at failed
  simp only [State.speValidated, load, validating, if_true, failed]

/-- A verdict leaves the queue as it is. -/
theorem exec_loadValidated {t : State} (effect : s.speValidated = t) (kept : t.pending = s.pending) : exec .loadValidated s = .next t := by
  change (s.run State.speValidated) = _
  rw [State.run, effect, State.queued_of_pending kept]

theorem exec_loadValidated_passed {l : Load} (load : s.spe.load = some l) (validating : s.fld Adr.SPE_PSTAT 15 14 = 1)
    (passed : s.verdict l = none) : exec .loadValidated s = .next (s.setFld Adr.SPE_PSTAT 15 14 2) :=
  exec_loadValidated (State.speValidated_passed load validating passed) (State.setFld_pending _ _ _ _ _)

theorem exec_loadValidated_failed {l : Load} {step rule : Nat} (load : s.spe.load = some l) (validating : s.fld Adr.SPE_PSTAT 15 14 = 1)
    (failed : s.verdict l = some (step, rule)) : exec .loadValidated s =
      .next ((s.speLoadEnds.setFld Adr.SPE_PSTAT 23 16 (speRuleCode rule)).setReg Adr.SPE_PERR (step + rule * 65536)) :=
  exec_loadValidated (State.speValidated_failed load validating failed)
    (by rw [State.setReg_pending, State.setFld_pending, State.speLoadEnds_pending])

/-! ### Validation (R169, Table SP-10) -/

/-- The rule that step k of a program breaks, 0 if none, where earlier steps have written lines and made acc delay accesses. -/
def breaksAt (lim : Nat) (prog lines : List Nat) (acc k : Nat) : Nat :=
  speStepRule (prog.getD k 0) (((prog.take k).filter (fun w => speOp w = 0x1D)).map (fun w => bits w 41 36) ++ lines)
    (acc + ((prog.take k).map speAccesses).sum) lim

/-- The rule of a step depends on which lines were written, not on their order. -/
theorem speStepRule_congr {l m : List Nat} (same : ∀ j, j ∈ l ↔ j ∈ m) (w acc lim : Nat) :
    speStepRule w l acc lim = speStepRule w m acc lim := by
  have : l.contains (bits w 41 36) = m.contains (bits w 41 36) := by
    rw [Bool.eq_iff_iff, List.contains_iff_mem, List.contains_iff_mem, same]
  unfold speStepRule
  rw [this]

theorem breaksAt_zero (lim w : Nat) (ws lines : List Nat) (acc : Nat) : breaksAt lim (w :: ws) lines acc 0 = speStepRule w lines acc lim := rfl

/-- The first step's line and accesses belong to those before the rest. -/
theorem breaksAt_succ (lim w : Nat) (ws lines : List Nat) (acc k : Nat) : breaksAt lim (w :: ws) lines acc (k + 1) =
    breaksAt lim ws (if speOp w = 0x1D then bits w 41 36 :: lines else lines) (acc + speAccesses w) k := by
  unfold breaksAt
  rw [List.getD_cons_succ, List.take_succ_cons, List.map_cons, List.sum_cons, ← Nat.add_assoc]
  refine speStepRule_congr (fun j => ?_) _ _ _
  by_cases write : speOp w = 0x1D
  · simp [write, or_left_comm]
  · simp [write]

/-- Validation finds the first step that breaks a rule. -/
theorem speValidate_eq_find (lim : Nat) (prog : List Nat) (k : Nat) (lines : List Nat) (acc : Nat) : speValidate lim prog k lines acc =
    ((List.range prog.length).find? (fun j => breaksAt lim prog lines acc j ≠ 0)).map (fun j => (k + j, breaksAt lim prog lines acc j)) := by
  induction prog generalizing k lines acc with
  | nil => rfl
  | cons w ws ih =>
    rw [speValidate, List.length_cons, List.range_succ_eq_map, List.find?_cons, List.find?_map, breaksAt_zero]
    by_cases fine : speStepRule w lines acc lim = 0
    · simp [fine, ih, Function.comp_def, breaksAt_succ, Nat.add_assoc, Nat.add_comm 1]
    · simp [fine, breaksAt_zero]

theorem speValidate_eq_none {lim : Nat} {prog lines : List Nat} {k acc : Nat} : speValidate lim prog k lines acc = none ↔
    ∀ j, j < prog.length → breaksAt lim prog lines acc j = 0 := by
  simp [speValidate_eq_find]

theorem speValidate_eq_some {lim : Nat} {prog lines : List Nat} {acc k r : Nat} : speValidate lim prog 0 lines acc = some (k, r) ↔
    k < prog.length ∧ r ≠ 0 ∧ breaksAt lim prog lines acc k = r ∧ ∀ j, j < k → breaksAt lim prog lines acc j = 0 := by
  simp only [speValidate_eq_find, Option.map_eq_some_iff, List.find?_range_eq_some, Nat.zero_add, Prod.mk.injEq]
  constructor
  · rintro ⟨_, ⟨breaks, inside, first⟩, rfl, rfl⟩
    exact ⟨List.mem_range.mp inside, by simpa using breaks, rfl, by simpa using first⟩
  · rintro ⟨inside, breaks, rfl, first⟩
    exact ⟨k, ⟨by simpa using breaks, List.mem_range.mpr inside, by simpa using first⟩, rfl, rfl⟩

/-- Settles O26: LOAD and CANCEL by what a command of SPE_PCMD does, and validation as the search for the first step that breaks a rule. -/
theorem loadsAreValidated : Obligations.LoadsAreValidated := by
  unfold Obligations.LoadsAreValidated
  refine ⟨fun s src reach => ⟨exec_pcmdLoad reach, exec_pcmdCancel reach, fun l load validating => ?_⟩, fun lim prog => ?_⟩
  · split
    next passed => exact exec_loadValidated_passed load validating passed
    next step rule failed => exact exec_loadValidated_failed load validating failed
  have breaks (k : Nat) : speStepRule (prog.getD k 0) (((prog.take k).filter (fun w => speOp w = 0x1D)).map (fun w => bits w 41 36))
      ((prog.take k).map speAccesses).sum lim = breaksAt lim prog [] 0 k := by
    rw [breaksAt, List.append_nil, Nat.zero_add]
  simp only [breaks]
  exact ⟨speValidate_eq_none, fun k r => speValidate_eq_some⟩

end Sys2Proof.Machine
end

/-!
Writes of the shadow and of temporaries (R142, R163).
-/
section
namespace Sys2Proof.Machine

variable {s : State} {src : Source} {a v : Nat} {value : Word}

/-! ### Words of 24 bits -/

/-- The value of the low 24 bits of a word. -/
theorem sx_toNat (value : Word) : sx 24 value.toNat = (value.truncate 24 : S24).toInt := by
  have low : (value.truncate 24 : S24).toNat = value.toNat % 2 ^ 24 := BitVec.toNat_setWidth 24 value
  rw [BitVec.toInt_eq_toNat_cond, low]
  simp only [sx]
  split <;> split <;> omega

theorem s24Extended_iff (value : Word) : s24Extended value.toNat = true ↔ (value.truncate 24 : S24).signExtend 32 = value := by
  have extended : ((value.truncate 24 : S24).signExtend 32).toNat = ux 32 (sx 24 value.toNat) := by
    rw [sx_toNat, BitVec.signExtend, BitVec.toNat_ofInt]
    rfl
  rw [s24Extended, decide_eq_true_eq, ← extended, Nat.mod_eq_of_lt value.isLt, BitVec.toNat_inj]

theorem ofInt_sx (value : Word) : BitVec.ofInt 24 (sx 24 value.toNat) = (value.truncate 24 : S24) := by
  rw [sx_toNat, BitVec.ofInt_toInt]

/-! ### The bank of shadow values and the temporaries -/

/-- An address of coefficient bank 1 or of the temporaries (Table NS-6). -/
abbrev InSpeWords (a : Nat) : Prop := 0x01124000 ≤ a ∧ a < 0x01128400

theorem State.place_spe (s : State) (c : Option Nat) (inside : InSpeWords a) : s.place c a = .spe := by
  obtain ⟨lo, hi⟩ := inside
  unfold State.place basinSize
  rw [if_neg (by omega), if_neg (by simp; omega), if_neg (by simp; omega), if_neg (by simp; omega), if_pos (by simp; omega)]

/-- The two rules of a write there: it is stored, or the host or the Trail gave a word that is not extended (R142). -/
theorem State.speWriteStatus_word (s : State) (core : Bool) (inside : InSpeWords a) :
    s.speWriteStatus core a v = if core = true ∨ s24Extended v = true then 0 else St.range := by
  obtain ⟨lo, hi⟩ := inside
  unfold State.speWriteStatus
  dsimp only
  rw [if_neg (by omega), if_neg (by omega), if_neg (by omega), if_pos (by omega)]
  cases core <;> cases s24Extended v <;> rfl

/-- No register stands in the SPE window (Table NS-5). -/
theorem InSpeWords.ne_reg (inside : InSpeWords a) {r : Nat} (reg : 0x02000000 ≤ r) : a ≠ r := by
  obtain ⟨-, hi⟩ := inside
  omega

theorem codeReg_spe (inside : InSpeWords a) : codeReg a = false := by
  simp [codeReg, inside.ne_reg, Adr.SPE_PCMD, Adr.SPE_CCMD, Adr.DSP_CMD, Adr.PACK_UCMD, Adr.FAULT_CMD, Adr.VOICE_EVCMD]

/-- No rule over several words relates a word of the SPE. -/
theorem State.rulesFor_spe (s : State) (inside : InSpeWords a) : s.rulesFor [a] = [] := by
  have block {b : Nat} (reg : 0x2000 ≤ b) : a / 0x1000 ≠ b := by
    obtain ⟨-, hi⟩ := inside
    omega
  unfold State.rulesFor
  simp [codeReg_spe inside, block]

theorem wordDropped_spe (inside : InSpeWords a) (status : Nat) : wordDropped status a = false := by
  obtain ⟨lo, hi⟩ := inside
  simp [wordDropped, basinSize, show ¬ a < 0xC00000 by omega]

/-- A word that a source may give there: a core's top byte is ignored (R142). -/
abbrev SpeFits (src : Source) (v : Nat) : Prop := srcIsCore src = true ∨ s24Extended v = true

theorem State.busWrite1_spe (s : State) (pass : Bool) (inside : InSpeWords a) :
    s.busWrite1 src a v pass = if SpeFits src v then (0, s.speWrite a v) else (St.range, s) := by
  unfold State.busWrite1
  simp only [State.place_spe s _ inside, s.speWriteStatus_word (v := v) (srcIsCore src) inside]
  split <;> rfl

theorem State.busWrites_spe_stored (pass : Bool) (inside : InSpeWords a) (fits : SpeFits src v) :
    s.busWrites src a [v] pass = (0, a, s.speWrite a v) := by
  have one : (List.range [v].length).map (fun i => (a + 4 * i, [v].getD i 0)) = [(a, v)] := rfl
  have first : s.busWrite1 src a v pass = (0, s.speWrite a v) := by rw [State.busWrite1_spe s pass inside, if_pos fits]
  have voices : State.voiceRulesFail s [(a, v)] = none := by
    unfold State.voiceRulesFail
    simp [State.place_spe s none inside, List.eraseDups]
  have kept : wordDropped 0 0 = false := rfl
  unfold State.busWrites
  simp only [one]
  simp [State.pass1, first, voices, State.rulesFor_spe _ inside, ruleFail, kept]

theorem State.busWrites_spe_refused (pass : Bool) (inside : InSpeWords a) (misfit : ¬ SpeFits src v) :
    s.busWrites src a [v] pass = (St.range, a, s) := by
  have one : (List.range [v].length).map (fun i => (a + 4 * i, [v].getD i 0)) = [(a, v)] := rfl
  have first : s.busWrite1 src a v pass = (St.range, s) := by rw [State.busWrite1_spe s pass inside, if_neg misfit]
  unfold State.busWrites
  simp only [one]
  simp [State.pass1, first, wordDropped_spe inside, codeReg_spe inside, St.range]

theorem State.writeBy_spe_stored (pass : Bool) (inside : InSpeWords a) (reach : s.reaches src = true) (fits : SpeFits src v) :
    s.writeBy src a v pass = s.speWrite a v := by
  unfold State.writeBy
  simp [reach, State.busWrites_spe_stored pass inside fits]

/-- A misfit of a source that is no core changes nothing. -/
theorem State.writeBy_spe_refused (pass : Bool) (inside : InSpeWords a) (misfit : ¬ SpeFits src v) : s.writeBy src a v pass = s := by
  have refused := s.busWrites_spe_refused pass inside misfit
  unfold State.writeBy
  cases src with
  | core k => exact absurd (.inl rfl) misfit
  | host | trail _ | boot => simp [refused]

/-! ### COEF_WRITE and SPE_TEMP_WRITE -/

theorem coef_inSpeWords (i : Fin 4096) : InSpeWords (0x01124000 + 4 * i.val) := ⟨by omega, by omega⟩

theorem temp_inSpeWords (i : Fin 256) : InSpeWords (0x01128000 + 4 * i.val) := ⟨by omega, by omega⟩

/-- The dirty set with coefficient i in it (R163). -/
def Spe.marked (e : Spe) (i : Nat) : List Nat := if e.dirty.contains i then e.dirty else e.dirty ++ [i]

theorem Spe.mem_marked {e : Spe} {i j : Nat} : j ∈ e.marked i ↔ j = i ∨ j ∈ e.dirty := by
  unfold Spe.marked
  split
  next already =>
    rw [List.contains_iff_mem] at already
    exact ⟨.inr, fun h => h.elim (fun same => same ▸ already) id⟩
  next => rw [List.mem_append, List.mem_singleton, or_comm]

theorem State.speWrite_coef (s : State) (i : Fin 4096) (value : Word) : s.speWrite (0x01124000 + 4 * i.val) value.toNat =
    ({ s with spe := { s.spe with
      shadow := Sp.put (fun _ => (0 : S24)) s.spe.shadow i.val (value.truncate 24), dirty := s.spe.marked i.val } } : State).setFlag
        Adr.SPE_CSTAT 14 false := by
  have place : (0x01124000 + 4 * i.val - 0x01100000) % 0x4000 / 4 = i.val := by omega
  unfold State.speWrite
  dsimp only
  rw [if_neg (by omega), if_pos (by omega), State.speHeld, if_pos (by simp; omega)]
  simp only [place, putS24, ofInt_sx]
  rfl

theorem State.speWrite_temp (s : State) (i : Fin 256) (value : Word) : s.speWrite (0x01128000 + 4 * i.val) value.toNat =
    { s with spe := { s.spe with heldT := s.spe.heldT ++ [(i.val, value.truncate 24)] } } := by
  have place : (0x01128000 + 4 * i.val - 0x01100000 - 0x28000) / 4 = i.val := by omega
  unfold State.speWrite
  dsimp only
  rw [if_neg (by omega), if_neg (by omega), place, ofInt_sx]
  rfl

theorem exec_coefWrite (s : State) (src : Source) (i : Fin 4096) (value : Word) : exec (.coefWrite src i value) s =
    s.run fun s => s.writeBy src (0x01124000 + 4 * i.val) value.toNat true := rfl

theorem exec_speTempWrite (s : State) (src : Source) (i : Fin 256) (value : Word) : exec (.speTempWrite src i value) s =
    s.run fun s => s.writeBy src (0x01128000 + 4 * i.val) value.toNat true := rfl

/-- Settles O27: a write of one word of the SPE window by speWrite where it fits, and by what is left of the two passes where it does not. -/
theorem speWordWritesAreStored : Obligations.SpeWordWritesAreStored := by
  unfold Obligations.SpeWordWritesAreStored
  intro s src value reach
  dsimp only
  rw [← s24Extended_iff]
  refine ⟨fun fits i => ⟨_, s.spe.marked i.val, ?coef, fun j => Sp.get_put _ _ _ j _, fun j => Spe.mem_marked⟩, fun fits i => ?temp,
    fun misfit => ⟨fun i => ?coefMisfit, fun i => ?tempMisfit⟩⟩
  case coef =>
    rw [exec_coefWrite, State.run, State.writeBy_spe_stored true (coef_inSpeWords i) reach fits, State.speWrite_coef]
    rfl
  case temp =>
    rw [exec_speTempWrite, State.run, State.writeBy_spe_stored true (temp_inSpeWords i) reach fits, State.speWrite_temp]
    rfl
  case coefMisfit => rw [exec_coefWrite, State.run_same (State.writeBy_spe_refused true (coef_inSpeWords i) misfit)]
  case tempMisfit => rw [exec_speTempWrite, State.run_same (State.writeBy_spe_refused true (temp_inSpeWords i) misfit)]

end Sys2Proof.Machine
end

/-!
Delay lines: the control write (R154, R159), the start of a clear and its end (R160).
-/
section
namespace Sys2Proof.Machine

variable {s : State} {src : Source} {j : Fin 64} {v : Nat}

/-! ### SPE_DLCTL -/

/-- The row of the delay-line control registers (Table HI-8). -/
def dlctlRow : RegRow := ⟨0x02006200, 0x4, 64, 0, 1, 0xfffff3, 0, 0x4, 0, 0x8, 0⟩

theorem regRow_dlctl : ∀ j : Fin 64, regRow (Adr.SPE_DLCTL j.val) = some dlctlRow := by decide +kernel

/-- The bits of SPE_DLCTLj after a write of v: EN, FMT and LENM1 are those of v. -/
def State.dlctlKept (s : State) (j v : Nat) : Nat := (v &&& 0xFFFFF3) ||| (s.reg (Adr.SPE_DLCTL j) &&& 0xFF00000C)

theorem State.storeReg_dlctl (s : State) (j v : Nat) :
    s.storeReg dlctlRow (Adr.SPE_DLCTL j) v = s.setReg (Adr.SPE_DLCTL j) (s.dlctlKept j v) := by
  have notCounter : dlctlRow.isCounter = false := rfl
  rw [State.storeReg, notCounter]
  simp [dlctlRow, State.dlctlKept, Nat.and_assoc]

theorem State.regApply_dlctl (s : State) (r : RegRow) (j : Fin 64) (v : Nat) : s.regApply r (Adr.SPE_DLCTL j.val) v =
    if bit v 2 then (s.storeReg r (Adr.SPE_DLCTL j.val) v).startClear j.val else s.storeReg r (Adr.SPE_DLCTL j.val) v := by
  have single : ∀ j : Fin 64, ∀ a ∈ actingRegs, Adr.SPE_DLCTL j.val ≠ a := by decide +kernel
  have place : ∀ j : Fin 64, (Adr.SPE_DLCTL j.val - Adr.SPE_DLCTL 0) / 4 = j.val := by decide +kernel
  have array : ∀ j : Fin 64, (arrIx (Adr.SPE_DLCTL j.val) (Adr.SPE_DLCTL 0) 4 64).isSome = true := by decide +kernel
  replace single := single j
  simp only [actingRegs, List.forall_mem_cons] at single
  unfold State.regApply
  simp [single, array, place]

/-- An accepted write of SPE_DLCTLj stores it, and starts a clear where CLEAR is set. -/
theorem State.regBy_dlctl (acc : s.accepts src (Adr.SPE_DLCTL j.val) v = true) : s.regBy src (Adr.SPE_DLCTL j.val) v =
    if bit v 2 then (s.setReg (Adr.SPE_DLCTL j.val) (s.dlctlKept j.val v)).setFlag (Adr.SPE_DLCTL j.val) 3 true
    else s.setReg (Adr.SPE_DLCTL j.val) (s.dlctlKept j.val v) := by
  have row := regRow_dlctl j
  obtain ⟨-, lo, hi⟩ := inRegBlocks_of_regRow row
  have code : ∀ j : Fin 64, codeReg (Adr.SPE_DLCTL j.val) = false := by decide +kernel
  rw [State.regBy, State.writeBy_accepted true row lo hi (code j) acc, State.regApply_dlctl, State.storeReg_dlctl]
  rfl

theorem exec_speDlctl_accepted {value : Word} (acc : s.accepts src (Adr.SPE_DLCTL j.val) value.toNat = true)
    (noClear : bit value.toNat 2 = false) :
    exec (.speDlctl src j value) s = .next (s.setReg (Adr.SPE_DLCTL j.val) (s.dlctlKept j.val value.toNat)) := by
  change (s.run fun s => s.regBy src (Adr.SPE_DLCTL j.val) value.toNat) = _
  rw [State.run, State.regBy_dlctl acc, if_neg (by simp [noClear])]
  rfl

/-- CLEAR is a bit of the write and none of those kept. -/
theorem State.dlctlKept_clear (s : State) (j v : Nat) : s.dlctlKept j (v ||| 4) = s.dlctlKept j v := by
  simp [State.dlctlKept, Nat.and_or_distrib_right]

theorem exec_delayClear_accepted {value : Word} (acc : s.accepts src (Adr.SPE_DLCTL j.val) (value.toNat ||| 4) = true) :
    exec (.delayClear src j value) s =
      .next ((s.setReg (Adr.SPE_DLCTL j.val) (s.dlctlKept j.val value.toNat)).setFlag (Adr.SPE_DLCTL j.val) 3 true) := by
  have clear : bit (value.toNat ||| 4) 2 = true := by simp [bit, Nat.testBit_or, show Nat.testBit 4 2 = true from rfl]
  change (s.run fun s => s.regBy src (Adr.SPE_DLCTL j.val) (value.toNat ||| 4)) = _
  rw [State.run, State.regBy_dlctl acc, if_pos clear, State.dlctlKept_clear]
  rfl

/-! ### The two stores of a write with CLEAR

The write stores the register, then CLEARING. In the canonical form of the registers that is one store of both; elsewhere it need not be. -/

theorem putBit_true (n i : Nat) : putBit n i true = n ||| 2 ^ i := by
  refine Nat.eq_of_testBit_eq fun k => ?_
  rw [Nat.testBit_or, Nat.testBit_two_pow]
  by_cases same : k = i
  · subst same
    have set : bit (putBit n k true) k = true := by
      rw [bit_eq_bits, putBit, putBits_low (by simp [b2n]) (Nat.le_refl k)]
      rfl
    simpa [bit] using set
  · simpa [bit, Ne.symm same] using bit_putBit_other (n := n) same true

theorem State.dlctlKept_lt (s : State) (j v : Nat) : s.dlctlKept j v < 2 ^ 32 :=
  Nat.or_lt_two_pow (Nat.and_lt_two_pow _ (by decide)) (Nat.and_lt_two_pow _ (by decide))

/-- In the canonical form the last of two stores of a register is all that is left of them. -/
theorem State.setReg_setReg (canonical : Sp.wf regReset s.regs = true) (a x y : Nat) : (s.setReg a x).setReg a y = s.setReg a y := by
  have regs : ((s.setReg a x).setReg a y).regs = (s.setReg a y).regs := by
    refine Sp.ext_of_wf regReset (State.setReg_wf (State.setReg_wf canonical a x) a y) (State.setReg_wf canonical a y) fun k => ?_
    rw [State.setReg_regs, State.setReg_regs, State.setReg_regs, Sp.get_put, Sp.get_put, Sp.get_put]
    split <;> rfl
  exact congrArg (fun l => { s with regs := l }) regs

/-- In every node whose registers stand in the canonical form, DELAY_CLEAR does what R160 says. -/
theorem exec_delayClear_canonical {value : Word} (canonical : Sp.wf regReset s.regs = true)
    (acc : s.accepts src (Adr.SPE_DLCTL j.val) (value.toNat ||| 4) = true) :
    exec (.delayClear src j value) s = .next (s.setReg (Adr.SPE_DLCTL j.val) (s.dlctlKept j.val value.toNat ||| 8)) := by
  have clearing (n : Nat) : putBit n 3 true = n ||| 8 := putBit_true n 3
  rw [exec_delayClear_accepted acc, State.setFlag, State.setReg_setReg canonical, State.reg_setReg_same,
    Nat.mod_eq_of_lt (s.dlctlKept_lt _ _), clearing]

/-! ### DELAY_CLEAR_END (R160) -/

theorem exec_delayClearEnd_due {n : Nat} (clearing : (s.dline j.val).clr = some n) (zeroed : (s.dline j.val).clrSet.bytes ≤ n) :
    exec (.delayClearEnd j) s = .next
      ((s.setDline j.val { s.dline j.val with clr := none, wrote := [] }).setFlag (Adr.SPE_DLCTL j.val) 3 false) := by
  change (s.run fun s => s.clearEnd j.val) = _
  simp only [State.run, State.clearEnd, clearing, if_pos zeroed]
  rfl

theorem exec_delayClearEnd_early (early : ∀ n, (s.dline j.val).clr = some n → n < (s.dline j.val).clrSet.bytes) :
    exec (.delayClearEnd j) s = .next s := by
  have same : s.clearEnd j.val = s := by
    unfold State.clearEnd
    dsimp only
    split
    next n clearing => exact if_neg (by have := early n clearing; omega)
    next => rfl
  exact State.run_same (f := fun s => s.clearEnd j.val) same

/-! ### A register store that is not canonical -/

/-- The node after reset, with SPE_DLCTL0 listed twice in its registers. -/
def twiceListed : State := { State.reset with regs := [(Adr.SPE_DLCTL 0, 0), (Adr.SPE_DLCTL 0, 0)] }

theorem twiceListed_accepts : twiceListed.accepts .boot (Adr.SPE_DLCTL (0 : Fin 64).val) ((0 : Word).toNat ||| 4) = true := by decide +kernel

/-- The two stores of a write of CLEAR leave other registers than one store of both. -/
theorem twiceListed_stores {a kept : Nat} (line : a = Adr.SPE_DLCTL 0) (zero : kept = 0) :
    (twiceListed.setReg a kept).setFlag a 3 true ≠ twiceListed.setReg a (kept ||| 8) := by
  subst line zero
  intro same
  exact absurd (congrArg State.regs same) (by decide +kernel)

/-- Refutes O28: the statement takes every State, and in twiceListed the registers are not in the canonical form. DELAY_CLEAR of line 0 stores
0 there, which unlists both entries, and then CLEARING; one store of the two leaves the second entry listed. In the canonical form the clause
holds (exec_delayClear_canonical). -/
theorem not_delayLinesAreSetAndCleared : ¬ Obligations.DelayLinesAreSetAndCleared := by
  unfold Obligations.DelayLinesAreSetAndCleared
  intro h
  obtain ⟨-, clear, -⟩ := h twiceListed .boot 0 0
  have once := clear twiceListed_accepts
  rw [exec_delayClear_accepted twiceListed_accepts] at once
  exact twiceListed_stores rfl (by decide +kernel) (Host.Outcome.next.inj once)

end Sys2Proof.Machine
end

/-!
SUPPORT. What leaves the repair and the sweep of the Basin alone (R246 to R252): stores in the Basin, source records and fault-log records keep
the registers of Table BM-6 and Table BM-7 below BASIN_COLFLAG, the remaps, the copies in progress and the time of the next region.
-/
section
namespace Sys2Proof.Machine

variable (s : State) {a v i : Nat} {x : Bool}

/-- The repair and sweep registers, the remaps, the copies in progress and the time of the next region. -/
def State.repair (s : State) : (Fin 80 → Nat) × List (Nat × Nat × Nat) × List (Nat × Nat) × Nat :=
  (fun k => s.reg (Adr.BASIN_STAT + k.val), s.basin.remaps, s.basin.copying, s.basin.sweepAt)

/-- Addresses outside the repair and sweep registers. -/
abbrev OutsideRepair (a : Nat) : Prop := a < Adr.BASIN_STAT ∨ Adr.BASIN_COLFLAG ≤ a

theorem State.reg_of_repair {s t : State} (h : t.repair = s.repair) (inside : ¬ OutsideRepair a) : t.reg a = s.reg a := by
  obtain ⟨k, rfl⟩ : ∃ k : Fin 80, a = Adr.BASIN_STAT + k.val := by
    unfold OutsideRepair Adr.BASIN_STAT Adr.BASIN_COLFLAG at inside
    exact ⟨⟨a - Adr.BASIN_STAT, by unfold Adr.BASIN_STAT; omega⟩, by unfold Adr.BASIN_STAT; simp only; omega⟩
  exact congrFun (congrArg Prod.fst h) k

theorem State.remaps_of_repair {s t : State} (h : t.repair = s.repair) : t.basin.remaps = s.basin.remaps := congrArg (fun p => p.2.1) h

theorem State.copying_of_repair {s t : State} (h : t.repair = s.repair) : t.basin.copying = s.basin.copying := congrArg (fun p => p.2.2.1) h

theorem State.sweepAt_of_repair {s t : State} (h : t.repair = s.repair) : t.basin.sweepAt = s.basin.sweepAt := congrArg (fun p => p.2.2.2) h

/-! ### Registers outside -/

theorem State.setReg_repair (outside : OutsideRepair a) (v : Nat) : (s.setReg a v).repair = s.repair := by
  have kept (k : Fin 80) : (s.setReg a v).reg (Adr.BASIN_STAT + k.val) = s.reg (Adr.BASIN_STAT + k.val) :=
    s.reg_setReg_other (by unfold OutsideRepair Adr.BASIN_STAT Adr.BASIN_COLFLAG at *; omega) v
  simp [State.repair, kept]

theorem State.setFlag_repair (outside : OutsideRepair a) (i : Nat) (x : Bool) : (s.setFlag a i x).repair = s.repair := s.setReg_repair outside _

theorem State.count_repair (outside : OutsideRepair a) : (s.count a).repair = s.repair := by
  unfold State.count State.countBy
  dsimp only
  split <;> exact s.setReg_repair outside _

@[simp] theorem State.raise_repair (i : Nat) : (s.raise i).repair = s.repair := s.setFlag_repair (.inr (by decide)) i true

@[simp] theorem State.setRing_repair (q : Nat) (r : SrcRing) : (s.setRing q r).repair = s.repair := rfl

@[simp] theorem State.setGroup_repair (g : WordGroup) : (s.setGroup g).repair = s.repair := rfl

/-! ### Stores in the Basin -/

theorem State.setStale_reg_other (notHash : a ≠ Adr.VOICE_HASHCTL) : s.setStale.reg a = s.reg a := by
  have flagged := s.reg_setFlag_other notHash 2 true
  unfold State.setStale
  dsimp only
  split
  · exact flagged
  · exact flagged

@[simp] theorem State.setStale_repair : s.setStale.repair = s.repair := by
  have kept (k : Fin 80) : s.setStale.reg (Adr.BASIN_STAT + k.val) = s.reg (Adr.BASIN_STAT + k.val) :=
    s.setStale_reg_other (by unfold Adr.BASIN_STAT Adr.VOICE_HASHCTL; omega)
  simp [State.repair, kept, State.setStale_basin]

@[simp] theorem State.memPut_repair (a : Nat) (l : List Byte) : (s.memPut a l).repair = s.repair := by
  unfold State.memPut
  dsimp only
  split
  · split
    · exact s.setStale_repair
    · rfl
  · rfl

/-- No port's status stands among the repair and sweep registers. -/
theorem outsideRepair_aportStat (p : Nat) : OutsideRepair (Adr.APORT_STAT p) := .inr (by unfold Adr.APORT_STAT Adr.BASIN_COLFLAG; omega)

@[simp] theorem State.tellLost_repair (x : LaneWrite) : (s.tellLost x).repair = s.repair := by
  have told : (s.setFlag Adr.BASIN_COLFLAG x.master true).repair = s.repair := s.setFlag_repair (.inr (Nat.le_refl _)) _ _
  unfold State.tellLost
  dsimp only
  split
  · rw [State.setFlag_repair _ (outsideRepair_aportStat _), told]
  · exact told

theorem State.putPart_repair (master port a : Nat) (l : List Byte) : (s.putPart master port a l).2.repair = s.repair := by
  unfold State.putPart
  dsimp only
  split
  · simp
  · exact List.foldlRecOn (motive := fun t : State => t.repair = s.repair) _ _ (by simp) (fun t kept x _ => by simpa using kept)

@[simp] theorem State.basinPut_repair (master port a : Nat) (l : List Byte) : (s.basinPut master port a l).2.repair = s.repair :=
  List.foldlRecOn (motive := fun p : Bool × State => p.2.repair = s.repair) _ _ rfl
    (fun p kept q _ => (p.2.putPart_repair master port q.1 q.2).trans kept)

/-! ### Records -/

/-- A source's count of lost events stands below the Basin's registers. -/
theorem outsideRepair_srcLost {q : Nat} (source : q < 12) : OutsideRepair (Adr.DSP_SRCLOST q) :=
  .inl (by unfold Adr.DSP_SRCLOST Adr.BASIN_STAT; omega)

theorem State.post_repair {q : Nat} (source : q < 12) (record : List Byte) : (s.post q record).repair = s.repair := by
  have lost : (s.loseEvent q).repair = s.repair := (State.count_repair _ (outsideRepair_srcLost source)).trans (s.setRing_repair q _)
  unfold State.post State.offer
  dsimp only
  split
  · exact lost
  · split
    · exact lost
    · simp [State.writeEntry]

@[simp] theorem State.postFault_repair (code engine status cause arg : Nat) :
    (s.postFault code engine status cause arg).repair = s.repair := by
  rw [State.postFault, State.post_repair _ (by decide), State.raise_repair]

@[simp] theorem State.logFault_repair (type engine status a b c : Nat) : (s.logFault type engine status a b c).repair = s.repair := by
  unfold State.logFault
  dsimp only
  split
  · rfl
  · exact s.count_repair (.inr (by decide))

end Sys2Proof.Machine
end

/-!
SUPPORT. Two writes of one FCLK cycle to one word (R241, R242): their lanes, which of them is dropped, and what the word holds.
-/
section
namespace Sys2Proof.Machine

variable {s : State} {g : WordGroup} {x top low : LaneWrite} {master port a i : Nat} {l : List Byte}

/-! ### Lanes of a word -/

theorem getD_lanesOf (inWord : i < 4) (a : Nat) (l : List Byte) :
    (lanesOf a l).getD i none = if a % 4 ≤ i then l[i - a % 4]? else none := by
  simp [lanesOf, List.getD_eq_getElem?_getD, List.getElem?_range inWord]

theorem getD_lanesMerge (inWord : i < 4) (b : List Byte) (x : List (Option Byte)) :
    (lanesMerge b x).getD i 0 = (x.getD i none).getD (b.getD i 0) := by
  simp [lanesMerge, List.getD_eq_getElem?_getD, List.getElem?_range inWord]

@[simp] theorem length_lanesMerge (b : List Byte) (x : List (Option Byte)) : (lanesMerge b x).length = 4 := by simp [lanesMerge]

/-- Two writes clash where they share a lane with different bytes. -/
theorem lanesClash_iff (x y : List (Option Byte)) :
    lanesClash x y = true ↔ ∃ i < 4, ∃ b c, y.getD i none = some b ∧ x.getD i none = some c ∧ b ≠ c := by
  simp only [lanesClash, List.any_eq_true, List.mem_range]
  refine exists_congr fun i => and_congr_right fun _ => ?_
  cases x.getD i none with
  | none => simp
  | some c =>
    cases y.getD i none with
    | none => simp
    | some b => simpa using ne_comm

/-- Without a clash, bytes of the higher write stand in the word whichever of the two is stored last. -/
theorem getD_lanesMerge_twice (inWord : i < 4) (b : List Byte) {x y : List (Option Byte)} (agree : lanesClash x y = false) :
    (lanesMerge (lanesMerge b y) x).getD i 0 = ((y.getD i none).orElse fun _ => x.getD i none).getD (b.getD i 0) := by
  have same : ∀ p q, y.getD i none = some p → x.getD i none = some q → p = q := by
    intro p q hp hq
    exact Decidable.byContradiction fun differ =>
      Bool.false_ne_true (agree.symm.trans ((lanesClash_iff x y).mpr ⟨i, inWord, p, q, hp, hq, differ⟩))
  rw [getD_lanesMerge inWord, getD_lanesMerge inWord]
  cases hy : y.getD i none with
  | none => simp
  | some p =>
    cases hx : x.getD i none with
    | none => simp
    | some q => simp [same p q hy hx]

/-! ### Stores in one word -/

theorem State.memPut_reg_other (notHash : a ≠ Adr.VOICE_HASHCTL) (b : Nat) (l : List Byte) : (s.memPut b l).reg a = s.reg a := by
  unfold State.memPut
  dsimp only
  split
  · split
    · exact s.setStale_reg_other notHash
    · rfl
  · rfl

/-- A byte of a word after the whole word was stored. -/
theorem State.memByte_memPut_word {w : Nat} (inside : 4 * w + 4 ≤ basinSize) (four : l.length = 4) (inWord : i < 4) :
    (s.memPut (4 * w) l).memByte (4 * w + i) = l.getD i 0 := by
  rw [State.memByte_memPut, if_pos (by omega), Nat.add_sub_cancel_left]

theorem State.memByte_memPut_elsewhere {w b : Nat} (four : l.length = 4) (elsewhere : b / 4 ≠ w) :
    (s.memPut (4 * w) l).memByte b = s.memByte b := by
  rw [State.memByte_memPut, if_neg (by omega)]

/-! ### Telling the master of a dropped write (R242) -/

theorem State.tellLost_memByte (x : LaneWrite) (b : Nat) : (s.tellLost x).memByte b = s.memByte b := by
  rw [State.memByte, State.tellLost_basin, State.memByte]

theorem State.tellLost_colflag (code : x.master < 32) : (s.tellLost x).flag Adr.BASIN_COLFLAG x.master = true := by
  have apart : Adr.BASIN_COLFLAG ≠ Adr.APORT_STAT x.port := by unfold Adr.BASIN_COLFLAG Adr.APORT_STAT; omega
  have told := s.flag_setFlag Adr.BASIN_COLFLAG x.master true code
  unfold State.tellLost
  dsimp only
  split
  · rw [State.flag, State.reg_setFlag_other _ apart]; exact told
  · exact told

/-! ### A group of two writes -/

/-- A write of a master to one word, as a member of the word's group. -/
def laneWrite (master port a : Nat) (l : List Byte) : LaneWrite := ⟨master, port, lanesOf a l, false⟩

/-- The write of the lower rank is dropped where the two clash. -/
def LaneWrite.under (low top : LaneWrite) : LaneWrite := { low with lost := lanesClash low.lanes top.lanes }

@[simp] theorem LaneWrite.master_under : (low.under top).master = low.master := rfl

@[simp] theorem LaneWrite.lanes_under : (low.under top).lanes = low.lanes := rfl

theorem resolveGroup_pair (stored : top.lost = false) : resolveGroup [] [top, low] = [top, low.under top] := by
  have kept : { top with lost := false } = top := by rw [← stored]
  simp [resolveGroup, LaneWrite.under, kept]

/-- What a word holds after two writes, the higher one first. -/
def pairBytes (base : List Byte) (top low : LaneWrite) : List Byte :=
  if (low.under top).lost then lanesMerge base top.lanes else lanesMerge (lanesMerge base top.lanes) low.lanes

@[simp] theorem length_pairBytes (base : List Byte) (top low : LaneWrite) : (pairBytes base top low).length = 4 := by
  unfold pairBytes
  split <;> simp

/-- Word w with two writes of its last cycle stored. -/
def State.storePair (s : State) (g : WordGroup) (w : Nat) (top low : LaneWrite) : State :=
  (s.setGroup { g with writes := [top, low.under top] }).memPut (4 * w) (pairBytes g.base top low)

theorem State.storePair_memByte {w : Nat} (inside : 4 * w + 4 ≤ basinSize) (inWord : i < 4) :
    (s.storePair g w top low).memByte (4 * w + i) = (pairBytes g.base top low).getD i 0 :=
  State.memByte_memPut_word inside (length_pairBytes ..) inWord

theorem State.storePair_memByte_elsewhere {w b : Nat} (elsewhere : b / 4 ≠ w) :
    (s.storePair g w top low).memByte b = s.memByte b :=
  (State.memByte_memPut_elsewhere (length_pairBytes ..) elsewhere).trans rfl

theorem State.storePair_colflag (w : Nat) : (s.storePair g w top low).reg Adr.BASIN_COLFLAG = s.reg Adr.BASIN_COLFLAG :=
  State.memPut_reg_other (by decide) _ _

/-- Two writes of one cycle: the lower is dropped, and its master told, where they clash. -/
theorem State.putPart_pair (found : s.basin.groups.find? (fun h => h.open s.clk (a / 4) master && Config.sameCycle s.clk (a / 4) master) = some g)
    (one : g.writes = [x]) (order : rankIn (laneWrite master port a l) [x] = [top, low])
    (stored : top.lost = false) (was : x.lost = false) :
    s.putPart master port a l =
      if (low.under top).lost then (decide (low.master = master), (s.storePair g (a / 4) top low).tellLost (low.under top))
      else (false, s.storePair g (a / 4) top low) := by
  unfold State.putPart
  simp only [found, one]
  rw [show (⟨master, port, lanesOf a l, false⟩ : LaneWrite) = laneWrite master port a l from rfl, order, resolveGroup_pair stored]
  by_cases clash : (low.under top).lost = true
  · have fresh : low.under top ≠ x := fun same => by rw [same, was] at clash; exact absurd clash (by decide)
    simp [stored, clash, fresh, pairBytes, State.storePair]
    rfl
  · simp [stored, clash, pairBytes, State.storePair]

/-- R241 and R242 for two writes that meet, by the bytes hi and lo that the higher and the lower one write in each lane. -/
theorem State.putPart_meets {hi lo : Nat → Option Byte}
    (found : s.basin.groups.find? (fun h => h.open s.clk (a / 4) master && Config.sameCycle s.clk (a / 4) master) = some g)
    (one : g.writes = [x]) (order : rankIn (laneWrite master port a l) [x] = [top, low]) (stored : top.lost = false) (was : x.lost = false)
    (inside : a < 0xC00000) (code : low.master < 15)
    (high : ∀ i < 4, top.lanes.getD i none = hi i) (lower : ∀ i < 4, low.lanes.getD i none = lo i) :
    let clash := ∃ i < 4, ∃ b c, hi i = some b ∧ lo i = some c ∧ b ≠ c
    let r := s.putPart master port a l
    (clash → r.1 = decide (low.master = master) ∧ r.2.flag Adr.BASIN_COLFLAG low.master = true ∧
      ∀ i < 4, r.2.memByte (4 * (a / 4) + i) = (hi i).getD (g.base.getD i 0)) ∧
    (¬ clash → r.1 = false ∧ r.2.reg Adr.BASIN_COLFLAG = s.reg Adr.BASIN_COLFLAG ∧
      ∀ i < 4, r.2.memByte (4 * (a / 4) + i) = ((hi i).orElse fun _ => lo i).getD (g.base.getD i 0)) ∧
    ∀ b, b / 4 ≠ a / 4 → r.2.memByte b = s.memByte b := by
  intro clash r
  have fits : 4 * (a / 4) + 4 ≤ basinSize := by unfold basinSize; omega
  have dropped : (low.under top).lost = true ↔ clash :=
    (lanesClash_iff _ _).trans (exists_congr fun i => and_congr_right fun inWord => by rw [high i inWord, lower i inWord])
  have result : r = _ := State.putPart_pair found one order stored was
  by_cases lost : (low.under top).lost = true
  · rw [if_pos lost] at result
    rw [result]
    refine ⟨fun _ => ⟨rfl, State.tellLost_colflag (x := low.under top) (Nat.lt_trans code (by decide)), fun i inWord => ?_⟩,
      fun apart => absurd (dropped.mp lost) apart, fun b elsewhere => ?_⟩
    · rw [State.tellLost_memByte, State.storePair_memByte fits inWord, pairBytes, if_pos lost, getD_lanesMerge inWord, high i inWord]
    · rw [State.tellLost_memByte, State.storePair_memByte_elsewhere elsewhere]
  · have agree : lanesClash low.lanes top.lanes = false := Bool.eq_false_iff.mpr lost
    rw [if_neg lost] at result
    rw [result]
    refine ⟨fun meet => absurd (dropped.mpr meet) lost, fun _ => ⟨rfl, State.storePair_colflag _, fun i inWord => ?_⟩,
      fun b elsewhere => State.storePair_memByte_elsewhere elsewhere⟩
    rw [State.storePair_memByte fits inWord, pairBytes, if_neg lost, getD_lanesMerge_twice inWord _ agree, high i inWord, lower i inWord]

/-! ### A write of its own cycle -/

/-- A write that no group takes is stored as it stands. -/
theorem State.putPart_alone (port : Nat)
    (alone : s.basin.groups.find? (fun h => h.open s.clk (a / 4) master && Config.sameCycle s.clk (a / 4) master) = none)
    (inWord : l.length ≤ 4 - a % 4) (inside : a < 0xC00000) :
    let r := s.putPart master port a l
    r.1 = false ∧ r.2.reg Adr.BASIN_COLFLAG = s.reg Adr.BASIN_COLFLAG ∧
      ∀ b, r.2.memByte b = if a ≤ b ∧ b < a + l.length then l.getD (b - a) 0 else s.memByte b := by
  have fits : a + l.length ≤ basinSize := by unfold basinSize; omega
  have result : s.putPart master port a l =
      (false, (s.setGroup ⟨a / 4, s.clk, s.memBytes (4 * (a / 4)) 4, [laneWrite master port a l]⟩).memPut a l) := by
    unfold State.putPart
    simp only [alone]
    rfl
  simp only [result, true_and]
  refine ⟨State.memPut_reg_other (by decide) _ _, fun b => ?_⟩
  rw [State.memByte_memPut]
  simp only [fits, true_and]
  rfl

/-! ### The group that a write meets -/

theorem rankIn_above {y : LaneWrite} (higher : x.master < y.master) : rankIn y [x] = [x, y] := by
  simp [rankIn, higher, Nat.le_of_lt higher]

theorem rankIn_below {y : LaneWrite} (lower : y.master < x.master) : rankIn y [x] = [y, x] := by
  simp [rankIn, lower, Nat.le_of_lt lower]

/-- Two writes of different masters in the order of their ranks, by the bytes that each of them writes in a lane. -/
theorem rankIn_pair (port a : Nat) (l : List Byte) (apart : x.master ≠ master) (was : x.lost = false) :
    let own (i : Nat) : Option Byte := if a % 4 ≤ i then l[i - a % 4]? else none
    let old (i : Nat) : Option Byte := x.lanes.getD i none
    ∃ top low, rankIn (laneWrite master port a l) [x] = [top, low] ∧ top.lost = false ∧
      (low.master = master ↔ x.master < master) ∧ low.master = Nat.max x.master master ∧
      (∀ i < 4, top.lanes.getD i none = if x.master < master then old i else own i) ∧
      ∀ i < 4, low.lanes.getD i none = if x.master < master then own i else old i := by
  intro own old
  by_cases above : x.master < master
  · exact ⟨x, laneWrite master port a l, rankIn_above above, was, iff_of_true rfl above, (Nat.max_eq_right (Nat.le_of_lt above)).symm,
      fun i _ => (if_pos above).symm, fun i lane => (getD_lanesOf lane a l).trans (if_pos above).symm⟩
  · have below : master < x.master := by omega
    exact ⟨laneWrite master port a l, x, rankIn_below below, rfl, iff_of_false apart above, (Nat.max_eq_left (Nat.le_of_lt below)).symm,
      fun i lane => (getD_lanesOf lane a l).trans (if_neg above).symm, fun i _ => (if_neg above).symm⟩

/-- A group of one write of this tick takes a write of another rank that is not told at once, in the same FCLK cycle. -/
theorem find?_open_group {groups : List WordGroup} {w clk : Nat} {base : List Byte} (apart : x.master ≠ master)
    (late : master < x.master → x.master < 5) (first : groups.find? (fun h => decide (h.word = w)) = some ⟨w, clk, base, [x]⟩)
    (same : Config.sameCycle clk w master = true) :
    groups.find? (fun h => h.open clk w master && Config.sameCycle clk w master) = some ⟨w, clk, base, [x]⟩ := by
  obtain ⟨-, before, after, split, others⟩ := List.find?_eq_some_iff_append.mp first
  have takes : x.master < master ∨ master < x.master ∧ x.master < Master.core 0 :=
    (Nat.lt_or_gt_of_ne apart).imp_right fun lower => ⟨lower, late lower⟩
  refine List.find?_eq_some_iff_append.mpr ⟨by simp [WordGroup.open, same, takes], before, after, split, fun h mem => ?_⟩
  have elsewhere : h.word ≠ w := by simpa using others h mem
  simp [WordGroup.open, elsewhere]

end Sys2Proof.Machine
end

/-!
SUPPORT. Write-back of a corrected word (R245), the end of a remap copy (R247) and of the power-up clear (R254).
-/
section
namespace Sys2Proof.Machine

variable {s : State} {w a b p : Nat}

/-- State t differs from s in registers and in the Basin alone. -/
def State.BasinOnly (s t : State) : Prop := t = { s with regs := t.regs, basin := t.basin }

theorem State.BasinOnly.refl (s : State) : s.BasinOnly s := rfl

theorem State.BasinOnly.regsOnly {t u : State} (h : s.BasinOnly t) (g : t.RegsOnly u) : s.BasinOnly u := by
  unfold State.BasinOnly State.RegsOnly at *
  rw [g, h]

theorem State.BasinOnly.setBasin {t : State} (h : s.BasinOnly t) (c : Basin) : s.BasinOnly { t with basin := c } := by
  unfold State.BasinOnly at *
  rw [h]

/-! ### ECC_WRITEBACK (R245) -/

theorem exec_eccWriteback (s : State) (w : Nat) : exec (.eccWriteback w) s = s.run fun s => s.writeBack w := rfl

theorem exec_eccWriteback_waiting (waits : w ∈ s.basin.writeback) : exec (.eccWriteback w) s =
    .next { s with basin := { s.basin with
      writeback := s.basin.writeback.filter (· ≠ w), ecc := s.basin.ecc.filter (fun p => !(p.1 = w && !p.2)) } } := by
  rw [exec_eccWriteback, State.run, State.writeBack, if_pos (by simpa using waits)]
  rfl

theorem exec_eccWriteback_idle (idle : w ∉ s.basin.writeback) : exec (.eccWriteback w) s = .next s :=
  State.run_same (f := fun s => s.writeBack w) (if_neg (by simpa using idle))

/-! ### REMAP_COMPLETE (R247) -/

theorem exec_remapComplete (s : State) : exec .remapComplete s = s.run State.endCopy := rfl

theorem exec_remapComplete_idle (idle : s.basin.copying = []) : exec .remapComplete s = .next s :=
  State.run_same (f := State.endCopy) (by unfold State.endCopy; simp only [idle])

/-- Whether word w lies in physical row p of bank b. -/
def inRow (b p w : Nat) : Bool := bankOf w = b && rowOf w = p

theorem inRow_iff : inRow b p w = true ↔ bankOf w = b ∧ rowOf w = p := by simp [inRow]

/-- The words of a row that cannot be corrected. -/
def Basin.dead (c : Basin) (b p : Nat) : List Nat := (c.ecc.filter fun e => inRow b p e.1 && e.2).map (·.1)

theorem Basin.mem_dead {c : Basin} : w ∈ c.dead b p ↔ inRow b p w = true ∧ (w, true) ∈ c.ecc := by
  simp [Basin.dead, and_comm]

/-- The Basin after the copy of a row. -/
def Basin.copied (c : Basin) (b p : Nat) (rest : List (Nat × Nat)) : Basin := { c with
  bytes := (c.dead b p).foldl (fun l w => putBytes l (4 * w) [0, 0, 0, 0]) c.bytes
  ecc := c.ecc.filter fun e => !(inRow b p e.1 && !e.2)
  writeback := c.writeback.filter fun w => !inRow b p w
  copying := rest }

theorem exec_remapComplete_copying {rest : List (Nat × Nat)} (copying : s.basin.copying = (b, p) :: rest) : exec .remapComplete s =
    .next ({ s with basin := s.basin.copied b p rest }.setFlag Adr.BASIN_STAT 2 (!rest.isEmpty)) := by
  rw [exec_remapComplete, State.run, State.endCopy]
  simp only [copying]
  rfl

/-- A word that is cleared reads 0, and every other word what it read before. -/
theorem get_clearWord (l : List Host.Cell) (w a : Nat) : Sp.get (fun _ => (0 : Byte)) (putBytes l (4 * w) [0, 0, 0, 0]) a =
    if a / 4 = w then 0 else Sp.get (fun _ => (0 : Byte)) l a := by
  have zero (k : Nat) : ([0, 0, 0, 0] : List Byte).getD k 0 = 0 := by
    match k with
    | 0 | 1 | 2 | 3 => rfl
    | k + 4 => rfl
  have inWord : 4 * w ≤ a ∧ a < 4 * w + ([0, 0, 0, 0] : List Byte).length ↔ a / 4 = w := by
    simp only [List.length_cons, List.length_nil]
    omega
  rw [get_putBytes, zero]
  exact ite_congr (propext inWord) (fun _ => rfl) (fun _ => rfl)

theorem get_foldl_clearWord (ws : List Nat) (l : List Host.Cell) (a : Nat) :
    Sp.get (fun _ => (0 : Byte)) (ws.foldl (fun l w => putBytes l (4 * w) [0, 0, 0, 0]) l) a =
      if a / 4 ∈ ws then 0 else Sp.get (fun _ => (0 : Byte)) l a := by
  induction ws generalizing l with
  | nil => simp
  | cons w ws ih =>
    rw [List.foldl_cons, ih, get_clearWord]
    by_cases here : a / 4 = w <;> simp [here]

theorem State.memBytes_word_congr {t : State} (same : ∀ a, a / 4 = w → t.memByte a = s.memByte a) :
    t.memBytes (4 * w) 4 = s.memBytes (4 * w) 4 :=
  List.map_congr_left fun i inWord => same _ (by have := List.mem_range.mp inWord; omega)

theorem State.memByte_copied (c : Basin) (rest : List (Nat × Nat)) (a : Nat) :
    ({ s with basin := c.copied b p rest } : State).memByte a = if a / 4 ∈ c.dead b p then 0 else ({ s with basin := c } : State).memByte a :=
  get_foldl_clearWord _ _ a

theorem State.memBytes_copied_dead {rest : List (Nat × Nat)} (dead : w ∈ s.basin.dead b p) :
    ({ s with basin := s.basin.copied b p rest } : State).memBytes (4 * w) 4 = [0, 0, 0, 0] := by
  have zero (i : Nat) (inWord : i < 4) : ({ s with basin := s.basin.copied b p rest } : State).memByte (4 * w + i) = 0 := by
    rw [State.memByte_copied, if_pos (by rwa [show (4 * w + i) / 4 = w by omega])]
  exact List.map_congr_left fun i inWord => zero i (List.mem_range.mp inWord)

theorem State.memBytes_copied_sound {rest : List (Nat × Nat)} (sound : w ∉ s.basin.dead b p) :
    ({ s with basin := s.basin.copied b p rest } : State).memBytes (4 * w) 4 = s.memBytes (4 * w) 4 :=
  State.memBytes_word_congr fun a inWord => by rw [State.memByte_copied, if_neg (by rwa [inWord])]

/-- A row that was copied has no single errors left. -/
theorem State.eccOf_copied_inside {rest : List (Nat × Nat)} (inside : inRow b p w = true) :
    ({ s with basin := s.basin.copied b p rest } : State).eccOf w ≠ some false := by
  intro marked
  obtain ⟨e, found, single⟩ := Option.map_eq_some_iff.mp marked
  have word : e.1 = w := by simpa using List.find?_some found
  have kept := (List.mem_filter.mp (List.mem_of_find?_eq_some found)).2
  simp [word, inside, single] at kept

theorem State.eccOf_copied_outside {rest : List (Nat × Nat)} (outside : inRow b p w ≠ true) :
    ({ s with basin := s.basin.copied b p rest } : State).eccOf w = s.eccOf w := by
  simp only [State.eccOf, Basin.copied, List.find?_filter]
  congr 2
  funext e
  by_cases here : e.1 = w
  · simp [here, outside]
  · simp [here]

/-! ### BASIN_CLEAR_END (R254) -/

theorem exec_basinClearEnd (s : State) : exec .basinClearEnd s = s.run fun s =>
    if s.flag Adr.BASIN_STAT 0 then { s.clearBasin.setFlag Adr.BASIN_STAT 0 false with
      power := { s.power with startup := Nat.max s.power.startup 3, needClear := false } } else s := rfl

theorem exec_basinClearEnd_clearing (clearing : s.flag Adr.BASIN_STAT 0 = true) : exec .basinClearEnd s =
    .next { s.clearBasin.setFlag Adr.BASIN_STAT 0 false with
      power := { s.power with startup := Nat.max s.power.startup 3, needClear := false } } := by
  rw [exec_basinClearEnd, State.run, if_pos clearing]
  rfl

theorem exec_basinClearEnd_idle (idle : s.flag Adr.BASIN_STAT 0 = false) : exec .basinClearEnd s = .next s :=
  State.run_same (f := fun s => if s.flag Adr.BASIN_STAT 0 then _ else s) (if_neg (by simp [idle]))

end Sys2Proof.Machine
end

/-!
SUPPORT. The sweep (R249 to R251): what saving and restoring a region without stored errors leaves, and what the remap of a failed row does.
-/
section
namespace Sys2Proof.Machine

variable {s : State} {a k w i j n hi lo v : Nat}

/-! ### Fields beside a bit -/

theorem bits_congr {m : Nat} (same : ∀ j, j ≤ hi → bit n j = bit m j) : bits n hi lo = bits m hi lo := by
  unfold bits
  refine Nat.eq_of_testBit_eq fun j => ?_
  rw [Nat.testBit_mod_two_pow, Nat.testBit_mod_two_pow, Nat.testBit_shiftRight, Nat.testBit_shiftRight]
  by_cases inside : j < hi + 1 - lo
  · rw [show n.testBit (lo + j) = m.testBit (lo + j) from same _ (by omega)]
  · simp [inside]

theorem bit_putBits_above (order : lo ≤ hi) (above : hi < i) (v : Nat) : bit (putBits n hi lo v) i = bit n i := by
  have small : n % 2 ^ lo < 2 ^ (hi + 1) :=
    Nat.lt_of_lt_of_le (Nat.mod_lt n (Nat.two_pow_pos lo)) (Nat.pow_le_pow_right (by omega) (by omega))
  have low := putBits_lt (v := v) small (Nat.lt_succ_self hi) order
  rw [putBits, Nat.shiftRight_eq_div_pow, Nat.div_eq_of_lt small, Nat.zero_shiftLeft, Nat.zero_add, Nat.mod_mod] at low
  unfold bit putBits
  dsimp only
  rw [Nat.add_assoc, Nat.shiftLeft_eq, Nat.mul_comm, Nat.testBit_two_pow_mul_add _ low, if_neg (by omega), Nat.testBit_shiftRight,
    show hi + 1 + (i - (hi + 1)) = i by omega]

/-- A field reads the low bits of what was put into it. -/
theorem State.fld_setFld_mod (order : lo ≤ hi) (fits : hi < 32) (v : Nat) : (s.setFld a hi lo v).fld a hi lo = v % 2 ^ (hi + 1 - lo) := by
  have low : s.setFld a hi lo v = s.setFld a hi lo (v % 2 ^ (hi + 1 - lo)) := by
    simp only [State.setFld, putBits, Nat.mod_mod]
  rw [low, State.fld_setFld _ (Nat.mod_lt _ (Nat.two_pow_pos _)) order fits]

theorem State.fld_setFlag_above (above : hi < i) (fits : i < 32) (x : Bool) : (s.setFlag a i x).fld a hi lo = s.fld a hi lo :=
  bits_congr fun j inside => s.flag_setFlag_other (by omega) fits x

theorem State.flag_setFld_above (order : lo ≤ hi) (above : hi < i) (fits : i < 32) (v : Nat) :
    (s.setFld a hi lo v).flag a i = s.flag a i := by
  have small : putBits (s.reg a) hi lo v < 2 ^ 32 := putBits_lt (s.reg_lt a) (by omega) order
  rw [State.flag, State.setFld, State.reg_setReg_same, Nat.mod_eq_of_lt small, bit_putBits_above order above, State.flag]

/-! ### The BORROW bits -/

theorem State.setBorrow_stat (x : Bool) : (s.setBorrow x).flag Adr.BASIN_STAT 1 = x := by
  rw [State.setBorrow, State.flag, State.reg_setFlag_other _ (by decide)]
  exact s.flag_setFlag _ _ x (by decide)

theorem State.setBorrow_stat_other (h : j ≠ 1) (x : Bool) : (s.setBorrow x).flag Adr.BASIN_STAT j = s.flag Adr.BASIN_STAT j := by
  rw [State.setBorrow, State.flag, State.reg_setFlag_other _ (by decide)]
  exact s.flag_setFlag_other h (by decide) x

theorem State.setBorrow_swstat (x : Bool) : (s.setBorrow x).flag Adr.BASIN_SWSTAT 16 = x := State.flag_setFlag _ _ _ x (by decide)

theorem State.setBorrow_sweepRegion (x : Bool) : (s.setBorrow x).sweepRegion = s.sweepRegion := by
  rw [State.sweepRegion, State.setBorrow, State.fld_setFlag_above (by decide) (by decide), State.fld,
    State.reg_setFlag_other _ (by decide)]
  rfl

theorem State.setBorrow_reg_other (notStat : a ≠ Adr.BASIN_STAT) (notSwstat : a ≠ Adr.BASIN_SWSTAT) (x : Bool) :
    (s.setBorrow x).reg a = s.reg a := by
  rw [State.setBorrow, State.reg_setFlag_other _ notSwstat, State.reg_setFlag_other _ notStat]

theorem State.setBorrow_regsOnly (x : Bool) : s.RegsOnly (s.setBorrow x) := ((State.RegsOnly.refl s).setFlag _ _ _).setFlag _ _ _

/-! ### Start of a region (R250, Save) -/

theorem State.checkWords_of_sound {ws : List Nat} (sound : ∀ w ∈ ws, s.eccOf w = none) (master : Nat) :
    s.checkWords master ws = (true, s) := by
  induction ws with
  | nil => rfl
  | cons w ws ih =>
    simp only [State.checkWords, sound w List.mem_cons_self]
    exact ih fun v mem => sound v (List.mem_cons_of_mem _ mem)

theorem mem_regionWords : w ∈ regionWords k ↔ 64 * k ≤ w ∧ w < 64 * k + 64 := by
  simp only [regionWords, List.mem_map, List.mem_range]
  exact ⟨by rintro ⟨i, hi, rfl⟩; omega, fun ⟨low, high⟩ => ⟨w - 64 * k, by omega, by omega⟩⟩

/-- No word of the region that the sweep tests has an error mark. -/
abbrev State.SoundRegion (s : State) : Prop := ∀ w ∈ regionWords s.sweepRegion, s.eccOf w = none

/-- The region of s is borrowed in t: in the shadow, the sweep's next start set where the region was due, and nothing else changed. -/
structure State.Borrows (s t : State) : Prop where
  only : s.BasinOnly t
  borrowed : t.borrowed = true
  region : t.sweepRegion = s.sweepRegion
  bytes : t.basin.bytes = s.basin.bytes
  sweepAt : t.basin.sweepAt = if s.sweepDue then s.clk + s.usTicks (s.fld Adr.BASIN_SWCTL 31 16) else s.basin.sweepAt
  other : ∀ a, a ≠ Adr.BASIN_STAT → a ≠ Adr.BASIN_SWSTAT → t.reg a = s.reg a

theorem State.usTicks_setBorrow (x : Bool) (n : Nat) : (s.setBorrow x).usTicks n = s.usTicks n := by
  have family : (s.setBorrow x).fam44 = s.fam44 := by
    rw [State.fam44, State.flag, State.setBorrow_reg_other (by decide) (by decide), State.fam44, State.flag]
  rw [State.usTicks, State.baseHz, family, State.usTicks, State.baseHz]

theorem State.sweepSave_sound (sound : s.SoundRegion) : ∃ c : Basin, s.sweepSave = { s.setBorrow true with basin := c } ∧
    c.bytes = s.basin.bytes ∧ c.sweepAt = s.clk + s.usTicks (s.fld Adr.BASIN_SWCTL 31 16) := by
  have clean := (s.setBorrow true).checkWords_of_sound (ws := regionWords s.sweepRegion) sound Master.sweep
  have pace : (s.setBorrow true).fld Adr.BASIN_SWCTL 31 16 = s.fld Adr.BASIN_SWCTL 31 16 := by
    rw [State.fld, State.setBorrow_reg_other (by decide) (by decide), State.fld]
  rw [State.sweepSave, clean, pace, State.usTicks_setBorrow]
  exact ⟨_, rfl, rfl, rfl⟩

theorem State.sweepSave_borrows (due : s.sweepDue = true) (sound : s.SoundRegion) : s.Borrows s.sweepSave := by
  obtain ⟨c, saved, bytes, sweepAt⟩ := State.sweepSave_sound sound
  rw [saved]
  exact {
    only := ((State.BasinOnly.refl s).regsOnly (State.setBorrow_regsOnly true)).setBasin c
    borrowed := State.setBorrow_stat (s := s) true
    region := State.setBorrow_sweepRegion (s := s) true
    bytes := bytes
    sweepAt := by rw [if_pos due]; exact sweepAt
    other := fun a notStat notSwstat => State.setBorrow_reg_other (s := s) notStat notSwstat true }

theorem State.sweepStart_borrows (runs : s.borrowed = true ∨ s.sweepDue = true) (sound : s.SoundRegion) : s.Borrows s.sweepStart := by
  by_cases due : s.sweepDue = true
  · rw [State.sweepStart, if_pos due]
    exact State.sweepSave_borrows due sound
  · rw [State.sweepStart, if_neg due]
    exact ⟨rfl, runs.resolve_right due, rfl, rfl, (if_neg due).symm, fun _ _ _ => rfl⟩

/-! ### Moving on (R249) -/

/-- Nothing is borrowed, and the sweep stands at the region after k. -/
def State.sweepStep (s : State) (k : Nat) : State := (s.setBorrow false).setFld Adr.BASIN_SWSTAT 15 0 (if k + 1 = 49152 then 0 else k + 1)

/-- Region k is restored: the sweep moves on, and a pass is counted after the last region. -/
def State.sweepAdvance (s : State) (k : Nat) : State :=
  if k + 1 = 49152 then (s.sweepStep k).count Adr.BASIN_SWPASS else s.sweepStep k

theorem State.sweepRestore_eq (s : State) (bad : List Nat) : s.sweepRestore bad =
    ((firstOfRows (bad.map (· + 64 * s.sweepRegion))).foldl (fun s w => s.remapRow w)
      ((bad.map (· + 64 * s.sweepRegion)).foldl (fun s w => s.basinErr 3 w Master.sweep) s)).sweepAdvance s.sweepRegion := rfl

theorem State.sweepAdvance_reg (notPass : a ≠ Adr.BASIN_SWPASS) : (s.sweepAdvance k).reg a = (s.sweepStep k).reg a := by
  unfold State.sweepAdvance
  split
  · exact State.reg_count_other _ notPass
  · rfl

theorem State.sweepAdvance_reg_other (notStat : a ≠ Adr.BASIN_STAT) (notSwstat : a ≠ Adr.BASIN_SWSTAT) (notPass : a ≠ Adr.BASIN_SWPASS) :
    (s.sweepAdvance k).reg a = s.reg a := by
  rw [State.sweepAdvance_reg notPass, State.sweepStep, State.reg_setFld_other _ notSwstat, State.setBorrow_reg_other notStat notSwstat]

theorem State.sweepAdvance_stat (k j : Nat) : (s.sweepAdvance k).flag Adr.BASIN_STAT j = (s.setBorrow false).flag Adr.BASIN_STAT j := by
  rw [State.flag, State.sweepAdvance_reg (by decide), State.sweepStep, State.reg_setFld_other _ (by decide), State.flag]

theorem State.sweepAdvance_borrow : (s.sweepAdvance k).flag Adr.BASIN_SWSTAT 16 = false := by
  rw [State.flag, State.sweepAdvance_reg (by decide)]
  exact (State.flag_setFld_above (by decide) (by decide) (by decide) _).trans (State.setBorrow_swstat false)

theorem State.sweepAdvance_region : (s.sweepAdvance k).sweepRegion = if k + 1 = 49152 then 0 else (k + 1) % 65536 := by
  rw [State.sweepRegion, State.fld, State.sweepAdvance_reg (by decide)]
  refine (State.fld_setFld_mod (by decide) (by decide) _).trans ?_
  split <;> rfl

theorem State.sweepAdvance_pass (last : k + 1 = 49152) (room : s.reg Adr.BASIN_SWPASS < 2 ^ 31 - 1) :
    (s.sweepAdvance k).reg Adr.BASIN_SWPASS = s.reg Adr.BASIN_SWPASS + 1 := by
  have kept : (s.sweepStep k).reg Adr.BASIN_SWPASS = s.reg Adr.BASIN_SWPASS := by
    rw [State.sweepStep, State.reg_setFld_other _ (by decide), State.setBorrow_reg_other (by decide) (by decide)]
  rw [State.sweepAdvance, if_pos last, State.reg_count _ (by rw [kept]; exact room), kept]

theorem State.sweepAdvance_regsOnly : s.RegsOnly (s.sweepAdvance k) := by
  have step : s.RegsOnly (s.sweepStep k) := (State.setBorrow_regsOnly false).setReg _ _
  unfold State.sweepAdvance State.count State.countBy
  dsimp only
  split
  · split <;> exact step.setReg _ _
  · exact step

theorem State.sweepAdvance_basin : (s.sweepAdvance k).basin = s.basin := by
  rw [State.sweepAdvance_regsOnly (s := s) (k := k)]

/-- The sweep moves on from the region of s: what holds of the position and the time of the next region whatever the test found. -/
structure State.MovesOn (s t : State) : Prop where
  region : t.sweepRegion = if s.sweepRegion + 1 = 49152 then 0 else (s.sweepRegion + 1) % 65536
  stat : t.flag Adr.BASIN_STAT 1 = false
  swstat : t.flag Adr.BASIN_SWSTAT 16 = false
  sweepAt : t.basin.sweepAt = if s.sweepDue then s.clk + s.usTicks (s.fld Adr.BASIN_SWCTL 31 16) else s.basin.sweepAt
  pass : s.sweepRegion + 1 = 49152 → s.reg Adr.BASIN_SWPASS < 2 ^ 31 - 1 → t.reg Adr.BASIN_SWPASS = s.reg Adr.BASIN_SWPASS + 1

theorem State.Borrows.movesOn {t u : State} (h : s.Borrows t) (pass : u.reg Adr.BASIN_SWPASS = t.reg Adr.BASIN_SWPASS)
    (sweepAt : u.basin.sweepAt = t.basin.sweepAt) : s.MovesOn (u.sweepAdvance s.sweepRegion) := by
  have kept : u.reg Adr.BASIN_SWPASS = s.reg Adr.BASIN_SWPASS := pass.trans (h.other _ (by decide) (by decide))
  exact {
    region := State.sweepAdvance_region
    stat := (State.sweepAdvance_stat _ 1).trans (State.setBorrow_stat false)
    swstat := State.sweepAdvance_borrow
    sweepAt := by rw [State.sweepAdvance_basin, sweepAt, h.sweepAt]
    pass := fun last room => by rw [State.sweepAdvance_pass last (by rw [kept]; exact room), kept] }

/-! ### Remap of a row (R246, R248) -/

theorem bankOf_lt (w : Nat) : bankOf w < 32 := by
  have field (hi lo : Nat) (small : hi + 1 - lo ≤ 5) : bits w hi lo < 2 ^ 5 :=
    Nat.lt_of_lt_of_le (Nat.mod_lt _ (Nat.two_pow_pos _)) (Nat.pow_le_pow_right (by decide) small)
  unfold bankOf
  exact Nat.xor_lt_two_pow (Nat.xor_lt_two_pow (Nat.xor_lt_two_pow (Nat.xor_lt_two_pow (field _ _ (by decide)) (field _ _ (by decide)))
    (field _ _ (by decide))) (field _ _ (by decide))) (field _ _ (by decide))

/-- A further spare row of the bank of word w is in use, and a remap copy is in progress. -/
def State.spareRegs (s : State) (w : Nat) : State :=
  (s.setFld (Adr.BASIN_SPARE (bankOf w / 8)) (4 * (bankOf w % 8) + 3) (4 * (bankOf w % 8)) (s.sparesUsed (bankOf w) + 1)).setFlag
    Adr.BASIN_STAT 2 true

/-- The row of word w goes to the next spare row of its bank, and its copy starts. -/
def State.spareRow (s : State) (w : Nat) : State :=
  { s.spareRegs w with basin := { s.basin with
      remaps := (bankOf w, rowOf w, s.sparesUsed (bankOf w)) :: s.basin.remaps.filter (fun r => !(r.1 = bankOf w && r.2.1 = rowOf w))
      copying := s.basin.copying ++ [(bankOf w, rowOf w)]
      recent := s.basin.recent.filter (fun r => !(r.1 = bankOf w && r.2.1 = rowOf w)) } }

theorem State.spareRow_reg (s : State) (w a : Nat) : (s.spareRow w).reg a = (s.spareRegs w).reg a := rfl

theorem State.remapRow_spare (free : s.sparesUsed (bankOf w) < 8) : (s.remapRow w).repair = (s.spareRow w).repair := by
  unfold State.remapRow
  dsimp only
  rw [if_pos free, State.postFault_repair, State.logFault_repair]
  rfl

theorem State.remapRow_full (full : 8 ≤ s.sparesUsed (bankOf w)) :
    (s.remapRow w).repair = (s.setFlag Adr.BASIN_REPFAIL (bankOf w) true).repair := by
  unfold State.remapRow
  dsimp only
  rw [if_neg (by omega), State.postFault_repair, State.logFault_repair]
  rfl

/-- The registers of the spare rows stand among the repair registers, apart from the sweep's. -/
theorem spare_reg_apart (w : Nat) : ¬ OutsideRepair (Adr.BASIN_SPARE (bankOf w / 8)) ∧ Adr.BASIN_SPARE (bankOf w / 8) ≠ Adr.BASIN_STAT ∧
    Adr.BASIN_SPARE (bankOf w / 8) ≠ Adr.BASIN_REPFAIL ∧ Adr.BASIN_SPARE (bankOf w / 8) ≠ Adr.BASIN_SWSTAT ∧
    Adr.BASIN_SPARE (bankOf w / 8) ≠ Adr.BASIN_SWPASS ∧ Adr.BASIN_SPARE (bankOf w / 8) ≠ Adr.BASIN_ERRADR := by
  have := bankOf_lt w
  unfold OutsideRepair Adr.BASIN_SPARE Adr.BASIN_STAT Adr.BASIN_COLFLAG Adr.BASIN_REPFAIL Adr.BASIN_SWSTAT Adr.BASIN_SWPASS Adr.BASIN_ERRADR
  omega

theorem State.sparesUsed_congr {t : State} (h : t.reg (Adr.BASIN_SPARE (bankOf w / 8)) = s.reg (Adr.BASIN_SPARE (bankOf w / 8))) :
    t.sparesUsed (bankOf w) = s.sparesUsed (bankOf w) := by
  rw [State.sparesUsed, State.fld, h, State.sparesUsed, State.fld]

theorem State.spareRow_reg_other (notSpare : a ≠ Adr.BASIN_SPARE (bankOf w / 8)) (notStat : a ≠ Adr.BASIN_STAT) :
    (s.spareRow w).reg a = s.reg a := by
  rw [State.spareRow_reg, State.spareRegs, State.reg_setFlag_other _ notStat, State.reg_setFld_other _ notSpare]

theorem State.spareRow_stat (s : State) (w : Nat) : (s.spareRow w).flag Adr.BASIN_STAT 2 = true := by
  rw [State.flag, State.spareRow_reg, State.spareRegs]
  exact State.flag_setFlag _ _ 2 true (by decide)

theorem State.mem_spareRow_remaps (s : State) (w : Nat) : (bankOf w, rowOf w, s.sparesUsed (bankOf w)) ∈ (s.spareRow w).basin.remaps :=
  List.mem_cons_self

theorem State.mem_spareRow_copying (s : State) (w : Nat) : (bankOf w, rowOf w) ∈ (s.spareRow w).basin.copying :=
  List.mem_append_right s.basin.copying (List.mem_singleton_self _)

theorem State.sparesUsed_spareRow (free : s.sparesUsed (bankOf w) < 8) : (s.spareRow w).sparesUsed (bankOf w) = s.sparesUsed (bankOf w) + 1 := by
  obtain ⟨-, notStat, -⟩ := spare_reg_apart w
  have wide : 4 * (bankOf w % 8) + 3 + 1 - 4 * (bankOf w % 8) = 4 := by omega
  rw [State.sparesUsed, State.fld, State.spareRow_reg, State.spareRegs, State.reg_setFlag_other _ notStat]
  exact State.fld_setFld _ (by rw [wide]; omega) (by omega) (by omega)

/-- What the sweep keeps or counts where a row is remapped or its bank has no spare row left. -/
theorem State.remapRow_sweep (s : State) (w : Nat) : (s.remapRow w).reg Adr.BASIN_SWPASS = s.reg Adr.BASIN_SWPASS ∧
    (s.remapRow w).basin.sweepAt = s.basin.sweepAt := by
  obtain ⟨-, -, -, -, notPass, -⟩ := spare_reg_apart w
  have inside : ¬ OutsideRepair Adr.BASIN_SWPASS := by decide
  by_cases free : s.sparesUsed (bankOf w) < 8
  · have same := State.remapRow_spare free
    exact ⟨(State.reg_of_repair same inside).trans (State.spareRow_reg_other notPass.symm (by decide)),
      (State.sweepAt_of_repair same).trans rfl⟩
  · have same := State.remapRow_full (Nat.le_of_not_lt free)
    exact ⟨(State.reg_of_repair same inside).trans (State.reg_setFlag_other _ (by decide) _ _),
      (State.sweepAt_of_repair same).trans rfl⟩

/-! ### SWEEP_REGION -/

theorem exec_sweepRegion (s : State) (bad : List (Fin 64)) : exec (.sweepRegion bad) s = s.run fun s =>
    if s.sweepStart.borrowed then s.sweepStart.sweepRestore (bad.map (·.val)) else s.sweepStart := rfl

theorem exec_sweepRegion_idle (bad : List (Fin 64)) (idle : ¬ (s.borrowed = true ∨ s.sweepDue = true)) :
    exec (.sweepRegion bad) s = .next s := by
  obtain ⟨free, early⟩ := not_or.mp idle
  have same : s.sweepStart = s := if_neg early
  rw [exec_sweepRegion]
  exact State.run_same (by rw [same, if_neg free])

theorem State.Borrows.exec_sweepRegion {bad : List (Fin 64)} (h : s.Borrows s.sweepStart) : exec (.sweepRegion bad) s =
    .next ((s.sweepStart.sweepRestore (bad.map (·.val))).queued s.pending) := by
  rw [Machine.exec_sweepRegion, State.run, if_pos h.borrowed]

/-- The node after the march test of a region has found one failing cell, in word w. -/
def State.marchFailed (s : State) (w : Nat) : State := (s.basinErr 3 w Master.sweep).remapRow w

theorem State.sweepRestore_one (s : State) (i : Nat) :
    s.sweepRestore [i] = (s.marchFailed (i + 64 * s.sweepRegion)).sweepAdvance s.sweepRegion := by
  have row (w : Nat) : firstOfRows [w] = [w] := rfl
  rw [State.sweepRestore_eq, List.map_singleton, row, List.foldl_cons, List.foldl_nil, List.foldl_cons, List.foldl_nil, State.marchFailed]

/-- The proof rewrites with the laws of setReg: a comparison by unfolding would compute the large number that basinErr stores. -/
theorem State.Borrows.movesOn_failed {t : State} (h : s.Borrows t) (w : Nat) : s.MovesOn ((t.marchFailed w).sweepAdvance s.sweepRegion) := by
  obtain ⟨pass, sweepAt⟩ := (t.basinErr 3 w Master.sweep).remapRow_sweep w
  rw [State.basinErr, State.reg_setReg_other _ (by decide)] at pass
  rw [State.basinErr, State.setReg_basin] at sweepAt
  exact h.movesOn pass sweepAt

/-- The spare rows in use before the march test are those of the region's start. -/
theorem State.Borrows.sparesUsed_basinErr {t : State} (h : s.Borrows t) (w : Nat) :
    (t.basinErr 3 w Master.sweep).sparesUsed (bankOf w) = s.sparesUsed (bankOf w) := by
  obtain ⟨-, notStat, -, notSwstat, -, notErr⟩ := spare_reg_apart w
  exact State.sparesUsed_congr ((State.reg_setReg_other _ notErr _).trans (h.other _ notStat notSwstat))

theorem State.sparesUsed_sweepAdvance : (s.sweepAdvance k).sparesUsed (bankOf w) = s.sparesUsed (bankOf w) := by
  obtain ⟨-, notStat, -, notSwstat, notPass, -⟩ := spare_reg_apart w
  exact State.sparesUsed_congr (State.sweepAdvance_reg_other notStat notSwstat notPass)

/-- A failed row goes to a spare row of its bank (R251). -/
theorem State.Borrows.failed_spare {t : State} (h : s.Borrows t) (free : s.sparesUsed (bankOf w) < 8) :
    let u := (t.marchFailed w).sweepAdvance k
    u.sparesUsed (bankOf w) = s.sparesUsed (bankOf w) + 1 ∧ (bankOf w, rowOf w, s.sparesUsed (bankOf w)) ∈ u.basin.remaps ∧
      (bankOf w, rowOf w) ∈ u.basin.copying ∧ u.flag Adr.BASIN_STAT 2 = true := by
  intro u
  have before := h.sparesUsed_basinErr w
  rw [← before] at free ⊢
  have same : (t.marchFailed w).repair = _ := State.remapRow_spare free
  obtain ⟨inside, -⟩ := spare_reg_apart w
  refine ⟨?_, ?_, ?_, ?_⟩
  · rw [State.sparesUsed_sweepAdvance, State.sparesUsed_congr (State.reg_of_repair same inside), State.sparesUsed_spareRow free]
  · rw [State.sweepAdvance_basin, State.remaps_of_repair same]
    exact State.mem_spareRow_remaps _ w
  · rw [State.sweepAdvance_basin, State.copying_of_repair same]
    exact State.mem_spareRow_copying _ w
  · rw [State.sweepAdvance_stat, State.setBorrow_stat_other (by decide), State.flag, State.reg_of_repair same (by decide)]
    exact State.spareRow_stat _ w

/-- A row that fails in a bank without a spare row stays, and BASIN_REPFAIL shows its bank (R248). -/
theorem State.Borrows.failed_full {t : State} (h : s.Borrows t) (full : 8 ≤ s.sparesUsed (bankOf w)) :
    let u := (t.marchFailed w).sweepAdvance k
    u.flag Adr.BASIN_REPFAIL (bankOf w) = true ∧ u.sparesUsed (bankOf w) = s.sparesUsed (bankOf w) := by
  intro u
  have before := h.sparesUsed_basinErr w
  rw [← before] at full ⊢
  have same : (t.marchFailed w).repair = _ := State.remapRow_full full
  obtain ⟨inside, -, notFail, -⟩ := spare_reg_apart w
  constructor
  · rw [State.flag, State.sweepAdvance_reg_other (by decide) (by decide) (by decide), State.reg_of_repair same (by decide)]
    exact State.flag_setFlag _ _ _ true (bankOf_lt w)
  · rw [State.sparesUsed_sweepAdvance]
    exact State.sparesUsed_congr ((State.reg_of_repair same inside).trans (State.reg_setFlag_other _ notFail _ _))

/-- What the sweep leaves of a region with one failing cell (R251). -/
theorem State.Borrows.exec_sweepRegion_failed (h : s.Borrows s.sweepStart) (i : Fin 64) :
    let w := 64 * s.sweepRegion + i.val
    let used := s.sparesUsed (bankOf w)
    ∃ t, exec (.sweepRegion [i]) s = .next (t.queued s.pending) ∧ s.MovesOn t ∧
      (used < 8 → t.sparesUsed (bankOf w) = used + 1 ∧ (bankOf w, rowOf w, used) ∈ t.basin.remaps ∧ (bankOf w, rowOf w) ∈ t.basin.copying ∧
        t.flag Adr.BASIN_STAT 2 = true) ∧
      (8 ≤ used → t.flag Adr.BASIN_REPFAIL (bankOf w) = true ∧ t.sparesUsed (bankOf w) = used) := by
  intro w used
  have result : exec (.sweepRegion [i]) s = .next (((s.sweepStart.marchFailed w).sweepAdvance s.sweepRegion).queued s.pending) := by
    rw [h.exec_sweepRegion, List.map_singleton, State.sweepRestore_one, h.region, Nat.add_comm]
  exact ⟨_, result, h.movesOn_failed w, h.failed_spare, h.failed_full⟩

end Sys2Proof.Machine
end

/-!
The repair of the Basin: same-word writes, write-back, remap copy, sweep and power-up clear (R241, R242, R245, R247, R249 to R251, R254).
-/
section
namespace Sys2Proof.Machine

variable {s : State}

/-- A region is due by the conditions of R249. -/
theorem State.sweepDue_iff : s.sweepDue = true ↔ s.inserted = true ∧ s.flag Adr.BASIN_SWCTL 0 = true ∧
    s.flag Adr.BASIN_STAT 1 = false ∧ s.basin.sweepAt ≤ s.clk := by
  simp [State.sweepDue, State.borrowed, and_assoc]

theorem State.soundRegion_iff : s.SoundRegion ↔
    ∀ w, 64 * s.sweepRegion ≤ w → w < 64 * s.sweepRegion + 64 → s.eccOf w = none := by
  simp only [State.SoundRegion, mem_regionWords, and_imp]

theorem State.Borrows.sweepRestore_none {t : State} (h : s.Borrows t) : t.sweepRestore [] = t.sweepAdvance s.sweepRegion := by
  rw [← h.region]
  rfl

/-- A sweep that met no failing cell changes no byte, and no register but its own. -/
theorem State.Borrows.restored {t : State} (h : s.Borrows t) : s.BasinOnly (t.sweepRestore []) ∧
    (t.sweepRestore []).basin.bytes = s.basin.bytes ∧
    ∀ a, a ∉ [Adr.BASIN_SWSTAT, Adr.BASIN_SWPASS, Adr.BASIN_STAT] → (t.sweepRestore []).reg a = s.reg a := by
  rw [h.sweepRestore_none]
  refine ⟨h.only.regsOnly State.sweepAdvance_regsOnly, by rw [State.sweepAdvance_basin, h.bytes], fun a other => ?_⟩
  simp only [List.mem_cons, List.not_mem_nil, or_false, not_or] at other
  obtain ⟨notSwstat, notPass, notStat⟩ := other
  rw [State.sweepAdvance_reg_other notStat notSwstat notPass, h.other a notStat notSwstat]

theorem State.BasinOnly.queued {t : State} (h : s.BasinOnly t) : s.BasinOnly (t.queued s.pending) :=
  congrArg (State.queued · s.pending) h

theorem State.MovesOn.queued {t : State} (h : s.MovesOn t) (q : List Instr) : s.MovesOn (t.queued q) :=
  ⟨h.region, h.stat, h.swstat, h.sweepAt, h.pass⟩

/-- Settles O55: two writes of one cycle by the group of both, the write-back, the remap copy and the clear by what each leaves in the Basin,
and the sweep by what borrowing a region, remapping a failed row and moving on leave. -/
theorem theBasinRepairsItself : Obligations.TheBasinRepairsItself := by
  unfold Obligations.TheBasinRepairsItself
  refine ⟨?sameWord, fun s => ⟨fun w => ⟨fun waits => ⟨_, exec_eccWriteback_waiting waits, rfl, ?written, ?marked, ?others⟩,
      exec_eccWriteback_idle⟩, exec_remapComplete_idle, fun b p rest copying => ?copy, ?sweep,
    fun clearing => ⟨_, exec_basinClearEnd_clearing clearing, fun _ => rfl, rfl, ?cleared, rfl, rfl, ?otherRegs⟩, exec_basinClearEnd_idle⟩⟩
  case sameWord =>
    intro s g x master port a l w old own hi lo clash r inWord inside code apart late was first group four
    split
    next same =>
      rw [group] at first
      have found := find?_open_group apart late first same
      obtain ⟨top, low, order, stored, second, worst, high, lower⟩ := rankIn_pair port a l apart was
      have lowest : low.master < 15 := by rw [worst]; exact Nat.max_lt.mpr ⟨by omega, code⟩
      obtain ⟨drop, keep, elsewhere⟩ := State.putPart_meets found rfl order stored was inside lowest high lower
      refine ⟨fun meet => ?_, keep, elsewhere⟩
      obtain ⟨told, flag, bytes⟩ := drop meet
      exact ⟨by rw [told, decide_eq_true_iff, second], worst ▸ flag, bytes⟩
    next apartCycle =>
      have early : Config.sameCycle s.clk (a / 4) master = false := Bool.eq_false_iff.mpr apartCycle
      exact State.putPart_alone port (List.find?_eq_none.mpr fun h _ => by simp [early]) inWord inside
  case written => simp
  case marked => simp
  case others =>
    rintro ⟨v, bad⟩ other
    have kept : ¬ v = w ∨ bad = true := Decidable.or_iff_not_imp_right.mpr fun single word => other (by rw [word, Bool.eq_false_iff.mpr single])
    simpa using fun _ => kept
  case copy =>
    refine ⟨_, exec_remapComplete_copying copying, rfl, rfl, State.flag_setFlag _ _ 2 _ (by decide),
      fun a other => State.reg_setFlag_other _ other 2 _, fun w => ?_⟩
    rw [← inRow_iff]
    refine ⟨fun inside => ⟨State.eccOf_copied_inside inside, fun bad => State.memBytes_copied_dead (Basin.mem_dead.mpr ⟨inside, bad⟩)⟩,
      fun sound => State.memBytes_copied_sound (mt Basin.mem_dead.mp (Decidable.not_and_iff_not_or_not.mpr sound)), State.eccOf_copied_outside⟩
  case sweep =>
    intro k due runs swept sound moved
    have dueIff : s.sweepDue = true ↔ due := State.sweepDue_iff
    have runsIff : runs ↔ s.borrowed = true ∨ s.sweepDue = true := or_congr Iff.rfl dueIff.symm
    have move (t : State) (h : s.MovesOn t) : moved t :=
      ⟨h.region, h.stat, h.swstat, h.sweepAt.trans (ite_congr (propext dueIff) (fun _ => rfl) (fun _ => rfl)), h.pass⟩
    refine ⟨fun bad idle => exec_sweepRegion_idle bad (mt runsIff.mpr idle), fun run clean => ?_, fun i run clean => ?_⟩
    · have h := State.sweepStart_borrows (runsIff.mp run) (State.soundRegion_iff.mpr clean)
      obtain ⟨only, bytes, other⟩ := h.restored
      have moves : s.MovesOn (s.sweepStart.sweepRestore []) := by rw [h.sweepRestore_none]; exact h.movesOn rfl rfl
      exact ⟨_, h.exec_sweepRegion, move _ (moves.queued s.pending), only.queued, bytes, other⟩
    · have h := State.sweepStart_borrows (runsIff.mp run) (State.soundRegion_iff.mpr clean)
      obtain ⟨t, result, moves, spare, full⟩ := h.exec_sweepRegion_failed i
      exact ⟨_, result, move _ (moves.queued s.pending), spare, full⟩
  case cleared => exact s.clearBasin.flag_setFlag Adr.BASIN_STAT 0 false (by decide)
  case otherRegs => exact fun a other => s.clearBasin.reg_setFlag_other other 0 false

end Sys2Proof.Machine
end

/-!
SUPPORT. Several statistics counters advanced in turn (Table TL-12): the registers alone change, each listed counter by its own number of events.
-/
section
namespace Sys2Proof.Machine

variable {s t : State} {a b n : Nat} {l : List (Nat × Nat)}

/-- What a counter's register holds after n more events. -/
def counted (r n : Nat) : Nat := if r % 2 ^ 31 + n < 2 ^ 31 then r / 2 ^ 31 * 2 ^ 31 + (r % 2 ^ 31 + n) else 0xFFFFFFFF

theorem State.countBy_eq_setReg (s : State) (a n : Nat) : s.countBy a n = s.setReg a (counted (s.reg a) n) :=
  (apply_ite (s.setReg a) _ _ _).symm

theorem State.reg_countBy (room : s.reg a + n < 2 ^ 31) : (s.countBy a n).reg a = s.reg a + n := by
  have low : s.reg a % 2 ^ 31 = s.reg a := Nat.mod_eq_of_lt (by omega)
  have high : s.reg a / 2 ^ 31 = 0 := Nat.div_eq_of_lt (by omega)
  rw [State.countBy_eq_setReg, State.reg_setReg_same, counted, low, high, if_pos room]
  omega

theorem State.countBy_regsOnly (s : State) (a n : Nat) : s.RegsOnly (s.countBy a n) := by
  rw [State.countBy_eq_setReg]
  exact (State.RegsOnly.refl s).setReg a _

theorem State.RegsOnly.trans {u : State} (h : s.RegsOnly t) (g : t.RegsOnly u) : s.RegsOnly u := by
  unfold State.RegsOnly at *
  rw [g, h]

/-- Counters advanced in turn, each listed with its number of events. -/
def State.counts (s : State) (l : List (Nat × Nat)) : State := l.foldl (fun t e => t.countBy e.1 e.2) s

@[simp] theorem State.counts_nil (s : State) : s.counts [] = s := rfl

@[simp] theorem State.counts_cons (s : State) (e : Nat × Nat) (l : List (Nat × Nat)) : s.counts (e :: l) = (s.countBy e.1 e.2).counts l := rfl

theorem State.counts_append (s : State) (l m : List (Nat × Nat)) : s.counts (l ++ m) = (s.counts l).counts m := List.foldl_append

theorem State.counts_regsOnly (s : State) (l : List (Nat × Nat)) : s.RegsOnly (s.counts l) := by
  induction l generalizing s with
  | nil => exact .refl s
  | cons e l ih => exact (s.countBy_regsOnly e.1 e.2).trans (ih _)

theorem State.reg_counts_other (unlisted : a ∉ l.map Prod.fst) : (s.counts l).reg a = s.reg a := by
  induction l generalizing s with
  | nil => rfl
  | cons e l ih =>
    obtain ⟨first, later⟩ := List.ne_and_not_mem_of_not_mem_cons unlisted
    rw [State.counts_cons, ih later, State.reg_countBy_other _ first]

/-- A counter listed once shows its events, while they fit. -/
theorem State.reg_counts (once : (l.map Prod.fst).Nodup) (listed : (a, n) ∈ l) (room : s.reg a + n < 2 ^ 31) :
    (s.counts l).reg a = s.reg a + n := by
  induction l generalizing s with
  | nil => cases listed
  | cons e l ih =>
    obtain ⟨new, once⟩ := List.nodup_cons.mp once
    rw [State.counts_cons]
    cases listed with
    | head => rw [State.reg_counts_other new, State.reg_countBy room]
    | tail _ listed =>
      have first : a ≠ e.1 := fun same => new (same ▸ List.mem_map_of_mem (f := Prod.fst) listed)
      have kept : (s.countBy e.1 e.2).reg a = s.reg a := State.reg_countBy_other _ first _
      rw [ih once listed (by rwa [kept]), kept]

end Sys2Proof.Machine
end

/-!
SUPPORT. The audio ports as parts of the state: what a port reads after a change of one port, or of registers alone.
-/
section
namespace Sys2Proof.Machine

variable {s t : State} {p o a : Nat}

theorem State.aport_setAport_same (inside : p < s.aports.ports.length) (f : APort → APort) : (s.setAport p f).aport p = f (s.aport p) := by
  simp [State.aport, inside]

theorem State.aport_setAport_other (other : o ≠ p) (f : APort → APort) : (s.setAport p f).aport o = s.aport o := by
  simp [State.aport, List.getD_eq_getElem?_getD, List.getElem?_set_ne other.symm]

/-- Two changes of a port in turn are one change. -/
theorem State.setAport_setAport (f g : APort → APort) : (s.setAport p f).setAport p g = s.setAport p (fun q => g (f q)) := by
  rcases Nat.lt_or_ge p s.aports.ports.length with inside | outside
  · rw [State.setAport, State.aport_setAport_same inside]
    simp [State.setAport]
  · simp [State.setAport, List.set_eq_of_length_le outside]

/-- A port that runs is one of the list. -/
theorem State.lt_length_of_rxRun (runs : (s.aport p).rxRun = true) : p < s.aports.ports.length := by
  refine Nat.lt_of_not_le fun outside => ?_
  have absent : s.aport p = APort.reset := by rw [State.aport, List.getD_eq_getElem?_getD, List.getElem?_eq_none outside, Option.getD_none]
  rw [absent] at runs
  cases runs

theorem State.RegsOnly.pending (h : s.RegsOnly t) : t.pending = s.pending := by rw [h]

theorem State.RegsOnly.aport (h : s.RegsOnly t) (o : Nat) : t.aport o = s.aport o := by
  rw [h]
  rfl

@[simp] theorem State.setAport_reg (f : APort → APort) (a : Nat) : (s.setAport p f).reg a = s.reg a := rfl

theorem State.setAport_apMuted (f : APort → APort) (o : Nat) : (s.setAport p f).apMuted o = s.apMuted o := rfl

theorem State.setAport_apHz (f : APort → APort) (l : List Nat) : (s.setAport p f).apHz l = s.apHz l := rfl

theorem State.setAport_setReg (v : Nat) (f : APort → APort) : (s.setReg a v).setAport p f = (s.setAport p f).setReg a v := rfl

theorem State.setAport_countBy (n : Nat) (f : APort → APort) : (s.countBy a n).setAport p f = (s.setAport p f).countBy a n := by
  rw [State.countBy_eq_setReg, State.countBy_eq_setReg, State.setAport_setReg, State.setAport_reg]

/-- Counters and ports do not meet. -/
theorem State.setAport_counts (l : List (Nat × Nat)) (f : APort → APort) : (s.counts l).setAport p f = (s.setAport p f).counts l := by
  induction l generalizing s with
  | nil => rfl
  | cons e l ih => rw [State.counts_cons, ih, State.setAport_countBy, State.counts_cons]

end Sys2Proof.Machine
end

/-!
SUPPORT. What a received frame may change beside its port: the rate shown and four counters (R326, R327, R334).
-/
section
namespace Sys2Proof.Machine

variable {s : State} {p a n period : Nat} {f : PortFrame} {g full : Bool} {h : APort → APort} {l : List (Nat × Nat)}

/-! ### The registers and the events of a frame -/

/-- The registers that a received frame may change. -/
def frameRegs (p : Nat) : List Nat :=
  [Adr.APORT_RATE p, Adr.APORT_OVER p, Adr.APORT_GLITCH p, Adr.APORT_PARERR p, Adr.APORT_VALIDCNT p]

/-- The registers that tell how a port reads its frames are none of them. -/
theorem settings_not_mem_frameRegs (p : Nat) : Adr.CLK_RATE ∉ frameRegs p ∧ Adr.APORT_CTL p ∉ frameRegs p ∧ Adr.APORT_FMT p ∉ frameRegs p ∧
    Adr.APORT_STAT p ∉ frameRegs p := by
  simp only [frameRegs, List.mem_cons, List.not_mem_nil, or_false, not_or, Adr.CLK_RATE, Adr.APORT_CTL, Adr.APORT_FMT, Adr.APORT_STAT, Adr.APORT_RATE,
    Adr.APORT_OVER, Adr.APORT_GLITCH, Adr.APORT_PARERR, Adr.APORT_VALIDCNT]
  omega

/-- Channels with a parity or coding error, which a biphase port alone has. -/
def parityErrors (p : Nat) (f : PortFrame) : List Bool := f.parErr.map (fun b => b && 4 ≤ p)

/-- Channels that a biphase port received as invalid. -/
def invalidChannels (p : Nat) (f : PortFrame) : List Bool := if 4 ≤ p then f.vbit else []

theorem parityErrors_biphase (biphase : 4 ≤ p) : parityErrors p f = f.parErr := by simp [parityErrors, biphase]

theorem invalidChannels_biphase (biphase : 4 ≤ p) : invalidChannels p f = f.vbit := if_pos biphase

theorem getD_parityErrors (c : Nat) : (parityErrors p f).getD c false = (decide (4 ≤ p) && f.parErr.getD c false) := by
  rw [parityErrors, List.getD_eq_getElem?_getD, List.getD_eq_getElem?_getD, List.getElem?_map]
  cases f.parErr[c]? with
  | none => exact (Bool.and_false _).symm
  | some b => exact Bool.and_comm b _

theorem getD_invalidChannels (c : Nat) : (invalidChannels p f).getD c false = (decide (4 ≤ p) && f.vbit.getD c false) := by
  unfold invalidChannels
  split
  next biphase => rw [decide_eq_true biphase, Bool.true_and]
  next serial => rw [decide_eq_false serial, Bool.false_and, List.getD_nil]

/-- A glitch counts once. -/
def glitchCounts (p : Nat) (g : Bool) : List (Nat × Nat) := if g then [(Adr.APORT_GLITCH p, 1)] else []

/-- Every channel with an error, and every invalid one, counts. -/
def errorCounts (p : Nat) (f : PortFrame) : List (Nat × Nat) :=
  [(Adr.APORT_PARERR p, ((parityErrors p f).filter id).length), (Adr.APORT_VALIDCNT p, ((invalidChannels p f).filter id).length)]

/-- The events of a frame by their counters: a glitch, the errors of its channels, a FIFO that is full. -/
def frameCounts (p : Nat) (f : PortFrame) (g full : Bool) : List (Nat × Nat) :=
  glitchCounts p g ++ errorCounts p f ++ if full then [(Adr.APORT_OVER p, 1)] else []

theorem State.counts_glitchCounts (t : State) (p : Nat) (g : Bool) :
    t.counts (glitchCounts p g) = if g = true then t.count (Adr.APORT_GLITCH p) else t := by
  cases g <;> rfl

theorem frameCounts_sublist (p : Nat) (f : PortFrame) (g full : Bool) : ((frameCounts p f g full).map Prod.fst).Sublist
    [Adr.APORT_GLITCH p, Adr.APORT_PARERR p, Adr.APORT_VALIDCNT p, Adr.APORT_OVER p] := by
  cases g <;> cases full <;> simp [frameCounts, glitchCounts, errorCounts]

theorem frameCounts_once (p : Nat) (f : PortFrame) (g full : Bool) : ((frameCounts p f g full).map Prod.fst).Nodup :=
  (frameCounts_sublist p f g full).nodup (by simp [Adr.APORT_GLITCH, Adr.APORT_PARERR, Adr.APORT_VALIDCNT, Adr.APORT_OVER])

theorem frameCounts_subset (p : Nat) (f : PortFrame) (g full : Bool) : (frameCounts p f g full).map Prod.fst ⊆ frameRegs p :=
  List.Subset.trans (frameCounts_sublist p f g full).subset (by simp [frameRegs])

theorem rate_not_mem_frameCounts (p : Nat) (f : PortFrame) (g full : Bool) : Adr.APORT_RATE p ∉ (frameCounts p f g full).map Prod.fst :=
  mt (frameCounts_sublist p f g full).mem
    (by simp [Adr.APORT_RATE, Adr.APORT_GLITCH, Adr.APORT_PARERR, Adr.APORT_VALIDCNT, Adr.APORT_OVER])

/-- Where there is no glitch, none counts. -/
theorem glitch_not_mem_frameCounts (p : Nat) (f : PortFrame) (full : Bool) : Adr.APORT_GLITCH p ∉ (frameCounts p f false full).map Prod.fst := by
  cases full <;> simp [frameCounts, glitchCounts, errorCounts, Adr.APORT_GLITCH, Adr.APORT_PARERR, Adr.APORT_VALIDCNT, Adr.APORT_OVER]

/-- The measurement and the errors of a frame count in registers of the frame. -/
theorem errorCounts_subset (p : Nat) (f : PortFrame) (g : Bool) : (glitchCounts p g ++ errorCounts p f).map Prod.fst ⊆ frameRegs p := by
  simpa [frameCounts] using frameCounts_subset p f g false

theorem glitchCounts_subset (p : Nat) (f : PortFrame) (g : Bool) : (glitchCounts p g).map Prod.fst ⊆ frameRegs p :=
  List.Subset.trans (List.map_subset _ (List.subset_append_left _ _)) (errorCounts_subset p f g)

/-! ### The state after a frame -/

/-- The rate that a period leaves. -/
def State.frameHz (s : State) (p period : Nat) : Nat := s.apHz ((period :: (s.aport p).clk.periods).take 256)

/-- A port changed by h, the rate of a measured period shown, and events counted. -/
def State.framed (s : State) (p period : Nat) (h : APort → APort) (l : List (Nat × Nat)) : State :=
  ((s.setAport p h).setReg (Adr.APORT_RATE p) (s.frameHz p period)).counts l

theorem State.framed_regsOnly : (s.setAport p h).RegsOnly (s.framed p period h l) :=
  ((State.RegsOnly.refl _).setReg _ _).trans (State.counts_regsOnly _ l)

theorem State.framed_aport_same (inside : p < s.aports.ports.length) : (s.framed p period h l).aport p = h (s.aport p) := by
  rw [State.framed_regsOnly.aport, State.aport_setAport_same inside]

theorem State.framed_aport_other {o : Nat} (other : o ≠ p) : (s.framed p period h l).aport o = s.aport o := by
  rw [State.framed_regsOnly.aport, State.aport_setAport_other other]

theorem State.setAport_framed (k : APort → APort) : (s.framed p period h l).setAport p k = s.framed p period (fun q => k (h q)) l := by
  rw [State.framed, State.setAport_counts, State.setAport_setReg, State.setAport_setAport, State.framed]

theorem State.framed_congr {k : APort → APort} (same : h (s.aport p) = k (s.aport p)) : s.framed p period h l = s.framed p period k l := by
  rw [State.framed, State.framed, State.setAport, State.setAport, same]

theorem State.counts_framed (m : List (Nat × Nat)) : (s.framed p period h l).counts m = s.framed p period h (l ++ m) :=
  (State.counts_append _ l m).symm

theorem State.framed_reg_unlisted (notRate : a ≠ Adr.APORT_RATE p) (unlisted : a ∉ l.map Prod.fst) : (s.framed p period h l).reg a = s.reg a := by
  rw [State.framed, State.reg_counts_other unlisted, State.reg_setReg_other _ notRate, State.setAport_reg]

theorem State.framed_reg_other (listed : l.map Prod.fst ⊆ frameRegs p) (other : a ∉ frameRegs p) : (s.framed p period h l).reg a = s.reg a :=
  State.framed_reg_unlisted (fun rate => other (rate ▸ List.mem_cons_self)) (fun mem => other (listed mem))

/-- The rate shown is a register's value: at most 192 kHz. -/
theorem State.apHz_lt (s : State) (l : List Nat) : s.apHz l < 2 ^ 32 := by
  have bound (hz : Nat) : (if (32000 ≤ hz && hz ≤ 192000) = true then hz else 0) < 2 ^ 32 := by
    split
    next shown =>
      rw [Bool.and_eq_true, decide_eq_true_eq, decide_eq_true_eq] at shown
      omega
    next => decide
  exact bound _

theorem State.framed_reg_rate (unlisted : Adr.APORT_RATE p ∉ l.map Prod.fst) :
    (s.framed p period h l).reg (Adr.APORT_RATE p) = s.frameHz p period := by
  rw [State.framed, State.reg_counts_other unlisted, State.reg_setReg_same]
  exact Nat.mod_eq_of_lt (s.apHz_lt _)

/-- A counter of a frame shows its events. -/
theorem State.framed_reg_counter (listed : (a, n) ∈ frameCounts p f g full) (room : s.reg a + n < 2 ^ 31) :
    (s.framed p period h (frameCounts p f g full)).reg a = s.reg a + n := by
  have notRate : a ≠ Adr.APORT_RATE p := fun same =>
    rate_not_mem_frameCounts p f g full (same ▸ List.mem_map_of_mem (f := Prod.fst) listed)
  have before : ((s.setAport p h).setReg (Adr.APORT_RATE p) (s.frameHz p period)).reg a = s.reg a := State.reg_setReg_other _ notRate _
  rw [State.framed, State.reg_counts (frameCounts_once p f g full) listed (by rwa [before]), before]

end Sys2Proof.Machine
end

/-!
The receive FIFO of a slave port (R323, R326, R327, R334): the measurement of a steady clock, and what a whole frame leaves.
-/
section
namespace Sys2Proof.Machine

variable {s : State} {p : Nat} {f : PortFrame} {g full : Bool}

/-- A slave port that takes whole frames: supplied, running, not muted, its clock known and steady. -/
structure State.Takes (s : State) (p : Nat) (f : PortFrame) : Prop where
  inserted : s.inserted = true
  sound : s.apRetired p = false
  supplied : s.apSupplied = true
  slave : s.apSlave p = true
  runs : (s.aport p).rxRun = true
  heard : s.apMuted p = false
  clocked : s.apFlag p 0 = false
  exchanges : s.flag (Adr.APORT_STAT p) 0 = true
  matched : f.mismatch = false ∨ (s.aport p).txRun = false
  steady : Claims.steady s (s.aport p).clk f.period

/-- WCLK, port code 8, is no slave port. -/
theorem State.Takes.isPort (h : s.Takes p f) : p ≠ 8 := by
  have slave := h.slave
  simp only [State.apSlave, Bool.or_eq_true, Bool.and_eq_true, decide_eq_true_eq] at slave
  omega

theorem State.Takes.inside (h : s.Takes p f) : p < s.aports.ports.length := State.lt_length_of_rxRun h.runs

/-! ### A steady clock is measured (R327) -/

theorem glitch_iff (c : PClk) (period : Nat) : Claims.glitch c period ↔ c.near period 60 = false := by
  simp [Claims.glitch, PClk.near]

/-- A port whose clock has taken one more period. -/
def APort.clocked (period clk : Nat) (q : APort) : APort := { q with clk := q.clk.next false period clk }

/-- The state once a frame has been measured, and the events l have been counted. -/
def State.measured (s : State) (p : Nat) (f : PortFrame) (l : List (Nat × Nat)) : State := s.framed p f.period (APort.clocked f.period s.clk) l

/-- While nothing settles, every period joins the list. -/
theorem PClk.next_periods (c : PClk) (period clk : Nat) : (c.next false period clk).periods = (period :: c.periods).take 256 := by
  unfold PClk.next
  split <;> rfl

/-- A run of stable frames grows by one at most. -/
theorem PClk.next_stable (c : PClk) (period clk : Nat) : (c.next false period clk).stable ≤ c.stable + 1 := by
  unfold PClk.next
  split
  next => exact Nat.le_refl _
  next => exact Nat.le_add_left 1 c.stable

theorem State.rateRight_congr {t : State} (same : t.reg Adr.CLK_RATE = s.reg Adr.CLK_RATE) (l : List Nat) : t.rateRight l = s.rateRight l := by
  have rate : t.dbl = s.dbl := congrArg (bit · 1) same
  rw [State.rateRight, State.rateRight, State.spt, State.spt, rate]

/-- The measurement of a steady clock shows its rate and counts a glitch, and finds nothing wrong. -/
theorem State.Takes.measure (h : s.Takes p f) (glitch : g = true ↔ Claims.glitch (s.aport p).clk f.period) :
    s.measure p f.period = (g, s.measured p f (glitchCounts p g)) := by
  have clock : s.pclk p = (s.aport p).clk := if_neg h.isPort
  have watched : s.apWatched p = true := by simp [State.apWatched, h.slave, h.exchanges, h.sound]
  have settled : s.apSettling p = false := by simp [State.apSettling, h.heard]
  have found : (!(s.aport p).clk.near f.period 60) = g := by
    rw [glitch_iff, ← Bool.not_eq_true'] at glitch
    exact (Bool.eq_iff_iff.mpr glitch).symm
  have moved : s.setPclk p ((s.aport p).clk.next false f.period s.clk) = s.setAport p (APort.clocked f.period s.clk) := by
    rw [State.setPclk, if_neg h.isPort]
    rfl
  obtain ⟨shown, right⟩ := h.steady
  unfold State.measure
  simp only [watched, h.clocked, clock, settled, found, moved, PClk.next_periods, h.isPort, shown, State.showRate, State.setAport_apHz,
    ← State.counts_glitchCounts, Bool.not_true, Bool.not_false, Bool.true_and, Bool.false_eq_true, if_false]
  refine congrArg (g, ·) (if_neg fun wrong => ?_)
  simp only [Bool.and_eq_true, decide_eq_true_eq, Bool.not_eq_true'] at wrong
  obtain ⟨⟨long, off⟩, -⟩ := wrong
  have grown := (s.aport p).clk.next_stable f.period s.clk
  have kept : (s.measured p f (glitchCounts p g)).reg Adr.CLK_RATE = s.reg Adr.CLK_RATE :=
    State.framed_reg_other (glitchCounts_subset p f g) (settings_not_mem_frameRegs p).1
  have rate : s.rateRight ((f.period :: (s.aport p).clk.periods).take 256) = false := (State.rateRight_congr kept _).symm.trans off
  rcases right with short | right
  · omega
  · exact absurd (right.symm.trans rate) (by decide)

/-! ### The sample of a frame (R323, R334) -/

/-- The sample that a frame gives: the last one in a glitch, else the last of every channel in error, or invalid under VPOL, and of the others
what the port carries. -/
def State.frameSample (s : State) (p : Nat) (f : PortFrame) (g : Bool) : List Int :=
  if g = true then (s.aport p).prev else (List.range (s.apCh p)).map (fun c =>
    if (decide (4 ≤ p) && f.parErr.getD c false) = true ∨
        (s.flag (Adr.APORT_CTL p) 8 = true ∧ (decide (4 ≤ p) && f.vbit.getD c false) = true) then (s.aport p).prev.getD c 0
    else s.apCarry p ((f.samples.map (·.toInt)).getD c 0))

theorem State.length_apSample (s : State) (p : Nat) (l : List Int) : (s.apSample p l).length = s.apCh p := by simp [State.apSample]

/-- The model's form of the sample, by the lists of bad channels. -/
theorem State.frameSample_eq {q : APort} (same : s.aport p = q) (f : PortFrame) (g : Bool) : s.frameSample p f g =
    if g = true then q.prev else (List.range (s.apSample p (f.samples.map (·.toInt))).length).map (fun c =>
      if ((parityErrors p f).getD c false || (s.flag (Adr.APORT_CTL p) 8 && (invalidChannels p f).getD c false)) = true then q.prev.getD c 0
      else (s.apSample p (f.samples.map (·.toInt))).getD c 0) := by
  rw [← same]
  unfold State.frameSample
  congr 1
  rw [State.length_apSample]
  refine List.map_congr_left fun c channel => ?_
  rw [List.mem_range] at channel
  have carried : (s.apSample p (f.samples.map (·.toInt))).getD c 0 = s.apCarry p ((f.samples.map (·.toInt)).getD c 0) := by
    simp [State.apSample, channel]
  rw [carried, getD_parityErrors, getD_invalidChannels]
  exact ite_congr (by rw [Bool.or_eq_true, Bool.and_eq_true (s.flag _ _)]) (fun _ => rfl) (fun _ => rfl)

/-- A sample depends on the last one and on the settings of the port alone. -/
theorem State.frameSample_congr {t : State} (prev : (t.aport p).prev = (s.aport p).prev) (fmt : t.reg (Adr.APORT_FMT p) = s.reg (Adr.APORT_FMT p))
    (ctl : t.reg (Adr.APORT_CTL p) = s.reg (Adr.APORT_CTL p)) : t.frameSample p f g = s.frameSample p f g := by
  have channels : t.apCh p = s.apCh p := by rw [State.apCh, State.apCh, State.fld, State.fld, fmt]
  have carry (x : Int) : t.apCarry p x = s.apCarry p x := by rw [State.apCarry, State.apCarry, State.fld, State.fld, fmt]
  have vpol : t.flag (Adr.APORT_CTL p) 8 = s.flag (Adr.APORT_CTL p) 8 := congrArg (bit · 8) ctl
  simp only [State.frameSample, prev, channels, carry, vpol]

/-! ### A frame joins the FIFO (R326) -/

/-- A port with x as its last frame. -/
def APort.keeping (x : List Int) (q : APort) : APort := { q with prev := x }

/-- A port keeps the sample x, and takes it into its FIFO where there is room. -/
def State.queueFrame (s : State) (p : Nat) (x : List Int) : State :=
  let t := s.setAport p (APort.keeping x)
  if 32 ≤ (t.aport p).fifo.length then t.count (Adr.APORT_OVER p) else t.setAport p (fun a => { a with fifo := a.fifo ++ [x] })

theorem State.apMuted_congr {t : State} (port : p ≠ 8) (stat : t.reg (Adr.APORT_STAT p) = s.reg (Adr.APORT_STAT p)) : t.apMuted p = s.apMuted p := by
  rw [State.apMuted, State.apMuted, if_neg port, if_neg port]
  exact congrArg (bit · 1) stat

/-- A frame once measured: its errors count, and its sample is queued. -/
theorem State.Takes.sapFrame_measured (h : s.Takes p f) {v : State} (measured : s.measure p f.period = (g, v)) (runs : (v.aport p).rxRun = true)
    (matched : (f.mismatch && (v.aport p).txRun) = false) (heard : (v.counts (errorCounts p f)).apMuted p = false) :
    s.sapFrame p f = (v.counts (errorCounts p f)).queueFrame p ((v.counts (errorCounts p f)).frameSample p f g) := by
  unfold State.sapFrame
  rw [if_neg (by simp [h.slave, h.sound, h.inserted, h.supplied]), measured]
  dsimp only
  rw [matched, runs, State.frameSample_eq ((v.counts_regsOnly (errorCounts p f)).aport p)]
  refine if_neg ?_
  rw [Bool.not_true, Bool.false_or, State.setAport_apMuted]
  exact ne_true_of_eq_false heard

/-- A port that has taken a frame x: the clock its period, the FIFO its sample where there is room. -/
def APort.taken (period clk : Nat) (x : List Int) (q : APort) : APort :=
  { q.clocked period clk with prev := x, fifo := if q.fifo.length < 32 then q.fifo ++ [x] else q.fifo }

/-- What a frame leaves on a port that takes it. -/
def State.afterFrame (s : State) (p : Nat) (f : PortFrame) (g : Bool) : State :=
  s.framed p f.period (APort.taken f.period s.clk (s.frameSample p f g)) (frameCounts p f g (32 ≤ (s.aport p).fifo.length))

/-- A measured frame that is queued counts where it finds the FIFO full, and joins it otherwise. -/
theorem State.queueFrame_measured (inside : p < s.aports.ports.length) (l : List (Nat × Nat)) (x : List Int) :
    (s.measured p f l).queueFrame p x = s.framed p f.period (APort.taken f.period s.clk x)
      (l ++ if 32 ≤ (s.aport p).fifo.length then [(Adr.APORT_OVER p, 1)] else []) := by
  unfold State.queueFrame State.measured
  dsimp only
  rw [State.setAport_framed, State.framed_aport_same inside]
  by_cases full : 32 ≤ (s.aport p).fifo.length
  · rw [if_pos full, ← State.counts_framed]
    refine (if_pos full).trans (congrArg (State.count · (Adr.APORT_OVER p)) (State.framed_congr ?_))
    rw [APort.taken, if_neg (Nat.not_lt.mpr full)]
    rfl
  · rw [if_neg full, List.append_nil]
    refine (if_neg full).trans ((State.setAport_framed _).trans (State.framed_congr ?_))
    rw [APort.taken, if_pos (Nat.lt_of_not_le full)]
    rfl

/-- A port that takes whole frames takes this one. -/
theorem State.Takes.sapFrame (h : s.Takes p f) (glitch : g = true ↔ Claims.glitch (s.aport p).clk f.period) :
    s.sapFrame p f = s.afterFrame p f g := by
  have port (l : List (Nat × Nat)) : (s.measured p f l).aport p = (s.aport p).clocked f.period s.clk := State.framed_aport_same h.inside
  have kept (a : Nat) (other : a ∉ frameRegs p) : (s.measured p f (glitchCounts p g ++ errorCounts p f)).reg a = s.reg a :=
    State.framed_reg_other (errorCounts_subset p f g) other
  have counted : (s.measured p f (glitchCounts p g)).counts (errorCounts p f) = s.measured p f (glitchCounts p g ++ errorCounts p f) :=
    State.counts_framed _
  obtain ⟨-, notCtl, notFmt, notStat⟩ := settings_not_mem_frameRegs p
  have sample : (s.measured p f (glitchCounts p g ++ errorCounts p f)).frameSample p f g = s.frameSample p f g :=
    State.frameSample_congr (by rw [port]; rfl) (kept _ notFmt) (kept _ notCtl)
  have heard : (s.measured p f (glitchCounts p g ++ errorCounts p f)).apMuted p = false := by
    rw [State.apMuted_congr h.isPort (kept _ notStat), h.heard]
  have matched : (f.mismatch && ((s.measured p f (glitchCounts p g)).aport p).txRun) = false := by
    rw [port, Bool.and_eq_false_iff]
    exact h.matched
  rw [h.sapFrame_measured (h.measure glitch) (by rw [port]; exact h.runs) matched (by rwa [counted]), counted, sample,
    State.queueFrame_measured h.inside, State.afterFrame, frameCounts]
  simp only [decide_eq_true_eq]

/-! ### The counters after a frame -/

theorem State.afterFrame_reg_other {a : Nat} (other : a ∉ frameRegs p) : (s.afterFrame p f g).reg a = s.reg a :=
  State.framed_reg_other (frameCounts_subset p f g _) other

theorem State.afterFrame_rate : (s.afterFrame p f g).reg (Adr.APORT_RATE p) = s.frameHz p f.period :=
  State.framed_reg_rate (rate_not_mem_frameCounts p f g _)

theorem State.afterFrame_over (full : 32 ≤ (s.aport p).fifo.length) (room : s.reg (Adr.APORT_OVER p) + 1 < 2 ^ 31) :
    (s.afterFrame p f g).reg (Adr.APORT_OVER p) = s.reg (Adr.APORT_OVER p) + 1 :=
  State.framed_reg_counter (by simp [frameCounts, full]) room

theorem State.afterFrame_glitch (room : s.reg (Adr.APORT_GLITCH p) + 1 < 2 ^ 31) :
    (s.afterFrame p f true).reg (Adr.APORT_GLITCH p) = s.reg (Adr.APORT_GLITCH p) + 1 :=
  State.framed_reg_counter (by simp [frameCounts, glitchCounts]) room

theorem State.afterFrame_no_glitch : (s.afterFrame p f false).reg (Adr.APORT_GLITCH p) = s.reg (Adr.APORT_GLITCH p) :=
  State.framed_reg_unlisted (by simp [Adr.APORT_GLITCH, Adr.APORT_RATE]) (glitch_not_mem_frameCounts p f _)

theorem State.afterFrame_parity (biphase : 4 ≤ p) (room : s.reg (Adr.APORT_PARERR p) + f.parErr.length < 2 ^ 31) :
    (s.afterFrame p f g).reg (Adr.APORT_PARERR p) = s.reg (Adr.APORT_PARERR p) + (f.parErr.filter id).length :=
  State.framed_reg_counter (by simp [frameCounts, errorCounts, parityErrors_biphase biphase])
    (Nat.lt_of_le_of_lt (Nat.add_le_add_left (List.length_filter_le _ _) _) room)

theorem State.afterFrame_invalid (biphase : 4 ≤ p) (room : s.reg (Adr.APORT_VALIDCNT p) + f.vbit.length < 2 ^ 31) :
    (s.afterFrame p f g).reg (Adr.APORT_VALIDCNT p) = s.reg (Adr.APORT_VALIDCNT p) + (f.vbit.filter id).length :=
  State.framed_reg_counter (by simp [frameCounts, errorCounts, invalidChannels_biphase biphase])
    (Nat.lt_of_le_of_lt (Nat.add_le_add_left (List.length_filter_le _ _) _) room)

/-! ### SAP_FRAME_RECEIVED -/

theorem exec_sapFrameReceived (s : State) (p : Fin 6) (f : PortFrame) :
    exec (.sapFrameReceived p f) s = s.run fun s => (s.clean.sapFrame p.val f).settle := rfl

/-- Where no error has been met, nothing is charged. -/
theorem State.settle_of_no_errors (none : s.flt.errs = []) : s.settle = s := by
  rw [State.settle, none]
  show { s with flt := { s.flt with errs := [] } } = s
  rw [← none]

/-- A command that leaves the queue answers the state of its effect. -/
theorem State.run_keeping {t : State} {e : State → State} (effect : e s = t) (queue : t.pending = s.pending) : s.run e = .next t := by
  rw [State.run, effect, ← queue, State.queued_self]

/-- A port that takes no frames, a master, leaves the state. -/
theorem exec_sapFrameReceived_master (p : Fin 6) (f : PortFrame) (master : s.apSlave p.val = false) :
    exec (.sapFrameReceived p f) s = .next s.clean := by
  have same : s.clean.sapFrame p.val f = s.clean := if_pos (by rw [show s.clean.apSlave p.val = false from master]; rfl)
  rw [exec_sapFrameReceived]
  exact State.run_keeping (by rw [same, State.settle_of_no_errors rfl]) rfl

theorem State.afterFrame_regsOnly :
    (s.setAport p (APort.taken f.period s.clk (s.frameSample p f g))).RegsOnly (s.afterFrame p f g) := State.framed_regsOnly

/-- A frame changes the ports' states and registers alone. -/
theorem State.afterFrame_state : s.afterFrame p f g = { s with regs := (s.afterFrame p f g).regs, aports := (s.afterFrame p f g).aports } := by
  rw [State.afterFrame_regsOnly]
  rfl

/-- Of the ports, a frame changes the list alone. -/
theorem State.afterFrame_aports : (s.afterFrame p f g).aports = { s.aports with ports := (s.afterFrame p f g).aports.ports } := by
  rw [State.afterFrame_regsOnly]
  rfl

theorem exec_sapFrameReceived_takes (p : Fin 6) (h : s.clean.Takes p.val f) (glitch : g = true ↔ Claims.glitch (s.aport p.val).clk f.period) :
    exec (.sapFrameReceived p f) s = .next (s.clean.afterFrame p.val f g) := by
  have fault : (s.clean.afterFrame p.val f g).flt = s.clean.flt := by rw [State.afterFrame_state]
  have queue : (s.clean.afterFrame p.val f g).pending = s.pending := by rw [State.afterFrame_state]; rfl
  rw [exec_sapFrameReceived]
  exact State.run_keeping (by rw [h.sapFrame glitch, State.settle_of_no_errors (by rw [fault]; rfl)]) queue

/-! ### TX_FRAME_START (R326) -/

theorem exec_txFrameStart (s : State) (p : Fin 4) : exec (.txFrameStart p) s = s.run fun s => s.sapTxStart p.val := rfl

theorem exec_txFrameStart_keeping {t : State} (p : Fin 4) (effect : s.sapTxStart p.val = t) (queue : t.pending = s.pending) :
    exec (.txFrameStart p) s = .next t := by
  rw [exec_txFrameStart]
  exact State.run_keeping effect queue

/-- A slave port that sends. -/
structure State.Sends (s : State) (p : Nat) : Prop where
  inserted : s.inserted = true
  sound : s.apRetired p = false
  supplied : s.apSupplied = true
  slave : s.apSlave p = true
  runs : (s.aport p).txRun = true

theorem State.Sends.awake (h : s.Sends p) :
    ¬ (!s.apSlave p || s.apRetired p || !(s.aport p).txRun || !s.inserted || !s.apSupplied) = true := by
  simp [h.slave, h.sound, h.runs, h.inserted, h.supplied]

theorem State.Sends.sapTxStart_muted (h : s.Sends p) (muted : s.apMuted p = true) :
    s.sapTxStart p = s.setAport p (fun a => { a with txNow := List.replicate (s.apCh p) 0 }) :=
  (if_neg h.awake).trans (if_pos muted)

theorem State.Sends.sapTxStart_empty (h : s.Sends p) (heard : s.apMuted p = false) (empty : (s.aport p).txFifo = []) :
    s.sapTxStart p = s.count (Adr.APORT_UNDER p) := by
  refine (if_neg h.awake).trans ((if_neg (ne_true_of_eq_false heard)).trans ?_)
  rw [empty]

theorem State.Sends.sapTxStart_next (h : s.Sends p) (heard : s.apMuted p = false) {y : List Int} {l : List (List Int)}
    (oldest : (s.aport p).txFifo = y :: l) : s.sapTxStart p = s.setAport p (fun a => { a with txNow := y, txFifo := l }) := by
  refine (if_neg h.awake).trans ((if_neg (ne_true_of_eq_false heard)).trans ?_)
  rw [oldest]

/-- A port that does not send leaves the state. -/
theorem State.sapTxStart_idle (idle : s.apSlave p = false ∨ (s.aport p).txRun = false) : s.sapTxStart p = s :=
  if_pos (by rcases idle with master | stopped <;> simp [*])

/-! ### The obligation -/

/-- Settles O42: a frame that a port takes leaves one change of the port, the rate and the counts; a frame start goes by its four cases. -/
theorem framesPassThroughTheFifos : Obligations.FramesPassThroughTheFifos := by
  unfold Obligations.FramesPassThroughTheFifos
  intro s p f inserted sound supplied q bad inv x
  refine ⟨fun slave runs heard clocked exchanges matched steady g glitch => ?received, exec_sapFrameReceived_master p f, fun small =>
    ⟨fun slave runs => ?sends, fun idle => exec_txFrameStart_keeping _ (State.sapTxStart_idle idle) rfl⟩⟩
  case received =>
    have h : s.clean.Takes p.val f := ⟨inserted, sound, supplied, slave, runs, heard, clocked, exchanges, matched, steady⟩
    have port : (s.clean.afterFrame p.val f g).aport p.val = q.taken f.period s.clk (x g) := State.framed_aport_same h.inside
    refine ⟨_, exec_sapFrameReceived_takes p h glitch, State.afterFrame_state (s := s.clean), ?fifo, by rw [port]; rfl, ?periods,
      fun o other => State.framed_aport_other other, State.afterFrame_aports (s := s.clean), State.afterFrame_rate,
      fun full room => State.afterFrame_over (s := s.clean) full (Nat.add_lt_of_lt_sub room), ?glitches, ?sound, State.afterFrame_parity (s := s.clean),
      State.afterFrame_invalid (s := s.clean), fun a => State.afterFrame_reg_other⟩
    case fifo => rw [port]; rfl
    case periods => rw [port]; exact PClk.next_periods _ _ _
    case glitches =>
      rintro rfl room
      exact State.afterFrame_glitch (s := s.clean) (Nat.add_lt_of_lt_sub room)
    case sound =>
      rintro rfl
      exact State.afterFrame_no_glitch
  case sends =>
    have h : s.Sends p.val := ⟨inserted, sound, supplied, slave, runs⟩
    exact ⟨fun muted => exec_txFrameStart_keeping _ (h.sapTxStart_muted muted) rfl,
      fun heard empty => exec_txFrameStart_keeping _ (h.sapTxStart_empty heard empty) (s.countBy_regsOnly _ 1).pending,
      fun y l heard oldest => exec_txFrameStart_keeping _ (h.sapTxStart_next heard oldest) rfl⟩

end Sys2Proof.Machine
end

/-!
SUPPORT. What a record on a source ring changes (R225, R241, R242): the rings, the Basin and few registers. The status of an audio port is among
them only where a write of the Dispatcher meets other writes of its FCLK cycle, since the writes that it meets are ranked again.
-/
section
namespace Sys2Proof.Machine

variable {s t u : State} {a q i : Nat}

/-- Some write of the Dispatcher reaches its bank in the FCLK cycle of an earlier write of the word: a free value (R241). -/
def DispatcherMeets : Prop := ∃ clk w, Config.sameCycle clk w Master.disp = true

/-- A register that no record on a source ring changes. -/
structure BesidePosts (a : Nat) : Prop where
  hash : a ≠ Adr.VOICE_HASHCTL
  collision : a ≠ Adr.BASIN_COLFLAG
  lost : ∀ q, q < 12 → a ≠ Adr.DSP_SRCLOST q
  port : DispatcherMeets → ∀ p, a ≠ Adr.APORT_STAT p

/-- State t is s after records on source rings. -/
structure State.Posts (s t : State) : Prop where
  only : Claims.onlyPosts s t
  reg : ∀ a, BesidePosts a → t.reg a = s.reg a

theorem State.Posts.refl (s : State) : s.Posts s := ⟨rfl, fun _ _ => rfl⟩

theorem State.Posts.trans (h : s.Posts t) (g : t.Posts u) : s.Posts u := by
  refine ⟨?_, fun a beside => (g.reg a beside).trans (h.reg a beside)⟩
  have first := h.only
  have second := g.only
  unfold Claims.onlyPosts at first second ⊢
  rw [second, first]

theorem State.Posts.pending (h : s.Posts t) : t.pending = s.pending := by rw [h.only]

theorem State.Posts.ana (h : s.Posts t) : t.ana = s.ana := by rw [h.only]

theorem State.Posts.flt (h : s.Posts t) : t.flt = s.flt := by rw [h.only]

theorem State.Posts.clk (h : s.Posts t) : t.clk = s.clk := by rw [h.only]

theorem State.Posts.flag (h : s.Posts t) (beside : BesidePosts a) (i : Nat) : t.flag a i = s.flag a i :=
  congrArg (bit · i) (h.reg a beside)

/-- Stores in registers that a record may change. -/
theorem State.posts_setReg (changes : ¬ BesidePosts a) (v : Nat) : s.Posts (s.setReg a v) :=
  ⟨rfl, fun b beside => s.reg_setReg_other (a := a) (b := b) (fun same => changes (same ▸ beside)) v⟩

theorem State.posts_setFlag (changes : ¬ BesidePosts a) (i : Nat) (b : Bool) : s.Posts (s.setFlag a i b) := s.posts_setReg changes _

/-- The Basin and the rings are free to change. -/
theorem State.posts_setBasin (s : State) (b : Basin) : s.Posts { s with basin := b } := ⟨rfl, fun _ _ => rfl⟩

theorem State.posts_setRing (s : State) (q : Nat) (r : SrcRing) : s.Posts (s.setRing q r) := ⟨rfl, fun _ _ => rfl⟩

/-! ### Stores in the Basin -/

theorem State.posts_setStale (s : State) : s.Posts s.setStale := by
  have flagged : s.Posts (s.setFlag Adr.VOICE_HASHCTL 2 true) := State.posts_setFlag (fun beside => beside.hash rfl) _ _
  unfold State.setStale
  dsimp only
  split
  · exact flagged.trans ⟨rfl, fun _ _ => rfl⟩
  · exact flagged

theorem State.posts_memPut (s : State) (a : Nat) (l : List Byte) : s.Posts (s.memPut a l) := by
  unfold State.memPut
  dsimp only
  split
  · split
    · exact s.posts_setStale.trans (State.posts_setBasin _ _)
    · exact s.posts_setBasin _
  · exact .refl s

theorem State.posts_tellLost (meets : DispatcherMeets) (s : State) (x : LaneWrite) : s.Posts (s.tellLost x) := by
  have told : s.Posts (s.setFlag Adr.BASIN_COLFLAG x.master true) := State.posts_setFlag (fun beside => beside.collision rfl) _ _
  unfold State.tellLost
  dsimp only
  split
  · exact told.trans (State.posts_setFlag (fun beside => beside.port meets x.port rfl) _ _)
  · exact told

/-- Only a write that meets a group tells masters of drops. -/
theorem State.posts_putPart (s : State) (port a : Nat) (l : List Byte) : s.Posts (s.putPart Master.disp port a l).2 := by
  unfold State.putPart
  dsimp only
  split
  next => exact (s.posts_setBasin _).trans (State.posts_memPut _ _ _)
  next g found =>
    have met := List.find?_some found
    rw [Bool.and_eq_true] at met
    exact List.foldlRecOn (motive := fun t : State => s.Posts t) _ _ ((s.posts_setBasin _).trans (State.posts_memPut _ _ _))
      fun t posted x _ => posted.trans (State.posts_tellLost ⟨_, _, met.2⟩ t x)

theorem State.posts_basinPut (s : State) (port a : Nat) (l : List Byte) : s.Posts (s.basinPut Master.disp port a l).2 :=
  List.foldlRecOn (motive := fun p : Bool × State => s.Posts p.2) _ _ (.refl s)
    fun p posted x _ => posted.trans (p.2.posts_putPart port x.1 x.2)

/-! ### Records -/

theorem State.posts_loseEvent (source : q < 12) : s.Posts (s.loseEvent q) := by
  rw [State.loseEvent, State.count, State.countBy_eq_setReg]
  exact (s.posts_setRing q _).trans (State.posts_setReg (fun beside => beside.lost q source rfl) _)

theorem State.posts_post (source : q < 12) (record : List Byte) : s.Posts (s.post q record) := by
  have lost : s.Posts (s.loseEvent q) := State.posts_loseEvent source
  unfold State.post State.offer
  dsimp only
  split
  · exact lost
  · split
    · exact lost
    · exact ((s.posts_basinPut _ _ _).trans (State.posts_setRing _ _ _)).trans (State.posts_setRing _ _ _)

theorem State.posts_anaPostAt (s : State) (code channel status value t : Nat) : s.Posts (s.anaPostAt code channel status value t) :=
  State.posts_post (by decide) _

theorem State.posts_anaPost (s : State) (code channel status value : Nat) : s.Posts (s.anaPost code channel status value) :=
  s.posts_anaPostAt _ _ _ _ _

end Sys2Proof.Machine
end

/-!
SUPPORT. The control outputs as parts of the state: what one reads after a change of one, and beside records on source rings.
-/
section
namespace Sys2Proof.Machine

variable {s t : State} {a c k : Nat} {d e : Cout}

theorem State.cout_setCout_same (inside : c < s.ana.couts.length) (d : Cout) : (s.setCout c d).cout c = d := by
  simp [State.cout, inside]

theorem State.cout_setCout_other (other : k ≠ c) (d : Cout) : (s.setCout c d).cout k = s.cout k := by
  simp [State.cout, List.getD_eq_getElem?_getD, List.getElem?_set_ne other.symm]

@[simp] theorem State.setCout_setCout (s : State) (c : Nat) (d e : Cout) : (s.setCout c d).setCout c e = s.setCout c e := by
  simp [State.setCout]

theorem State.setCout_cout (s : State) (c : Nat) : s.setCout c (s.cout c) = s := by
  rcases Nat.lt_or_ge c s.ana.couts.length with inside | outside
  · simp [State.setCout, State.cout, List.getD_eq_getElem?_getD, List.getElem?_eq_getElem inside]
  · simp [State.setCout, List.set_eq_of_length_le outside]

@[simp] theorem State.length_couts_setCout (s : State) (c : Nat) (d : Cout) : (s.setCout c d).ana.couts.length = s.ana.couts.length := by simp

theorem State.cout_congr (same : t.ana = s.ana) (k : Nat) : t.cout k = s.cout k := by rw [State.cout, State.cout, same]

theorem State.Posts.cout (h : s.Posts t) (k : Nat) : t.cout k = s.cout k := State.cout_congr h.ana k

/-- A change of an output and records do not meet. -/
theorem State.Posts.setCout (h : s.Posts t) (c : Nat) (d : Cout) : (s.setCout c d).Posts (t.setCout c d) := by
  refine ⟨?_, h.reg⟩
  have only := h.only
  unfold Claims.onlyPosts State.setCout at *
  rw [only]

theorem State.couts_of_shaped (shaped : s.shaped = true) : s.ana.couts.length = 8 := by
  simp only [State.shaped, Bool.and_eq_true, decide_eq_true_eq] at shaped
  exact shaped.1.1.2

end Sys2Proof.Machine
end

/-!
SUPPORT. The steps of a control output (R353, R354): what one step leaves in each stage of a range sequence.
-/
section
namespace Sys2Proof.Machine

variable {s t : State} {c n x y time since : Nat} {d : Cout}

/-! ### Moving towards a code (R353) -/

theorem moveTo_up (below : x ≤ y) (n : Nat) : x ≤ moveTo x y n ∧ moveTo x y n ≤ y := by
  unfold moveTo
  split
  · exact ⟨Nat.le_min.mpr ⟨below, Nat.le_add_right x n⟩, Nat.min_le_left _ _⟩
  · have same : x = y := by omega
    exact ⟨same ▸ Nat.le_max_left _ _, Nat.max_le.mpr ⟨Nat.le_refl y, by omega⟩⟩

theorem moveTo_down (above : y ≤ x) (n : Nat) : y ≤ moveTo x y n ∧ moveTo x y n ≤ x := by
  unfold moveTo
  rw [if_neg (Nat.not_lt.mpr above)]
  exact ⟨Nat.le_max_left _ _, Nat.max_le.mpr ⟨above, Nat.sub_le x n⟩⟩

/-- A move is at most one step long. -/
theorem moveTo_near (x y n : Nat) : moveTo x y n ≤ x + n ∧ x ≤ moveTo x y n + n := by
  unfold moveTo
  split
  · exact ⟨Nat.min_le_right _ _, by rw [← Nat.sub_le_iff_le_add]; exact Nat.le_min.mpr (by omega)⟩
  · exact ⟨Nat.max_le.mpr (by omega), by rw [← Nat.sub_le_iff_le_add]; exact Nat.le_max_right _ _⟩

/-- With the limiter on, a step is STEP. -/
theorem State.slew_limited (on : s.flag (Adr.COUT_CTL c) 8 = true) : (s.slew c).1 = s.fld (Adr.COUT_SLEW c) 15 0 := by
  simp [State.slew, on]

/-! ### Ends of a sequence (R354) -/

theorem State.rangeDone_posts (inside : c < s.ana.couts.length) (d : Cout) (time : Nat) :
    (s.setCout c { d with seq := .none }).Posts ((s.setCout c d).rangeDone c time) := by
  have ended : (s.setCout c d).setCout c { (s.setCout c d).cout c with seq := .none } = s.setCout c { d with seq := .none } := by
    rw [State.cout_setCout_same inside, State.setCout_setCout]
  rw [State.rangeDone, ended]
  exact State.posts_anaPostAt _ _ _ _ _ _

theorem State.disconnect_posts (inside : c < s.ana.couts.length) (d : Cout) (time : Nat) :
    (s.setCout c { d with range := 0, out := 0, target := 0, seq := .none }).Posts ((s.setCout c d).disconnect c time) := by
  rw [State.disconnect, State.cout_setCout_same inside, State.setCout_setCout]
  exact State.rangeDone_posts inside { d with range := 0, out := 0, target := 0 } time

/-- The end of a clamp: the ball is disconnected, or the output starts on the new range, where the change may end at once. -/
theorem State.clampEnd_posts (inside : c < s.ana.couts.length) (clamped : (s.cout c).seq = .clamp since) (time : Nat) :
    (s.setCout c (if s.coutRange c = 0 then { s.cout c with range := 0, out := 0, target := 0, seq := .none }
      else { s.cout c with
        range := s.coutRange c, out := zeroCode (s.coutRange c)
        seq := if zeroCode (s.coutRange c) = (s.cout c).target then .none else .toTarget })).Posts (s.clampEnd c time) := by
  unfold State.clampEnd
  rw [clamped]
  dsimp only
  split
  next =>
    have ended := State.disconnect_posts inside (s.cout c) time
    rwa [State.setCout_cout] at ended
  next =>
    rw [State.cout_setCout_same inside]
    dsimp only
    split
    next =>
      exact State.rangeDone_posts inside
        { s.cout c with range := s.coutRange c, out := zeroCode (s.coutRange c), seq := .toTarget } time
    next => exact .refl _

theorem State.clampEnd_idle (idle : ∀ since, (s.cout c).seq ≠ .clamp since) (time : Nat) : s.clampEnd c time = s := by
  unfold State.clampEnd
  split
  next since clamped => exact absurd clamped (idle since)
  next => rfl

theorem State.clampDue_idle (idle : ∀ since, (s.cout c).seq ≠ .clamp since) (time : Nat) : s.clampDue c time = s := by
  unfold State.clampDue
  split
  next since clamped => exact absurd clamped (idle since)
  next => rfl

theorem State.clampDue_early (clamped : (s.cout c).seq = .clamp since) (early : time < since + s.clampTicks) : s.clampDue c time = s := by
  unfold State.clampDue
  rw [clamped]
  exact if_neg (Nat.not_le.mpr early)

/-! ### One step (R353, R354) -/

/-- The last of a step at a time: the next one is later. -/
def State.endStep (s : State) (c time : Nat) : State := s.setCout c { s.cout c with nextStep := time + 1 }

theorem State.endStep_setCout (inside : c < s.ana.couts.length) (d : Cout) (time : Nat) :
    (s.setCout c d).endStep c time = s.setCout c { d with nextStep := time + 1 } := by
  rw [State.endStep, State.cout_setCout_same inside, State.setCout_setCout]

theorem State.Posts.endStep (inside : c < s.ana.couts.length) (h : (s.setCout c d).Posts t) (time : Nat) :
    (s.setCout c { d with nextStep := time + 1 }).Posts (t.endStep c time) := by
  rw [State.endStep, h.cout, State.cout_setCout_same inside, ← State.setCout_setCout s c d]
  exact h.setCout c { d with nextStep := time + 1 }

/-- The step of an output in no range sequence. -/
theorem State.stepAt_none (rest : (s.cout c).seq = .none) (time : Nat) : s.stepAt c time =
    (if (decide ((s.cout c).range ≠ 0) && s.flag (Adr.COUT_CTL c) 8) = true then
      s.setCout c { s.cout c with out := moveTo (s.cout c).out (s.cout c).target (s.slew c).1 } else s).endStep c time := by
  unfold State.stepAt
  rw [State.clampDue_idle (by simp [rest])]
  dsimp only
  rw [rest]
  rfl

/-- The step of an output on its way to the old range's zero code. -/
theorem State.stepAt_toZero (moving : (s.cout c).seq = .toZero) (time : Nat) : s.stepAt c time =
    (if moveTo (s.cout c).out (zeroCode (s.cout c).range) (s.slew c).1 = zeroCode (s.cout c).range then
      (s.setCout c { s.cout c with out := moveTo (s.cout c).out (zeroCode (s.cout c).range) (s.slew c).1 }).atOldZero c time
    else s.setCout c { s.cout c with out := moveTo (s.cout c).out (zeroCode (s.cout c).range) (s.slew c).1 }).endStep c time := by
  unfold State.stepAt
  rw [State.clampDue_idle (by simp [moving])]
  dsimp only
  rw [moving]
  rfl

/-- The step of an output on its way to the target on the new range. -/
theorem State.stepAt_toTarget (moving : (s.cout c).seq = .toTarget) (time : Nat) : s.stepAt c time =
    (if moveTo (s.cout c).out (s.cout c).target (s.slew c).1 = (s.cout c).target then
      (s.setCout c { s.cout c with out := moveTo (s.cout c).out (s.cout c).target (s.slew c).1 }).rangeDone c time
    else s.setCout c { s.cout c with out := moveTo (s.cout c).out (s.cout c).target (s.slew c).1 }).endStep c time := by
  unfold State.stepAt
  rw [State.clampDue_idle (by simp [moving])]
  dsimp only
  rw [moving]
  rfl

/-- A clamp that goes on makes no step. -/
theorem State.stepAt_clamp (clamped : (s.cout c).seq = .clamp since) (early : time < since + s.clampTicks) :
    s.stepAt c time = s.endStep c time := by
  unfold State.stepAt
  rw [State.clampDue_early clamped early]
  dsimp only
  rw [clamped]
  rfl

/-- With the limiter on, a connected output moves by a step (R353). -/
theorem State.stepAt_limited (inside : c < s.ana.couts.length) (rest : (s.cout c).seq = .none) (range : (s.cout c).range ≠ 0)
    (on : s.flag (Adr.COUT_CTL c) 8 = true) (time : Nat) : s.stepAt c time =
    s.setCout c { s.cout c with out := moveTo (s.cout c).out (s.cout c).target (s.slew c).1, nextStep := time + 1 } := by
  rw [State.stepAt_none rest, if_pos (by simp [range, on]), State.endStep_setCout inside]

/-- Without the limiter, or disconnected, it keeps its code. -/
theorem State.stepAt_unlimited (rest : (s.cout c).seq = .none) (free : (s.cout c).range = 0 ∨ s.flag (Adr.COUT_CTL c) 8 = false) (time : Nat) :
    s.stepAt c time = s.setCout c { s.cout c with nextStep := time + 1 } := by
  rw [State.stepAt_none rest, if_neg (by simpa [imp_iff_not_or] using free), State.endStep]

theorem State.stepAt_toZero_on_its_way (inside : c < s.ana.couts.length) (moving : (s.cout c).seq = .toZero)
    (short : moveTo (s.cout c).out (zeroCode (s.cout c).range) (s.slew c).1 ≠ zeroCode (s.cout c).range) (time : Nat) : s.stepAt c time =
    s.setCout c { s.cout c with out := moveTo (s.cout c).out (zeroCode (s.cout c).range) (s.slew c).1, nextStep := time + 1 } := by
  rw [State.stepAt_toZero moving, if_neg short, State.endStep_setCout inside]

/-- At the old range's zero code the clamp starts (R354, step 2). -/
theorem State.stepAt_toZero_clamps (inside : c < s.ana.couts.length) (moving : (s.cout c).seq = .toZero)
    (there : moveTo (s.cout c).out (zeroCode (s.cout c).range) (s.slew c).1 = zeroCode (s.cout c).range) (range : s.coutRange c ≠ 0)
    (time : Nat) : s.stepAt c time =
    s.setCout c { s.cout c with out := zeroCode (s.cout c).range, seq := .clamp time, nextStep := time + 1 } := by
  rw [State.stepAt_toZero moving, if_pos there, there, State.atOldZero, State.cout_setCout_same inside, State.setCout_setCout,
    if_neg (show ¬ (s.setCout c _).coutRange c = 0 from range), State.endStep_setCout inside]

/-- There RANGE 0 disconnects the ball. -/
theorem State.stepAt_toZero_disconnects (inside : c < s.ana.couts.length) (moving : (s.cout c).seq = .toZero)
    (there : moveTo (s.cout c).out (zeroCode (s.cout c).range) (s.slew c).1 = zeroCode (s.cout c).range) (range : s.coutRange c = 0)
    (time : Nat) :
    (s.setCout c { s.cout c with range := 0, out := 0, target := 0, seq := .none, nextStep := time + 1 }).Posts (s.stepAt c time) := by
  rw [State.stepAt_toZero moving, if_pos there, State.atOldZero, if_pos (show (s.setCout c _).coutRange c = 0 from range)]
  exact (State.disconnect_posts inside { s.cout c with out := _ } time).endStep inside time

theorem State.stepAt_toTarget_on_its_way (inside : c < s.ana.couts.length) (moving : (s.cout c).seq = .toTarget)
    (short : moveTo (s.cout c).out (s.cout c).target (s.slew c).1 ≠ (s.cout c).target) (time : Nat) : s.stepAt c time =
    s.setCout c { s.cout c with out := moveTo (s.cout c).out (s.cout c).target (s.slew c).1, nextStep := time + 1 } := by
  rw [State.stepAt_toTarget moving, if_neg short, State.endStep_setCout inside]

/-- At the target the range change ends. -/
theorem State.stepAt_toTarget_ends (inside : c < s.ana.couts.length) (moving : (s.cout c).seq = .toTarget)
    (there : moveTo (s.cout c).out (s.cout c).target (s.slew c).1 = (s.cout c).target) (time : Nat) :
    (s.setCout c { s.cout c with
      out := moveTo (s.cout c).out (s.cout c).target (s.slew c).1, seq := .none, nextStep := time + 1 }).Posts (s.stepAt c time) := by
  rw [State.stepAt_toTarget moving, if_pos there]
  exact (State.rangeDone_posts inside { s.cout c with out := _ } time).endStep inside time

/-! ### SLEW_STEP and RANGE_CLAMP_END -/

theorem exec_slewStep (s : State) (c : Fin 8) : exec (.slewStep c) s = s.run fun s => s.stepNow c.val := rfl

theorem exec_rangeClampEnd (s : State) (c : Fin 8) : exec (.rangeClampEnd c) s = s.run fun s => s.clampEnd c.val s.time := rfl

/-- A step instant of channel c that has not been made (R353). -/
structure State.StepDue (s : State) (c : Nat) : Prop where
  shaped : s.shaped = true
  inserted : s.inserted = true
  instant : s.time % Nat.max 1 (s.slew c).2 = 0
  unmade : (s.cout c).nextStep ≤ s.time

theorem State.StepDue.stepNow (h : s.StepDue c) : s.stepNow c = s.stepAt c s.time := by
  rw [State.stepNow]
  exact if_pos (by simp [h.inserted, h.instant, h.unmade])

theorem State.StepDue.inside {c : Fin 8} (h : s.StepDue c.val) : c.val < s.ana.couts.length := by
  rw [State.couts_of_shaped h.shaped]
  exact c.isLt

theorem State.StepDue.exec {c : Fin 8} (h : s.StepDue c.val) (step : s.stepAt c.val s.time = t) (queue : t.pending = s.pending) :
    exec (.slewStep c) s = .next t := by
  rw [exec_slewStep]
  exact State.run_keeping (h.stepNow.trans step) queue

theorem exec_slewStep_not_due (c : Fin 8)
    (idle : s.inserted = false ∨ s.time % Nat.max 1 (s.slew c.val).2 ≠ 0 ∨ s.time < (s.cout c.val).nextStep) : exec (.slewStep c) s = .next s := by
  rw [exec_slewStep]
  refine State.run_same (f := fun s => s.stepNow c.val) (if_neg ?_)
  simp only [Bool.and_eq_true, decide_eq_true_eq]
  rintro ⟨⟨inserted, instant⟩, unmade⟩
  rcases idle with out | between | made
  · rw [out] at inserted
    cases inserted
  · exact between instant
  · exact absurd unmade (Nat.not_le.mpr made)

theorem exec_rangeClampEnd_idle (c : Fin 8) (idle : ∀ since, (s.cout c.val).seq ≠ .clamp since) : exec (.rangeClampEnd c) s = .next s := by
  rw [exec_rangeClampEnd]
  exact State.run_same (f := fun s => s.clampEnd c.val s.time) (State.clampEnd_idle idle s.time)

end Sys2Proof.Machine
end

/-!
SUPPORT. Writes of ADAC_CTL and COUT_CTL (R346, R349, R352, R354), and the mute switch of a DAC that has fallen (R346).
-/
section
namespace Sys2Proof.Machine

variable {s : State} {src : Source} {c : Fin 8} {v : Nat} {value : Word}

/-! ### ADAC_CTL -/

/-- The row of ADAC_CTL (Table HI-8). -/
def adacCtlRow : RegRow := ⟨0x02009000, 0x4, 1, 0, 1, 0xf, 0, 0, 0, 0, 0xf⟩

theorem regRow_adacCtl : regRow Adr.ADAC_CTL = some adacCtlRow := by decide +kernel

/-- The low four bits of v over the others of a register. -/
theorem low_four_over {n : Nat} (word : n < 2 ^ 32) (v : Nat) : (v &&& 0xF) ||| (n &&& 0xFFFFFFF0) = putBits n 3 0 v := by
  have shape : putBits n 3 0 v = 2 ^ 4 * (n >>> 4) + v % 2 ^ 4 := by
    simp only [putBits, Nat.shiftLeft_eq]
    omega
  have mask : ∀ i < 32, Nat.testBit 0xFFFFFFF0 i = decide (4 ≤ i) := by decide
  refine Nat.eq_of_testBit_eq fun i => ?_
  rw [shape, Nat.testBit_two_pow_mul_add _ (Nat.mod_lt _ (by decide)), Nat.testBit_mod_two_pow, Nat.testBit_shiftRight, Nat.testBit_or,
    Nat.testBit_and, Nat.testBit_and, show (0xF : Nat) = 2 ^ 4 - 1 from rfl, Nat.testBit_two_pow_sub_one]
  by_cases low : i < 4
  · simp [low, mask i (by omega)]
  · rw [if_neg low, Nat.add_sub_cancel' (Nat.le_of_not_lt low)]
    by_cases inside : i < 32
    · simp [low, mask i inside, Nat.le_of_not_lt low]
    · have above : n.testBit i = false :=
        Nat.testBit_lt_two_pow (Nat.lt_of_lt_of_le word (Nat.pow_le_pow_right (by omega) (Nat.le_of_not_lt inside)))
      simp [low, above]

/-- An accepted write of ADAC_CTL stores MUTE. -/
theorem State.regBy_adacCtl (acc : s.accepts src Adr.ADAC_CTL v = true) : s.regBy src Adr.ADAC_CTL v = s.setFld Adr.ADAC_CTL 3 0 v := by
  have notCounter : adacCtlRow.isCounter = false := rfl
  rw [State.regBy, State.writeBy_accepted true regRow_adacCtl (by decide) (by decide) (by decide) acc,
    State.regApply_of_storesOnly s _ v (by decide +kernel), State.storeReg, notCounter, State.setFld, ← low_four_over (s.reg_lt _)]
  simp [adacCtlRow, Nat.and_assoc]

theorem exec_adacCtl_accepted (acc : s.accepts src Adr.ADAC_CTL value.toNat = true) :
    exec (.adacCtl src value) s = .next (s.setFld Adr.ADAC_CTL 3 0 value.toNat) := by
  change (s.run fun s => s.regBy src Adr.ADAC_CTL value.toNat) = _
  rw [State.run, State.regBy_adacCtl acc]
  rfl

/-! ### COUT_CTL -/

/-- The row of the control outputs' control registers (Table HI-8). -/
def coutCtlRow : RegRow := ⟨0x0200A000, 0x20, 8, 0, 1, 0x1ff, 0, 0, 0, 0, 0x100⟩

theorem regRow_coutCtl : ∀ c : Fin 8, regRow (Adr.COUT_CTL c.val) = some coutCtlRow := by decide +kernel

theorem State.regApply_coutCtl (s : State) (r : RegRow) (c : Fin 8) (v : Nat) : s.regApply r (Adr.COUT_CTL c.val) v = s.coutWrite c.val v := by
  have single : ∀ c : Fin 8, ∀ a ∈ actingRegs, Adr.COUT_CTL c.val ≠ a := by decide +kernel
  have array : ∀ c : Fin 8, (arrIx (Adr.COUT_CTL c.val) (Adr.SPE_DLCTL 0) 4 64).isSome = false ∧
      (arrIx (Adr.COUT_CTL c.val) (Adr.SPE_TAPCTL 0) 4 20).isSome = false ∧ arrIx (Adr.COUT_CTL c.val) (Adr.APORT_CSCTL 0) 0x100 8 = none ∧
      arrIx (Adr.COUT_CTL c.val) (Adr.COUT_CTL 0) 0x20 8 = some c.val := by decide +kernel
  replace single := single c
  simp only [actingRegs, List.forall_mem_cons] at single
  unfold State.regApply
  simp [single, array]

theorem exec_coutCtl_accepted (acc : s.accepts src (Adr.COUT_CTL c.val) value.toNat = true) :
    exec (.coutCtl src c value) s = .next (s.coutWrite c.val value.toNat) := by
  have row := regRow_coutCtl c
  obtain ⟨-, lo, hi⟩ := inRegBlocks_of_regRow row
  have code : ∀ c : Fin 8, codeReg (Adr.COUT_CTL c.val) = false := by decide +kernel
  have queue : (s.coutWrite c.val value.toNat).pending = s.pending := by
    unfold State.coutWrite
    dsimp only
    split <;> rfl
  change (s.run fun s => s.regBy src (Adr.COUT_CTL c.val) value.toNat) = _
  exact State.run_keeping ((State.writeBy_accepted true row lo hi (code c) acc).trans (s.regApply_coutCtl _ c _)) queue

/-- A change from RANGE 0 starts the channel afresh (R352). -/
theorem State.coutWrite_eq (s : State) (c v : Nat) : s.coutWrite c v =
    (if s.coutRange c = 0 ∧ v % 8 ≠ 0 then s.setCout c { s.cout c with sourced := false, coded := false } else s).setReg (Adr.COUT_CTL c) v := by
  simp [State.coutWrite, bits]

/-! ### DAC_FADE_END -/

/-- DAC k has a cause to fall, and no hard realignment holds its gain (R346). -/
def State.DacFalls (s : State) (k : Nat) : Prop :=
  (s.flag Adr.ADAC_CTL k = true ∨ s.retired (10 + k) = true ∨
    ¬ (s.presents = true ∧ s.power.trans = none ∧ s.power.held = false)) ∧ s.trail.realign < 2

theorem State.dacFalls_iff (s : State) (k : Nat) : s.DacFalls k ↔ s.dacCond k = false ∧ s.trail.realign < 2 := by
  refine and_congr_left fun _ => ?_
  rw [← Bool.not_eq_true (s.dacCond k)]
  simp only [State.dacCond, State.dacRun, Bool.and_eq_true, Bool.not_eq_true', Option.isNone_iff_eq_none]
  cases s.flag Adr.ADAC_CTL k <;> cases s.retired (10 + k) <;> simp

theorem exec_dacFadeEnd (s : State) (k : Fin 4) : exec (.dacFadeEnd k) s = s.run fun s => s.dacClose k.val := rfl

theorem exec_dacFadeEnd_falls (k : Fin 4) (falls : s.DacFalls k.val) (opened : (s.dac k.val).opened = true) (silent : (s.dac k.val).gain = 0) :
    exec (.dacFadeEnd k) s = .next (s.setDac k.val { s.dac k.val with opened := false }) := by
  obtain ⟨cause, aligned⟩ := (s.dacFalls_iff k.val).mp falls
  rw [exec_dacFadeEnd]
  exact State.run_keeping (if_pos (by simp [opened, silent, cause, aligned])) rfl

theorem exec_dacFadeEnd_idle (k : Fin 4) (idle : (s.dac k.val).opened = false ∨ (s.dac k.val).gain ≠ 0 ∨ ¬ s.DacFalls k.val) :
    exec (.dacFadeEnd k) s = .next s := by
  rw [exec_dacFadeEnd]
  refine State.run_same (f := fun s => s.dacClose k.val) (if_neg ?_)
  simp only [Bool.and_eq_true, Bool.not_eq_true', decide_eq_true_eq]
  rintro ⟨⟨⟨opened, silent⟩, cause⟩, aligned⟩
  rcases idle with closed | sounding | held
  · exact absurd (opened.symm.trans closed) (by decide)
  · exact sounding silent
  · exact held ((s.dacFalls_iff k.val).mpr ⟨cause, aligned⟩)

end Sys2Proof.Machine
end

/-!
SUPPORT. Errors and the retirement of an analogue output (R358 to R360, R440, R441, R444): what they leave of the registers and of the outputs.
-/
section
namespace Sys2Proof.Machine

variable {s t : State} {a c u cause : Nat}

/-! ### Registers beside -/

/-- Registers above the Voice Array's, but for the status of the audio ports, stand beside every record on a source ring. -/
theorem besidePosts_above (above : Adr.VOICE_HASHCTL < a) (noPort : ∀ p, a ≠ Adr.APORT_STAT p) : BesidePosts a := by
  have below : ∀ q, q < 12 → Adr.DSP_SRCLOST q < Adr.VOICE_HASHCTL := by unfold Adr.DSP_SRCLOST Adr.VOICE_HASHCTL; omega
  exact ⟨by omega, Nat.ne_of_gt (Nat.lt_trans (by decide) above), fun q source => Nat.ne_of_gt (Nat.lt_trans (below q source) above),
    fun _ => noPort⟩

theorem besidePosts_coutStat (c : Nat) : BesidePosts (Adr.COUT_STAT c) :=
  besidePosts_above (by unfold Adr.COUT_STAT Adr.VOICE_HASHCTL; omega) fun p => by unfold Adr.COUT_STAT Adr.APORT_STAT; omega

theorem besidePosts_retired : BesidePosts Adr.FAULT_RETIRED0 :=
  besidePosts_above (by decide) fun p => by unfold Adr.FAULT_RETIRED0 Adr.APORT_STAT; omega

/-- The error count of an output, unlike those of some other units, is no place where a port's status would stand. -/
theorem besidePosts_err (low : 10 ≤ u) (high : u < 22) : BesidePosts (Adr.FAULT_ERR u) :=
  besidePosts_above (by unfold Adr.FAULT_ERR Adr.VOICE_HASHCTL; omega) fun p => by unfold Adr.FAULT_ERR Adr.APORT_STAT; omega

/-- A register that neither records nor the retirement of an output change, FAULT_RETIRED0 aside. -/
structure BesideRetirement (a : Nat) : Prop where
  posts : BesidePosts a
  irq : a ≠ Adr.HOST_IRQ
  log : a ≠ Adr.PACK_LOGLOST
  stat : ∀ c, c < 8 → a ≠ Adr.COUT_STAT c

theorem besideRetirement_retired : BesideRetirement Adr.FAULT_RETIRED0 :=
  ⟨besidePosts_retired, by decide, by decide, fun c output => by unfold Adr.FAULT_RETIRED0 Adr.COUT_STAT; omega⟩

theorem besideRetirement_err (low : 10 ≤ u) (high : u < 22) : BesideRetirement (Adr.FAULT_ERR u) :=
  ⟨besidePosts_err low high, by unfold Adr.FAULT_ERR Adr.HOST_IRQ; omega, by unfold Adr.FAULT_ERR Adr.PACK_LOGLOST; omega,
    fun c output => by unfold Adr.FAULT_ERR Adr.COUT_STAT; omega⟩

/-! ### Records of a retirement -/

theorem State.reg_logFault_other (other : a ≠ Adr.PACK_LOGLOST) (type engine status x y z : Nat) :
    (s.logFault type engine status x y z).reg a = s.reg a := by
  unfold State.logFault
  dsimp only
  split
  · rfl
  · exact s.reg_count_other other

@[simp] theorem State.logFault_ana (s : State) (type engine status x y z : Nat) : (s.logFault type engine status x y z).ana = s.ana := by
  unfold State.logFault
  dsimp only
  split
  · rfl
  · rw [State.count, State.countBy_eq_setReg, State.setReg_ana]

theorem State.reg_postFault (beside : BesidePosts a) (notIrq : a ≠ Adr.HOST_IRQ) (code engine status x y : Nat) :
    (s.postFault code engine status x y).reg a = s.reg a :=
  ((State.posts_post (by decide) _).reg a beside).trans (s.reg_raise_other notIrq _)

@[simp] theorem State.postFault_ana (s : State) (code engine status x y : Nat) : (s.postFault code engine status x y).ana = s.ana := by
  rw [State.postFault, (State.posts_post (by decide) _).ana, State.raise_ana]

/-- The fault-log record and the FAULT record of a retirement. -/
def State.reportRetired (s : State) (u cause : Nat) : State :=
  let t := s.drawStatus.2.logFault 0x06 (unitOf u).1 s.drawStatus.1 (unitOf u).2 0 cause
  t.drawStatus.2.postFault 0x05 (unitOf u).1 t.drawStatus.1 cause (unitOf u).2

theorem State.reg_reportRetired (beside : BesideRetirement a) : (s.reportRetired u cause).reg a = s.reg a :=
  (State.reg_postFault beside.posts beside.irq _ _ _ _ _).trans (State.reg_logFault_other (s := s.drawStatus.2) beside.log _ _ _ _ _ _)

@[simp] theorem State.reportRetired_ana (s : State) (u cause : Nat) : (s.reportRetired u cause).ana = s.ana :=
  (State.postFault_ana _ _ _ _ _ _).trans (s.drawStatus.2.logFault_ana _ _ _ _ _ _)

/-! ### Retirement -/

theorem State.retired_output (s : State) (high : u < 22) : s.retired u = s.flag Adr.FAULT_RETIRED0 u := if_pos (by omega)

theorem State.retireNow_output (s : State) (high : u < 22) (cause : Nat) :
    s.retireNow u cause = ((s.setFlag Adr.FAULT_RETIRED0 u true).takeOut u).reportRetired u cause := by
  have marked : s.setRetired u true = s.setFlag Adr.FAULT_RETIRED0 u true := if_pos (by omega)
  rw [← marked]
  exact if_neg (by simp; omega)

theorem State.retireUnit_output (s : State) (high : u < 22) (sound : s.retired u = false) (cause : Nat) :
    s.retireUnit u cause = s.retireNow u cause := by
  rw [State.retireUnit, if_neg (ne_true_of_eq_false sound)]
  exact if_neg (by simp; omega)

/-- A DAC closes its mute switch and posts its record. -/
theorem State.takeOut_dac (s : State) (low : 10 ≤ u) (high : u < 14) : s.takeOut u =
    ((s.setDac (u - 10) { s.dac (u - 10) with opened := false, gain := 0 }).raise Cause.ana).anaPost 0x05 (u - 10) 0 0 := by
  have place : (unitOf u).2 = u - 10 := by
    rw [unitOf, if_neg (by omega), if_neg (by omega), if_pos high]
  rw [State.takeOut, if_neg (by omega), if_neg (by omega), if_pos high, place]

/-- A control output goes off and posts its record. -/
theorem State.takeOut_cout (s : State) (low : 14 ≤ u) (high : u < 22) : s.takeOut u =
    (((s.setCout (u - 14) Cout.off).setFlag (Adr.COUT_STAT (u - 14)) 19 false).raise Cause.ana).anaPost 0x05 (8 + (u - 14)) 0 0 := by
  have place : (unitOf u).2 = u - 14 := by
    rw [unitOf, if_neg (by omega), if_neg (by omega), if_neg (by omega), if_pos high]
  rw [State.takeOut, if_neg (by omega), if_neg (by omega), if_neg (by omega), if_pos high, place]

theorem State.reg_takeOut_output (low : 10 ≤ u) (high : u < 22) (beside : BesideRetirement a) : (s.takeOut u).reg a = s.reg a := by
  by_cases dac : u < 14
  · rw [State.takeOut_dac s low dac, (State.posts_anaPost _ _ _ _ _).reg a beside.posts, State.reg_raise_other _ beside.irq]
    rfl
  · rw [State.takeOut_cout s (by omega) high, (State.posts_anaPost _ _ _ _ _).reg a beside.posts, State.reg_raise_other _ beside.irq,
      State.reg_setFlag_other _ (beside.stat _ (by omega))]
    rfl

theorem State.reg_retireNow_output (low : 10 ≤ u) (high : u < 22) (beside : BesideRetirement a) (unmarked : a ≠ Adr.FAULT_RETIRED0) :
    (s.retireNow u cause).reg a = s.reg a := by
  rw [State.retireNow_output s high, State.reg_reportRetired beside, State.reg_takeOut_output low high beside,
    State.reg_setFlag_other _ unmarked]

theorem State.retired_retireNow (low : 10 ≤ u) (high : u < 22) : (s.retireNow u cause).retired u = true := by
  have marked := s.flag_setFlag Adr.FAULT_RETIRED0 u true (by omega)
  rw [State.retired_output _ high, State.retireNow_output s high, State.flag, State.reg_reportRetired besideRetirement_retired,
    State.reg_takeOut_output low high besideRetirement_retired]
  exact marked

/-- Of the analogue outputs, the retirement of a control output changes this one alone. -/
theorem State.ana_retireNow_cout (s : State) (low : 14 ≤ u) (high : u < 22) : (s.retireNow u cause).ana = (s.setCout (u - 14) Cout.off).ana := by
  rw [State.retireNow_output s high, State.reportRetired_ana, State.takeOut_cout _ low high, (State.posts_anaPost _ _ _ _ _).ana]
  rfl

theorem State.cout_retireNow (output : c < 8) (inside : c < s.ana.couts.length) (cause : Nat) :
    (s.retireNow (14 + c) cause).cout c = Cout.off := by
  have off := s.ana_retireNow_cout (u := 14 + c) (cause := cause) (by omega) (by omega)
  rw [Nat.add_sub_cancel_left] at off
  rw [State.cout_congr off, State.cout_setCout_same inside]

theorem State.cout_retireNow_other {k : Nat} (output : c < 8) (other : k ≠ c) (cause : Nat) :
    (s.retireNow (14 + c) cause).cout k = s.cout k := by
  have off := s.ana_retireNow_cout (u := 14 + c) (cause := cause) (by omega) (by omega)
  rw [Nat.add_sub_cancel_left] at off
  rw [State.cout_congr off, State.cout_setCout_other other]

/-! ### One error (R440, R441) -/

theorem State.count_ana (s : State) (a : Nat) : (s.count a).ana = s.ana := by
  rw [State.count, State.countBy_eq_setReg, State.setReg_ana]

/-- An error of an output that is not retired counts, in the registers alone; the unit may be retired for it. -/
theorem State.unitError_cases (high : u < 22) (sound : s.retired u = false) : ∃ t : State,
    (s.unitError u = t ∨ s.unitError u = t.retireUnit u 1) ∧ t.regs = (s.count (Adr.FAULT_ERR u)).regs ∧ t.ana = s.ana := by
  unfold State.unitError
  rw [if_neg (by simp [sound]; omega)]
  dsimp only
  split
  next =>
    split
    next => exact ⟨_, .inr rfl, rfl, s.count_ana _⟩
    next => exact ⟨_, .inl rfl, rfl, s.count_ana _⟩
  next => exact ⟨_, .inl rfl, rfl, s.count_ana _⟩

theorem retired0_ne_err (u : Nat) : Adr.FAULT_RETIRED0 ≠ Adr.FAULT_ERR u := by unfold Adr.FAULT_RETIRED0 Adr.FAULT_ERR; omega

/-- An error leaves the node with the count, and the unit either sound still or retired now. -/
theorem State.unitError_output (high : u < 22) (sound : s.retired u = false) : ∃ t : State,
    (s.unitError u = t ∨ s.unitError u = t.retireNow u 1) ∧ t.ana = s.ana ∧ t.retired u = false ∧
      ∀ a, t.reg a = (s.count (Adr.FAULT_ERR u)).reg a := by
  obtain ⟨t, outcome, regs, ana⟩ := State.unitError_cases high sound
  have reg := State.reg_congr regs
  have still : t.retired u = false := by
    rw [← sound, State.retired_output _ high, State.retired_output _ high, State.flag, reg, State.reg_count_other _ (retired0_ne_err u)]
    rfl
  rw [State.retireUnit_output _ high still] at outcome
  exact ⟨t, outcome, ana, still, reg⟩

/-- The error counts, whatever becomes of the unit. -/
theorem State.reg_err_unitError (low : 10 ≤ u) (high : u < 22) (sound : s.retired u = false) (room : s.reg (Adr.FAULT_ERR u) < 2 ^ 31 - 1) :
    (s.unitError u).reg (Adr.FAULT_ERR u) = s.reg (Adr.FAULT_ERR u) + 1 := by
  obtain ⟨t, outcome, -, -, reg⟩ := State.unitError_output high sound
  have counted := (reg _).trans (s.reg_count room)
  rcases outcome with kept | retired
  · rw [kept, counted]
  · rw [retired, State.reg_retireNow_output low high (besideRetirement_err low high) (retired0_ne_err u).symm, counted]

/-- The one error that a command meets is charged. -/
theorem State.settle_noteErr (none : s.flt.errs = []) (u : Nat) : (s.noteErr u).settle = s.unitError u := by
  have cleared : ({ s.noteErr u with flt := { (s.noteErr u).flt with errs := [] } } : State) = s := by
    show { s with flt := { s.flt with errs := [] } } = s
    rw [← none]
  rw [State.settle, cleared, State.noteErr_flt, none]
  rfl

end Sys2Proof.Machine
end

/-!
SUPPORT. OUTPUT_SHORT, COMPL, COMPLCLR and COMPL_PERSIST (R358, R359).
-/
section
namespace Sys2Proof.Machine

variable {s t v : State} {a u : Nat} {c : Fin 8}

theorem State.Posts.retired_output (h : s.Posts t) (high : u < 22) : t.retired u = s.retired u := by
  rw [State.retired_output _ high, State.retired_output _ high, h.flag besidePosts_retired]

/-! ### OUTPUT_SHORT -/

theorem exec_outputShort (s : State) (o : OutUnit) : exec (.outputShort o) s = s.run fun s => (s.clean.outputShort o).settle := rfl

/-- The unit of an analogue output (Table FE-1). -/
theorem outUnit_range (o : OutUnit) : 10 ≤ outUnit o ∧ outUnit o < 22 := by
  cases o <;> simp only [outUnit] <;> omega

/-- A current limit is recorded, and counts an error of its unit. -/
theorem exec_outputShort_charges {o : OutUnit} (sound : s.retired (outUnit o) = false) (posts : s.clean.Posts v)
    (effect : s.clean.outputShort o = v.noteErr (outUnit o)) : ∃ t, exec (.outputShort o) s = .next t ∧
      (s.reg (Adr.FAULT_ERR (outUnit o)) < 2 ^ 31 - 1 → t.reg (Adr.FAULT_ERR (outUnit o)) = s.reg (Adr.FAULT_ERR (outUnit o)) + 1) := by
  obtain ⟨low, high⟩ := outUnit_range o
  have before : v.reg (Adr.FAULT_ERR (outUnit o)) = s.reg (Adr.FAULT_ERR (outUnit o)) := posts.reg _ (besidePosts_err low high)
  have settled : (s.clean.outputShort o).settle = v.unitError (outUnit o) := by
    rw [effect, State.settle_noteErr (by rw [posts.flt]; rfl)]
  refine ⟨_, by rw [exec_outputShort, State.run, settled], fun room => ?_⟩
  rw [State.reg_queued, State.reg_err_unitError low high ((posts.retired_output high).trans sound) (by rwa [before]), before]

theorem exec_outputShort_idle {o : OutUnit} (idle : s.clean.outputShort o = s.clean) : exec (.outputShort o) s = .next s.clean := by
  rw [exec_outputShort]
  exact State.run_keeping (by rw [idle, State.settle_of_no_errors rfl]) rfl

theorem State.outputShort_dac {k : Fin 4} (opened : (s.dac k.val).opened = true) (sound : s.retired (10 + k.val) = false) :
    s.outputShort (.aout k) = (s.anaPost 0x03 k.val 0 0).noteErr (10 + k.val) :=
  if_pos (by simp [opened, sound])

theorem State.outputShort_cout (voltage : (s.cout c.val).range = 1 ∨ (s.cout c.val).range = 2) (sound : s.retired (14 + c.val) = false) :
    s.outputShort (.cout c) = (s.anaPost 0x03 (8 + c.val) 0 0).noteErr (14 + c.val) :=
  if_pos (by simpa [sound] using voltage)

/-! ### COMPL -/

theorem exec_compl (s : State) (c : Fin 8) : exec (.compl c) s = s.run fun s => (s.clean.complOn c.val).settle := rfl

/-- COMPL of output c is set now, before its record. -/
def State.complSet (s : State) (c : Nat) : State :=
  ((s.setCout c { s.cout c with complAt := s.clk }).setFlag (Adr.COUT_STAT c) 19 true).raise Cause.ana

theorem State.complSet_flag (s : State) (c : Nat) : (s.complSet c).flag (Adr.COUT_STAT c) 19 = true := by
  rw [State.flag, State.complSet, State.reg_raise_other _ (by unfold Adr.COUT_STAT Adr.HOST_IRQ; omega)]
  exact State.flag_setFlag _ (Adr.COUT_STAT c) 19 true (by decide)

theorem State.reg_complSet_other {c : Nat} (notStat : a ≠ Adr.COUT_STAT c) (notIrq : a ≠ Adr.HOST_IRQ) : (s.complSet c).reg a = s.reg a := by
  rw [State.complSet, State.reg_raise_other _ notIrq, State.reg_setFlag_other _ notStat]
  rfl

theorem State.complSet_ana (s : State) (c : Nat) : (s.complSet c).ana = (s.setCout c { s.cout c with complAt := s.clk }).ana := by
  rw [State.complSet, State.raise_ana, State.setFlag_ana]

/-- A current output that drives at least 1 % at its compliance limit, with COMPL not yet set (Table AO-4). -/
structure State.Complies (s : State) (c : Nat) : Prop where
  current : (s.cout c).range = 3 ∨ (s.cout c).range = 4
  unset : s.flag (Adr.COUT_STAT c) 19 = false
  sound : s.retired (14 + c) = false
  drives : 65535 < 100 * (s.cout c).out

theorem State.Complies.complOn {c : Nat} (h : s.Complies c) :
    ∃ v, s.complOn c = v.noteErr (14 + c) ∧ (s.complSet c).Posts v := by
  refine ⟨_, if_pos ?_, State.posts_anaPost _ _ _ _ _⟩
  simpa [h.unset, h.sound, h.drives] using h.current

theorem exec_compl_idle (idle : ¬ ((s.cout c.val).range = 3 ∨ (s.cout c.val).range = 4) ∨ s.flag (Adr.COUT_STAT c.val) 19 = true ∨
    100 * (s.cout c.val).out ≤ 65535) : exec (.compl c) s = .next s.clean := by
  have same : s.clean.complOn c.val = s.clean := by
    refine if_neg ?_
    simp only [Bool.and_eq_true, Bool.or_eq_true, Bool.not_eq_true', decide_eq_true_eq]
    rintro ⟨⟨⟨current, unset⟩, -⟩, drives⟩
    rcases idle with voltage | set | weak
    · exact voltage current
    · exact absurd (set.symm.trans unset) (by decide)
    · exact absurd drives (Nat.not_lt.mpr weak)
  rw [exec_compl]
  exact State.run_keeping (by rw [same, State.settle_of_no_errors rfl]) rfl

/-- COMPL counts an error of the output; it stands set, or the error has retired the output, which is off. -/
theorem exec_compl_complies (shaped : s.shaped = true) (h : s.clean.Complies c.val) : ∃ t, exec (.compl c) s = .next t ∧
    (s.reg (Adr.FAULT_ERR (14 + c.val)) < 2 ^ 31 - 1 → t.reg (Adr.FAULT_ERR (14 + c.val)) = s.reg (Adr.FAULT_ERR (14 + c.val)) + 1) ∧
    (t.retired (14 + c.val) = false →
      t.flag (Adr.COUT_STAT c.val) 19 = true ∧ t.cout c.val = { s.cout c.val with complAt := s.clk }) ∧
    (t.retired (14 + c.val) = true → t.cout c.val = Cout.off) := by
  have inside : c.val < s.ana.couts.length := by rw [State.couts_of_shaped shaped]; exact c.isLt
  have low : 10 ≤ 14 + c.val := by omega
  have high : 14 + c.val < 22 := by omega
  obtain ⟨v, effect, posts⟩ := h.complOn
  have settled : (s.clean.complOn c.val).settle = v.unitError (14 + c.val) := by
    rw [effect, State.settle_noteErr (by rw [posts.flt]; rfl)]
  have before : v.reg (Adr.FAULT_ERR (14 + c.val)) = s.reg (Adr.FAULT_ERR (14 + c.val)) :=
    (posts.reg _ (besidePosts_err low high)).trans
      (State.reg_complSet_other ((besideRetirement_err low high).stat _ c.isLt) (besideRetirement_err low high).irq)
  have sound : v.retired (14 + c.val) = false := by
    rw [posts.retired_output high, State.retired_output _ high, State.flag,
      State.reg_complSet_other (besideRetirement_retired.stat _ c.isLt) besideRetirement_retired.irq]
    exact (State.retired_output s high).symm.trans h.sound
  obtain ⟨w, outcome, ana, still, reg⟩ := State.unitError_output high sound
  have outputs := (ana.trans posts.ana).trans (s.clean.complSet_ana c.val)
  refine ⟨_, by rw [exec_compl, State.run, settled], fun room => ?_, ?_⟩
  · rw [State.reg_queued, State.reg_err_unitError low high sound (by rwa [before]), before]
  · rcases outcome with kept | retired
    · rw [kept]
      refine ⟨fun _ => ⟨?_, ?_⟩, fun gone => absurd (gone.symm.trans still) (by decide)⟩
      · have stat : w.reg (Adr.COUT_STAT c.val) = (s.clean.complSet c.val).reg (Adr.COUT_STAT c.val) := by
          rw [reg, State.reg_count_other _ ((besideRetirement_err low high).stat _ c.isLt).symm, posts.reg _ (besidePosts_coutStat _)]
        rw [State.flag_queued, State.flag, stat]
        exact State.complSet_flag _ _
      · exact (State.cout_congr outputs _).trans (State.cout_setCout_same (s := s.clean) inside _)
    · rw [retired]
      refine ⟨fun sane => absurd (sane.symm.trans (State.retired_retireNow low high)) (by decide), fun _ => ?_⟩
      exact State.cout_retireNow c.isLt (by rw [outputs, State.length_couts_setCout]; exact inside) 1

/-! ### COMPLCLR -/

theorem exec_complclr (s : State) (c : Fin 8) : exec (.complclr c) s = s.run fun s => s.complOff c.val := rfl

theorem exec_complclr_set (set : s.flag (Adr.COUT_STAT c.val) 19 = true) :
    ∃ t, exec (.complclr c) s = .next t ∧ (s.setFlag (Adr.COUT_STAT c.val) 19 false).Posts t := by
  have posts := (s.setFlag (Adr.COUT_STAT c.val) 19 false).posts_anaPost 0x02 (8 + c.val) 0 0
  rw [exec_complclr]
  exact ⟨_, State.run_keeping (if_pos set) posts.pending, posts⟩

theorem exec_complclr_unset (unset : s.flag (Adr.COUT_STAT c.val) 19 = false) : exec (.complclr c) s = .next s := by
  rw [exec_complclr]
  exact State.run_same (f := fun s => s.complOff c.val) (if_neg (ne_true_of_eq_false unset))

/-! ### COMPL_PERSIST -/

theorem exec_complPersist (s : State) (c : Fin 8) : exec (.complPersist c) s =
    s.run fun s => if s.complLong c.val then s.retireUnit (14 + c.val) 3 else s := rfl

theorem exec_complPersist_short (short : s.flag (Adr.COUT_STAT c.val) 19 = false ∨
    s.clk + s.usTicks 100 < (s.cout c.val).complAt + s.msTicks 1000) : exec (.complPersist c) s = .next s := by
  rw [exec_complPersist]
  refine State.run_same (f := fun s => if s.complLong c.val then s.retireUnit (14 + c.val) 3 else s) (if_neg ?_)
  simp only [State.complLong, Bool.and_eq_true, decide_eq_true_eq]
  rintro ⟨set, long⟩
  rcases short with unset | early
  · exact absurd (set.symm.trans unset) (by decide)
  · exact absurd long (Nat.not_le.mpr early)

/-- A condition that has lasted 1 s retires the output, which goes off (R359, R360). -/
theorem exec_complPersist_long (shaped : s.shaped = true) (sound : s.retired (14 + c.val) = false)
    (set : s.flag (Adr.COUT_STAT c.val) 19 = true) (long : (s.cout c.val).complAt + s.msTicks 1000 ≤ s.clk + s.usTicks 100) :
    ∃ t, exec (.complPersist c) s = .next t ∧ t.retired (14 + c.val) = true ∧ t.cout c.val = Cout.off ∧
      ∀ k, k ≠ c.val → t.cout k = s.cout k := by
  have inside : c.val < s.ana.couts.length := by rw [State.couts_of_shaped shaped]; exact c.isLt
  have low : 10 ≤ 14 + c.val := by omega
  have high : 14 + c.val < 22 := by omega
  have retires : (if s.complLong c.val then s.retireUnit (14 + c.val) 3 else s) = s.retireNow (14 + c.val) 3 := by
    rw [if_pos (by simp [State.complLong, set, long]), State.retireUnit_output s high sound]
  exact ⟨(s.retireNow (14 + c.val) 3).queued s.pending, by rw [exec_complPersist, State.run, retires],
    State.retired_retireNow (s := s) low high, State.cout_retireNow c.isLt inside 3, fun k other => State.cout_retireNow_other c.isLt other 3⟩

end Sys2Proof.Machine
end

/-!
The analogue outputs (R346, R349, R352 to R354, R358, R359), where records tell no audio port of a dropped write.
-/
section
namespace Sys2Proof.Machine

variable {s t : State} {e : Cout} {c : Nat}

/-- Records change no other registers where no write of the Dispatcher meets others. -/
theorem State.Posts.regsBut (apart : ¬ DispatcherMeets) (h : s.Posts t) (l : List Nat) : Claims.regsBut s t l :=
  fun a _ _ hash collision lost => h.reg a ⟨hash, collision, lost, fun meets => absurd meets apart⟩

/-- What a change of one output and records leave. -/
theorem State.Posts.ends (apart : ¬ DispatcherMeets) (inside : c < s.ana.couts.length) (h : (s.setCout c e).Posts t) :
    Claims.onlyPosts { s with ana := t.ana } t ∧ Claims.regsBut s t [] ∧ t.cout c = e ∧ (∀ k, k ≠ c → t.cout k = s.cout k) ∧
      t.ana.dacs = s.ana.dacs := by
  refine ⟨?_, h.regsBut apart [], by rw [h.cout, State.cout_setCout_same inside],
    fun k other => by rw [h.cout, State.cout_setCout_other other], by rw [h.ana]; rfl⟩
  rw [h.ana]
  exact h.only

/-- Where no write of the Dispatcher meets others in one FCLK cycle, O44 holds. -/
theorem outputsMoveAndFaultByTheirRules_of_not_dispatcherMeets (apart : ¬ DispatcherMeets) : Obligations.OutputsMoveAndFaultByTheirRules := by
  unfold Obligations.OutputsMoveAndFaultByTheirRules
  refine ⟨fun s src c value => ⟨exec_adacCtl_accepted, fun acc => ?control, fun k => ⟨?falls, exec_dacFadeEnd_idle k⟩, ?steps,
      exec_rangeClampEnd_idle c⟩,
    fun s => ⟨fun k => ⟨?shortDac, fun closed => ?closedDac⟩,
      fun c => ⟨?shortCout, fun current => ?noVoltage, ?compl, exec_compl_idle, fun set => ?clears,
        fun unset => ⟨exec_complclr_unset unset, exec_complPersist_short (.inl unset)⟩,
        fun set sound shaped => ⟨exec_complPersist_long shaped sound set, fun early => exec_complPersist_short (.inr early)⟩⟩⟩⟩
  case control => rw [exec_coutCtl_accepted acc, State.coutWrite_eq]
  case falls => exact fun falls opened silent => exec_dacFadeEnd_falls k falls opened silent
  case steps =>
    intro l n o due ends
    have step (h : due) : s.StepDue c.val := ⟨h.1, h.2.1, h.2.2.1, h.2.2.2⟩
    have ended (e : Cout) (t : State) (inside : c.val < s.ana.couts.length) (h : (s.setCout c.val e).Posts t) : ends t e := h.ends apart inside
    refine ⟨fun h rest range on => ⟨?limited, ?near, moveTo_up (n := n), moveTo_down (n := n)⟩, fun h rest free => ?unlimited,
      fun h moving => ⟨fun short => ?toZero, fun there range => ?clamps, fun there range => ?disconnects⟩,
      fun h moving => ⟨fun short => ?toTarget, fun there => ?arrives⟩, fun since h clamped early => ?clamped, exec_slewStep_not_due c,
      fun since clamped shaped => ?clampEnd⟩
    case limited => exact (step h).exec (State.stepAt_limited (step h).inside rest range on _) rfl
    case near =>
      rw [← State.slew_limited on]
      exact moveTo_near _ _ _
    case unlimited => exact (step h).exec (State.stepAt_unlimited rest free _) rfl
    case toZero => exact (step h).exec (State.stepAt_toZero_on_its_way (step h).inside moving short _) rfl
    case clamps => exact (step h).exec (State.stepAt_toZero_clamps (step h).inside moving there range _) rfl
    case disconnects =>
      have posts := State.stepAt_toZero_disconnects (step h).inside moving there range s.time
      exact ⟨_, (step h).exec rfl posts.pending, ended _ _ (step h).inside posts⟩
    case toTarget => exact (step h).exec (State.stepAt_toTarget_on_its_way (step h).inside moving short _) rfl
    case arrives =>
      have posts := State.stepAt_toTarget_ends (step h).inside moving there s.time
      exact ⟨_, (step h).exec rfl posts.pending, ended _ _ (step h).inside posts⟩
    case clamped => exact (step h).exec (State.stepAt_clamp clamped early) rfl
    case clampEnd =>
      have inside : c.val < s.ana.couts.length := by rw [State.couts_of_shaped shaped]; exact c.isLt
      have posts := State.clampEnd_posts inside clamped s.time
      exact ⟨_, by rw [exec_rangeClampEnd]; exact State.run_keeping rfl posts.pending, ended _ _ inside posts⟩
  case shortDac =>
    exact fun opened sound => exec_outputShort_charges (o := .aout k) sound (State.posts_anaPost _ _ _ _ _)
      (State.outputShort_dac (s := s.clean) opened sound)
  case closedDac =>
    have closed' : (s.clean.dac k.val).opened = false := closed
    exact exec_outputShort_idle (o := .aout k) (if_neg (by simp [closed']))
  case shortCout =>
    exact fun voltage sound => exec_outputShort_charges (o := .cout c) sound (State.posts_anaPost _ _ _ _ _)
      (State.outputShort_cout (s := s.clean) voltage sound)
  case noVoltage =>
    have current' : ¬ ((s.clean.cout c.val).range = 1 ∨ (s.clean.cout c.val).range = 2) := current
    exact exec_outputShort_idle (o := .cout c) (if_neg (by simpa using fun voltage => absurd voltage current'))
  case compl => exact fun current unset sound drives shaped => exec_compl_complies shaped ⟨current, unset, sound, drives⟩
  case clears =>
    obtain ⟨t, answer, posts⟩ := exec_complclr_set set
    refine ⟨t, answer, ?_, posts.only, fun a unlisted irq hash collision lost => ?_⟩
    · rw [posts.flag (besidePosts_coutStat _), State.flag_setFlag _ _ _ _ (by decide)]
    · rw [posts.regsBut apart [] a List.not_mem_nil irq hash collision lost]
      exact s.reg_setFlag_other (fun same => unlisted (by simp [same])) 19 false

end Sys2Proof.Machine
end

/-!
SUPPORT. A record whose entry meets a group of writes has them ranked again: where the group holds an audio port's write that now counts as
dropped, the port's COL is set (R241, R242).
-/
section
namespace Sys2Proof.Machine

variable {s : State} {p : Nat} {x : LaneWrite} {g : WordGroup}

/-- Audio port p has been told of a dropped write (COL). -/
abbrev State.portTold (s : State) (p : Nat) : Prop := s.flag (Adr.APORT_STAT p) 6 = true

theorem State.portTold_setReg_other {a : Nat} (told : s.portTold p) (other : Adr.APORT_STAT p ≠ a) (v : Nat) : (s.setReg a v).portTold p := by
  rw [State.portTold, State.flag, State.reg_setReg_other _ other]
  exact told

/-- A port that has been told stays so. -/
theorem State.portTold_tellLost (told : s.portTold p) (x : LaneWrite) : (s.tellLost x).portTold p := by
  have kept := State.portTold_setReg_other told (a := Adr.BASIN_COLFLAG) (by unfold Adr.APORT_STAT Adr.BASIN_COLFLAG; omega)
    (putBit (s.reg Adr.BASIN_COLFLAG) x.master true)
  unfold State.tellLost
  dsimp only
  split
  · by_cases same : x.port = p
    · rw [same]
      exact State.flag_setFlag _ _ 6 true (by decide)
    · exact State.portTold_setReg_other kept (by unfold Adr.APORT_STAT; omega) _
  · exact kept

theorem State.portTold_tellLost_same (port : x.master = Master.aport) : (s.tellLost x).portTold x.port := by
  unfold State.tellLost
  dsimp only
  rw [if_pos port]
  exact State.flag_setFlag _ _ 6 true (by decide)

theorem State.portTold_setRing (told : s.portTold p) (q : Nat) (r : SrcRing) : (s.setRing q r).portTold p := told

theorem State.portTold_memPut (told : s.portTold p) (a : Nat) (l : List Byte) : (s.memPut a l).portTold p := by
  rw [State.portTold, State.flag, State.memPut_reg_other (by unfold Adr.APORT_STAT Adr.VOICE_HASHCTL; omega)]
  exact told

theorem State.portTold_foldl_tellLost (told : s.portTold p) (l : List LaneWrite) : (l.foldl (fun s x => s.tellLost x) s).portTold p :=
  List.foldlRecOn (motive := fun t : State => t.portTold p) l _ told fun _ kept x _ => State.portTold_tellLost kept x

/-- Every port of a list of dropped writes is told. -/
theorem State.portTold_of_mem {l : List LaneWrite} (mem : x ∈ l) (port : x.master = Master.aport) :
    (l.foldl (fun s x => s.tellLost x) s).portTold x.port := by
  obtain ⟨before, after, rfl⟩ := List.append_of_mem mem
  rw [List.foldl_append, List.foldl_cons]
  exact State.portTold_foldl_tellLost (State.portTold_tellLost_same port) after

theorem State.portTold_putPart (told : s.portTold p) (master port a : Nat) (l : List Byte) : (s.putPart master port a l).2.portTold p := by
  unfold State.putPart
  dsimp only
  split
  · exact State.portTold_memPut (s := s.setGroup _) told _ _
  · exact State.portTold_foldl_tellLost (State.portTold_memPut (s := s.setGroup _) told _ _) _

/-- A write that meets a group tells the port of a write of the group that is dropped now and was not before. -/
theorem State.portTold_putPart_meets {master port a : Nat} {l : List Byte}
    (found : s.basin.groups.find? (fun h => h.open s.clk (a / 4) master && Config.sameCycle s.clk (a / 4) master) = some g)
    (dropped : x ∈ resolveGroup [] (rankIn ⟨master, port, lanesOf a l, false⟩ g.writes)) (lost : x.lost = true) (new : x ∉ g.writes)
    (isPort : x.master = Master.aport) : (s.putPart master port a l).2.portTold x.port := by
  unfold State.putPart
  simp only [found]
  exact State.portTold_of_mem (List.mem_filter.mpr ⟨dropped, by simp [lost, new]⟩) isPort

/-- So does a write of more words whose first word meets the group. -/
theorem State.portTold_basinPut {master port a b : Nat} {l m : List Byte} {rest : List (Nat × List Byte)}
    (parts : memParts a l = (b, m) :: rest) (told : (s.putPart master port b m).2.portTold p) : (s.basinPut master port a l).2.portTold p := by
  rw [State.basinPut, parts, List.foldl_cons]
  exact List.foldlRecOn (motive := fun r : Bool × State => r.2.portTold p) rest _ told
    fun _ kept _ _ => State.portTold_putPart kept _ _ _ _

/-- And so does the record of a source that takes it. -/
theorem State.portTold_post {q : Nat} {record : List Byte} (on : s.flag (Adr.DSP_SRCCFG q) 15 = true)
    (free : (s.ring q).occupied.contains ((s.ring q).wr % 2 ^ s.fld (Adr.DSP_SRCCFG q) 19 16) = false)
    (told : (s.basinPut Master.disp 0 (s.ringAddr q ((s.ring q).wr % 2 ^ s.fld (Adr.DSP_SRCCFG q) 19 16)) (record ++ natLE 8 s.time ++
      natLE 2 (Nat.min (s.ring q).lost 65535) ++ natLE 1 q ++ [0] ++ natLE 4 (s.ring q).seq)).2.portTold p) : (s.post q record).portTold p := by
  have entered : (s.writeEntry q ((s.ring q).wr % 2 ^ s.fld (Adr.DSP_SRCCFG q) 19 16) record).portTold p :=
    State.portTold_setRing told _ _
  rw [State.post, State.offer, if_neg (by simp [on])]
  dsimp only
  rw [if_neg (ne_true_of_eq_false free)]
  exact State.portTold_setRing entered _ _

end Sys2Proof.Machine
end

/-!
The free value that decides O44. Its clauses on the ends of range sequences and on COMPLCLR let a record change no register but those of
Claims.regsBut, which names BASIN_COLFLAG and not the ports' APORT_STAT. In a node whose group at the word of the record's entry holds two clashing
writes, the lower one a port's and not marked as dropped, the record has the port told where it meets them in one FCLK cycle (R241).
-/
section
namespace Sys2Proof.Machine

/-- Word 0 with a write of the Trail and a clashing one of audio port 0, not marked as dropped. -/
def clashingGroup : WordGroup := ⟨0, 0, [0, 0, 0, 0], [⟨Master.trail, 0, [some 1], false⟩, ⟨Master.aport, 0, [some 2], false⟩]⟩

/-- After a reset: output 0 in its clamp with RANGE 0, the ANA source enabled with its ring at address 0, and the clashing writes there. -/
def clashingNode : State :=
  let s := (State.reset.setReg (Adr.DSP_SRCCFG 8) 0x8000).setCout 0 { Cout.off with seq := .clamp 0 }
  { s with basin := { s.basin with groups := [clashingGroup] } }

theorem clashingNode_clamped : (clashingNode.cout 0).seq = .clamp 0 ∧ clashingNode.shaped = true ∧
    clashingNode.flag (Adr.APORT_STAT 0) 6 = false := by decide +kernel

/-- The node at the end of the range sequence, before its record. -/
def clashingEnd : State := clashingNode.setCout 0 Cout.off

/-- The record's entry: RANGEDONE of channel 8 at time 0, in a ring that is empty. -/
def clashingEntry : List Byte := record16 0x04 8 0 0 0 0 ++ natLE 8 0 ++ natLE 2 0 ++ natLE 1 8 ++ [0] ++ natLE 4 0

theorem clashingNode_clampEnd : clashingNode.clampEnd 0 0 = clashingEnd.anaPostAt 0x04 8 0 0 0 := rfl

theorem clashingEnd_source : clashingEnd.flag (Adr.DSP_SRCCFG 8) 15 = true ∧ clashingEnd.ring 8 = SrcRing.empty ∧
    clashingEnd.ringAddr 8 0 = 0 := by decide +kernel

theorem memParts_clashingEntry : memParts 0 clashingEntry = (0, [0x04, 0x08, 0, 0]) :: (memParts 0 clashingEntry).tail := by decide +kernel

/-- The entry's first word meets the clashing writes: the port's is now dropped. -/
theorem clashingEnd_told (meet : Config.sameCycle 0 0 Master.disp = true) :
    (clashingEnd.putPart Master.disp 0 0 [0x04, 0x08, 0, 0]).2.portTold 0 := by
  have found : clashingEnd.basin.groups.find?
      (fun h => h.open clashingEnd.clk (0 / 4) Master.disp && Config.sameCycle clashingEnd.clk (0 / 4) Master.disp) = some clashingGroup :=
    List.find?_cons_of_pos (by rw [Bool.and_eq_true]; exact ⟨by decide, meet⟩)
  exact State.portTold_putPart_meets (x := ⟨Master.aport, 0, [some 2], true⟩) found (by decide) rfl (by decide) rfl

theorem clashingEnd_post_told (meet : Config.sameCycle 0 0 Master.disp = true) : (clashingEnd.anaPostAt 0x04 8 0 0 0).portTold 0 := by
  obtain ⟨on, ring, place⟩ := clashingEnd_source
  rw [State.anaPostAt]
  refine State.portTold_post on (by rw [ring]; rfl) ?_
  rw [ring, show SrcRing.empty.wr % 2 ^ clashingEnd.fld (Adr.DSP_SRCCFG 8) 19 16 = 0 from Nat.zero_mod _, place]
  exact State.portTold_basinPut memParts_clashingEntry (clashingEnd_told meet)

/-- Where the record's first word meets the writes of the group, O44 fails: the record changes the status of an audio port. -/
theorem not_outputsMoveAndFaultByTheirRules_of_sameCycle (meet : Config.sameCycle 0 0 Master.disp = true) :
    ¬ Obligations.OutputsMoveAndFaultByTheirRules := by
  unfold Obligations.OutputsMoveAndFaultByTheirRules
  intro h
  obtain ⟨clamped, shaped, untold⟩ := clashingNode_clamped
  obtain ⟨-, -, -, ⟨-, -, -, -, -, -, clampEnd⟩, -⟩ := h.1 clashingNode .host 0 0
  obtain ⟨t, answer, -, regs, -⟩ := clampEnd 0 clamped shaped
  rw [exec_rangeClampEnd, State.run] at answer
  have told : t.portTold 0 := by
    have post := clashingEnd_post_told meet
    rw [← clashingNode_clampEnd] at post
    rw [← Host.Outcome.next.inj answer]
    exact post
  have kept : t.reg (Adr.APORT_STAT 0) = clashingNode.reg (Adr.APORT_STAT 0) :=
    regs _ List.not_mem_nil (by decide) (by decide) (by decide) (by decide)
  rw [State.portTold, State.flag, kept] at told
  exact absurd (told.symm.trans untold) (by decide)

end Sys2Proof.Machine
end

/-!
SUPPORT. A step (R181, log 1): a well-formed command completes and leaves the queue, so that a node whose queue is well formed never stops.
-/
section
namespace Sys2Proof.Machine

variable {s t : State} {i : Instr}

theorem messageRow_completes {types : Nat → Bool} {b : List Byte} (whole : wholeMessage types b = true) :
    ∃ t, messageRow types b s = .next t ∧ t.pending = s.pending := by
  obtain ⟨len, type⟩ : b.length = (b.getD 0 0).toNat ∧ types (b.getD 1 0).toNat = true := by
    simpa only [wholeMessage, Bool.and_eq_true, decide_eq_true_eq] using whole
  have row : ¬ (b.length ≠ Msg.len b || !types (Msg.type b)) = true := by
    rw [show Msg.len b = b.length from len.symm, show types (Msg.type b) = true from type]
    simp
  exact ⟨_, if_neg row, rfl⟩

/-- A well-formed command completes, whatever the node, and leaves the commands that wait. -/
theorem exec_completes (fine : i.wf = true) : ∃ t, exec i s = .next t ∧ t.pending = s.pending := by
  cases i
  case frameHeader p bytes rx => exact ⟨_, if_neg (by simpa [Instr.wf] using fine), rfl⟩
  case frameReceived p bytes codeErrors rx => exact ⟨_, if_neg (by simpa [Instr.wf] using fine), rfl⟩
  case csBlock p cs ub => exact ⟨_, if_neg (by simpa [Instr.wf, or_iff_not_and_not] using fine), rfl⟩
  case dmxReceivePacket n pkt => exact ⟨_, if_neg (by simpa [Instr.wf] using fine), rfl⟩
  case eventMessage | cmdRead | cmdWrite | timeSnap | coreCmd | reply | hello | admitMsg | refuse | mapset | slotset | headClaim =>
    rw [Instr.wf] at fine
    exact messageRow_completes fine
  all_goals exact ⟨_, rfl, rfl⟩

theorem step_cons {rest : List Instr} (front : s.pending = i :: rest) : step s = exec i { s with pending := rest } := by
  rw [step, front]

theorem step_nil (idle : s.pending = []) : step s = s.run State.tick := by
  rw [step, idle]

/-- A step of a node whose queue is well formed takes one command off it. -/
theorem step_completes (fine : s.queueWf = true) : ∃ t, step s = .next t ∧ t.queueWf = true ∧ t.pending = s.pending.drop 1 := by
  cases queue : s.pending with
  | nil => exact ⟨_, step_nil queue, by rw [State.queueWf, State.queued_pending]; exact fine, by simp [queue]⟩
  | cons c rest =>
    rw [State.queueWf, queue, List.all_cons, Bool.and_eq_true] at fine
    obtain ⟨t, next, left⟩ := exec_completes (s := { s with pending := rest }) fine.1
    exact ⟨t, (step_cons queue).trans next, by rw [State.queueWf, left]; exact fine.2, left⟩

/-- Settles O3, by induction on the number of steps. -/
theorem wellFormedNodesNeverStop : Obligations.WellFormedNodesNeverStop := by
  unfold Obligations.WellFormedNodesNeverStop
  intro n
  induction n with
  | zero => exact fun s fine => ⟨s, rfl, fine, rfl⟩
  | succ n ih =>
    intro s fine
    obtain ⟨u, next, fine', left⟩ := step_completes fine
    obtain ⟨t, run, fine'', queue⟩ := ih u fine'
    refine ⟨t, ?_, fine'', by rw [queue, left, List.drop_drop, Nat.add_comm]⟩
    simp only [Host.Core.run, show Sys2Proof.core.step s = .next u from next]
    exact run

/-- Settles O1. -/
theorem stepRunsTheFrontCommand : Obligations.StepRunsTheFrontCommand := by
  unfold Obligations.StepRunsTheFrontCommand
  exact fun s c rest => ⟨step_cons rfl, step_nil rfl⟩

end Sys2Proof.Machine
end

section
namespace Sys2Proof.Machine

/-- What every operation on a node keeps: the canonical form of its stores, and the number of each kind of unit. -/
def State.Keeps (s₀ s : State) : Prop := (s₀.canonical = true → s.canonical = true) ∧ (s₀.shaped = true → s.shaped = true)

theorem State.canonical_iff {s : State} : s.canonical = true ↔
    Memory.wf s.basin.bytes = true ∧ Memory.wf s.lram = true ∧ Flash.wf s.pack.flash = true ∧ Regs.wf s.regs = true := by
  simp only [State.canonical, Bool.and_eq_true, and_assoc]

theorem State.shaped_iff {s : State} : s.shaped = true ↔ s.cores.length = 8 ∧ s.disp.rings.length = 12 ∧ s.aports.ports.length = 8 ∧
    s.ana.dacs.length = 4 ∧ s.ana.couts.length = 8 ∧ s.ser.length = 2 ∧ s.tmr.chans.length = 16 := by
  simp only [State.shaped, Bool.and_eq_true, decide_eq_true_eq, and_assoc]

namespace State.Keeps
variable {s₀ s t : State}

theorem refl (s : State) : s.Keeps s := ⟨id, id⟩

theorem ite {c : Prop} [Decidable c] (h : s₀.Keeps s) (g : s₀.Keeps t) : s₀.Keeps (if c then s else t) := by
  split <;> assumption

theorem ite_snd {α : Type} {x y : α × State} {c : Prop} [Decidable c] (h : s₀.Keeps x.2) (g : s₀.Keeps y.2) :
    s₀.Keeps (if c then x else y).2 := by
  split <;> assumption

theorem ite_snd_snd {α β : Type} {x y : α × β × State} {c : Prop} [Decidable c] (h : s₀.Keeps x.2.2) (g : s₀.Keeps y.2.2) :
    s₀.Keeps (if c then x else y).2.2 := by
  split <;> assumption

theorem when {c : Bool} {f : State → State} (h : s₀.Keeps s) (effect : ∀ {t}, s₀.Keeps t → s₀.Keeps (f t)) : s₀.Keeps (s.when c f) :=
  ite (effect h) h

theorem foldl {α : Type} {f : State → α → State} {l : List α} (h : s₀.Keeps s) (step : ∀ {t x}, s₀.Keeps t → s₀.Keeps (f t x)) :
    s₀.Keeps (l.foldl f s) := by
  induction l generalizing s with
  | nil => exact h
  | cons x l ih => exact ih (step h)

theorem foldl_snd {α β : Type} {f : β × State → α → β × State} {l : List α} {p : β × State} (h : s₀.Keeps p.2)
    (step : ∀ {p x}, s₀.Keeps p.2 → s₀.Keeps (f p x).2) : s₀.Keeps (l.foldl f p).2 := by
  induction l generalizing p with
  | nil => exact h
  | cons x l ih => exact ih (step h)

/-- What is neither a store nor a unit. -/
theorem beside {q f t b c p e v x a w y z} (h : s₀.Keeps s) : s₀.Keeps { s with
    pending := q, fresh := f, time := t, sub := b, clk := c, phase := p, lramEcc := e, voice := v, spe := x, trail := a, power := w, flt := y,
    host := z } := h

/-- The stores of a node, one by one. -/
theorem setStores {b : Basin} {m : List Host.Cell} {k : Pack} {r : List (Nat × Word)} (h : s₀.Keeps s)
    (basin : Memory.wf s.basin.bytes = true → Memory.wf b.bytes = true) (lram : Memory.wf s.lram = true → Memory.wf m = true)
    (flash : Flash.wf s.pack.flash = true → Flash.wf k.flash = true) (regs : Regs.wf s.regs = true → Regs.wf r = true) :
    s₀.Keeps { s with basin := b, lram := m, pack := k, regs := r } := by
  refine ⟨fun c => ?_, h.2⟩
  obtain ⟨hb, hl, hf, hr⟩ := State.canonical_iff.mp (h.1 c)
  exact State.canonical_iff.mpr ⟨basin hb, lram hl, flash hf, regs hr⟩

theorem setRegs {r : List (Nat × Word)} (h : s₀.Keeps s) (regs : Regs.wf s.regs = true → Regs.wf r = true) :
    s₀.Keeps { s with regs := r } := h.setStores id id id regs

theorem setBasin {b : Basin} (h : s₀.Keeps s) (bytes : Memory.wf s.basin.bytes = true → Memory.wf b.bytes = true) :
    s₀.Keeps { s with basin := b } := h.setStores bytes id id id

theorem setLram {m : List Host.Cell} (h : s₀.Keeps s) (lram : Memory.wf s.lram = true → Memory.wf m = true) :
    s₀.Keeps { s with lram := m } := h.setStores id lram id id

theorem setFlash {k : Pack} (h : s₀.Keeps s) (flash : Flash.wf s.pack.flash = true → Flash.wf k.flash = true) :
    s₀.Keeps { s with pack := k } := h.setStores id id flash id

/-- The Basin but for its bytes. -/
theorem basinBeside {e w r m c g a} (h : s₀.Keeps s) : s₀.Keeps { s with basin := ⟨s.basin.bytes, e, w, r, m, c, g, a⟩ } := h

/-- The pack block but for the flash. -/
theorem packBeside {z f o k q p y l b d u} (h : s₀.Keeps s) : s₀.Keeps { s with pack := ⟨z, s.pack.flash, f, o, k, q, p, y, l, b, d, u⟩ } := h

/-- The units of a node, one kind by one. -/
theorem setUnits {c : List Core} {d : Disp} {p : APorts} {a : Ana} {l : List SerPort} {m : Tmrs} (h : s₀.Keeps s)
    (cores : s.cores.length = 8 → c.length = 8) (rings : s.disp.rings.length = 12 → d.rings.length = 12)
    (ports : s.aports.ports.length = 8 → p.ports.length = 8) (dacs : s.ana.dacs.length = 4 → a.dacs.length = 4)
    (couts : s.ana.couts.length = 8 → a.couts.length = 8) (ser : s.ser.length = 2 → l.length = 2)
    (chans : s.tmr.chans.length = 16 → m.chans.length = 16) :
    s₀.Keeps { s with cores := c, disp := d, aports := p, ana := a, ser := l, tmr := m } := by
  refine ⟨h.1, fun shaped => ?_⟩
  obtain ⟨hc, hd, hp, ha, ho, hl, hm⟩ := State.shaped_iff.mp (h.2 shaped)
  exact State.shaped_iff.mpr ⟨cores hc, rings hd, ports hp, dacs ha, couts ho, ser hl, chans hm⟩

theorem setCores {c : List Core} (h : s₀.Keeps s) (len : s.cores.length = 8 → c.length = 8) : s₀.Keeps { s with cores := c } :=
  h.setUnits len id id id id id id

theorem setDisp {d : Disp} (h : s₀.Keeps s) (rings : s.disp.rings.length = 12 → d.rings.length = 12) : s₀.Keeps { s with disp := d } :=
  h.setUnits id rings id id id id id

/-- The Dispatcher but for the source rings. -/
theorem dispBeside {d r e j n l p} (h : s₀.Keeps s) : s₀.Keeps { s with disp := ⟨d, r, s.disp.rings, e, j, n, l, p⟩ } := h

theorem setAports {p : APorts} (h : s₀.Keeps s) (ports : s.aports.ports.length = 8 → p.ports.length = 8) : s₀.Keeps { s with aports := p } :=
  h.setUnits id id ports id id id id

theorem setAna {a : Ana} (h : s₀.Keeps s) (dacs : s.ana.dacs.length = 4 → a.dacs.length = 4)
    (couts : s.ana.couts.length = 8 → a.couts.length = 8) : s₀.Keeps { s with ana := a } := h.setUnits id id id dacs couts id id

theorem setSer {l : List SerPort} (h : s₀.Keeps s) (len : s.ser.length = 2 → l.length = 2) : s₀.Keeps { s with ser := l } :=
  h.setUnits id id id id id len id

theorem setTmr {m : Tmrs} (h : s₀.Keeps s) (chans : s.tmr.chans.length = 16 → m.chans.length = 16) : s₀.Keeps { s with tmr := m } :=
  h.setUnits id id id id id id chans

end State.Keeps
end Sys2Proof.Machine
end

/-!
SUPPORT. What the operations of Ops and the Basin keep.
-/
section
namespace Sys2Proof.Machine.State.Keeps


variable {s₀ s : State}

theorem queued {q} (h : s₀.Keeps s) : s₀.Keeps (s.queued q) := by
  unfold State.queued
  exact h.beside

theorem setReg {a v} (h : s₀.Keeps s) : s₀.Keeps (s.setReg a v) := h.setRegs fun regs => State.setReg_wf regs a v

theorem setFld {a hi lo v} (h : s₀.Keeps s) : s₀.Keeps (s.setFld a hi lo v) := by
  unfold State.setFld
  exact h.setReg

theorem setFlag {a i b} (h : s₀.Keeps s) : s₀.Keeps (s.setFlag a i b) := by
  unfold State.setFlag
  exact h.setReg

theorem countBy {a n} (h : s₀.Keeps s) : s₀.Keeps (s.countBy a n) := by
  unfold State.countBy
  exact .ite h.setReg h.setReg

theorem count {a} (h : s₀.Keeps s) : s₀.Keeps (s.count a) := by
  unfold State.count
  exact h.countBy

theorem raise {i} (h : s₀.Keeps s) : s₀.Keeps (s.raise i) := by
  unfold State.raise
  exact h.setFlag

theorem draw (h : s₀.Keeps s) : s₀.Keeps s.draw.2 := by
  unfold State.draw
  exact h.beside

theorem drawStatus (h : s₀.Keeps s) : s₀.Keeps s.drawStatus.2 := by
  unfold State.drawStatus
  exact h.draw

theorem setStale (h : s₀.Keeps s) : s₀.Keeps s.setStale := by
  unfold State.setStale
  exact .ite h.setFlag.beside h.setFlag

theorem memPut {a l} (h : s₀.Keeps s) : s₀.Keeps (s.memPut a l) := by
  unfold State.memPut
  exact ite ((ite h.setStale h).setBasin fun bytes => putBytes_wf bytes a l) h

theorem tellLost {x} (h : s₀.Keeps s) : s₀.Keeps (s.tellLost x) := by
  unfold State.tellLost
  exact .ite h.setFlag.setFlag h.setFlag

theorem setGroup {g} (h : s₀.Keeps s) : s₀.Keeps (s.setGroup g) := by
  unfold State.setGroup
  exact h.basinBeside

theorem putPart {master port a l} (h : s₀.Keeps s) : s₀.Keeps (s.putPart master port a l).2 := by
  unfold State.putPart
  dsimp only
  split
  · exact h.setGroup.memPut
  · exact h.setGroup.memPut.foldl fun h => h.tellLost

theorem basinPut {master port a l} (h : s₀.Keeps s) : s₀.Keeps (s.basinPut master port a l).2 := by
  unfold State.basinPut
  exact h.foldl_snd fun h => h.putPart

theorem setRing {q r} (h : s₀.Keeps s) : s₀.Keeps (s.setRing q r) := h.setDisp (by simp)

theorem writeEntry {q k record} (h : s₀.Keeps s) : s₀.Keeps (s.writeEntry q k record) := by
  unfold State.writeEntry
  exact h.basinPut.setRing

theorem loseEvent {q} (h : s₀.Keeps s) : s₀.Keeps (s.loseEvent q) := by
  unfold State.loseEvent
  exact h.setRing.count

theorem offer {q record} (h : s₀.Keeps s) : s₀.Keeps (s.offer q record).2 := by
  unfold State.offer
  exact .ite_snd h.loseEvent (.ite_snd h.loseEvent h.writeEntry.setRing)

theorem post {q record} (h : s₀.Keeps s) : s₀.Keeps (s.post q record) := by
  unfold State.post
  exact h.offer

theorem logFault {type engine status arg0 arg1 arg2} (h : s₀.Keeps s) : s₀.Keeps (s.logFault type engine status arg0 arg1 arg2) := by
  unfold State.logFault
  exact .ite h.packBeside h.count

theorem postFault {code engine status cause arg} (h : s₀.Keeps s) : s₀.Keeps (s.postFault code engine status cause arg) := by
  unfold State.postFault
  exact h.raise.post

theorem noteErr {u} (h : s₀.Keeps s) : s₀.Keeps (s.noteErr u) := by
  unfold State.noteErr
  exact h.beside

theorem basinErr {type w master} (h : s₀.Keeps s) : s₀.Keeps (s.basinErr type w master) := by
  unfold State.basinErr
  exact h.setReg

theorem remapRow {w} (h : s₀.Keeps s) : s₀.Keeps (s.remapRow w) := by
  unfold State.remapRow
  exact .ite h.drawStatus.setFld.setFlag.basinBeside.logFault.postFault h.drawStatus.setFlag.logFault.postFault

theorem chargeRow {w} (h : s₀.Keeps s) : s₀.Keeps (s.chargeRow w) := by
  unfold State.chargeRow
  exact .ite h.remapRow h.basinBeside

theorem correctWord {master w} (h : s₀.Keeps s) : s₀.Keeps (s.correctWord master w) := by
  unfold State.correctWord
  exact h.count.basinErr.drawStatus.postFault.basinBeside.chargeRow

theorem badWord {master w} (h : s₀.Keeps s) : s₀.Keeps (s.badWord master w) := by
  unfold State.badWord
  exact h.count.basinErr.drawStatus.postFault.remapRow

theorem checkWords {master l} (h : s₀.Keeps s) : s₀.Keeps (s.checkWords master l).2 := by
  induction l generalizing s with
  | nil => exact h
  | cons w l ih =>
    rw [State.checkWords]
    split
    · exact ih h
    · exact ih h.correctWord
    · exact ih h.badWord

theorem basinRead {master a n} (h : s₀.Keeps s) : s₀.Keeps (s.basinRead master a n).2 := by
  unfold State.basinRead
  exact h.checkWords

theorem writePart {master port a l} (h : s₀.Keeps s) : s₀.Keeps (s.writePart master port a l).2 := by
  unfold State.writePart
  exact .ite_snd (basinBeside (putPart (.ite_snd h h.checkWords))) (.ite_snd h h.checkWords)

theorem basinWrite {master port a l} (h : s₀.Keeps s) : s₀.Keeps (s.basinWrite master port a l).2 := by
  unfold State.basinWrite
  exact h.foldl_snd fun h => h.writePart

theorem writeBack {w} (h : s₀.Keeps s) : s₀.Keeps (s.writeBack w) := by
  unfold State.writeBack
  exact .ite h.basinBeside h

theorem endCopy (h : s₀.Keeps s) : s₀.Keeps s.endCopy := by
  have clears : ∀ (dead : List Nat) (l : List Host.Cell), Memory.wf l = true →
      Memory.wf (dead.foldl (fun l w => putBytes l (4 * w) [0, 0, 0, 0]) l) = true := by
    intro dead
    induction dead with
    | nil => exact fun l wf => wf
    | cons w dead ih => exact fun l wf => ih _ (putBytes_wf wf _ _)
  unfold State.endCopy
  split
  · exact h
  · exact (h.setBasin (clears _ _)).setFlag

theorem setBorrow {b} (h : s₀.Keeps s) : s₀.Keeps (s.setBorrow b) := by
  unfold State.setBorrow
  exact h.setFlag.setFlag

theorem sweepSave (h : s₀.Keeps s) : s₀.Keeps s.sweepSave := by
  unfold State.sweepSave
  exact h.setBorrow.checkWords.basinBeside

theorem sweepRestore {bad} (h : s₀.Keeps s) : s₀.Keeps (s.sweepRestore bad) := by
  have rows : s₀.Keeps ((firstOfRows (bad.map (· + 64 * s.sweepRegion))).foldl (fun s w => s.remapRow w)
      ((bad.map (· + 64 * s.sweepRegion)).foldl (fun s w => s.basinErr 3 w Master.sweep) s)) :=
    (h.foldl fun h => h.basinErr).foldl fun h => h.remapRow
  unfold State.sweepRestore
  exact ite rows.setBorrow.setFld.count rows.setBorrow.setFld

theorem sweepStart (h : s₀.Keeps s) : s₀.Keeps s.sweepStart := by
  unfold State.sweepStart
  exact .ite h.sweepSave h

theorem returnRegion (h : s₀.Keeps s) : s₀.Keeps s.returnRegion := by
  unfold State.returnRegion
  exact .ite h.sweepRestore h

theorem conflicts (h : s₀.Keeps s) : s₀.Keeps s.conflicts := by
  unfold State.conflicts
  exact h.foldl fun h => .ite h.draw.countBy h

theorem offerTmr {k record} (h : s₀.Keeps s) : s₀.Keeps (s.offerTmr k record).2 := by
  unfold State.offerTmr
  refine ite_snd h.loseEvent (ite_snd (count ?_) h.writeEntry)
  split
  · exact h.basinRead.basinWrite
  · exact h.basinRead

theorem clearBasin (h : s₀.Keeps s) : s₀.Keeps s.clearBasin := h.setBasin fun _ => s.clearBasin_wf

end Sys2Proof.Machine.State.Keeps
end

/-!
SUPPORT. What the operations of the SPE keep.
-/
section
namespace Sys2Proof.Machine.State.Keeps


variable {s₀ s : State}

theorem setSpe {f} (h : s₀.Keeps s) : s₀.Keeps (s.setSpe f) := by
  unfold State.setSpe
  exact h.beside

theorem setDline {j d} (h : s₀.Keeps s) : s₀.Keeps (s.setDline j d) := by
  unfold State.setDline
  exact h.setSpe

theorem lineFetch {j pos} (h : s₀.Keeps s) : s₀.Keeps (s.lineFetch j pos).2 := by
  unfold State.lineFetch
  dsimp only
  split
  · next read => exact (congrArg (s₀.Keeps ·.2) read).mp h.basinRead
  · next read => exact setFlag ((congrArg (s₀.Keeps ·.2) read).mp h.basinRead)

theorem lineRead {j pos} (h : s₀.Keeps s) : s₀.Keeps (s.lineRead j pos).2 := by
  unfold State.lineRead
  dsimp only
  split
  · split
    · exact h
    · split
      · exact .ite_snd h h.lineFetch
      · exact h.lineFetch
  · split
    · exact h
    · split
      · exact .ite_snd h h.lineFetch
      · exact h.lineFetch

theorem lineAt {j d} (h : s₀.Keeps s) : s₀.Keeps (s.lineAt j d).2 := by
  unfold State.lineAt
  exact h.lineRead

theorem lineWrite {j x} (h : s₀.Keeps s) : s₀.Keeps (s.lineWrite j x) := by
  unfold State.lineWrite
  exact setDline (.ite h.basinWrite.setFlag h.basinWrite)

theorem clearPart {wrote base w a n} (h : s₀.Keeps s) : s₀.Keeps (s.clearPart wrote base w a n) := by
  unfold State.clearPart
  exact .ite (h.foldl fun h => .ite h (.ite h.basinWrite.setFlag h.basinWrite)) (.ite h.basinWrite.setFlag h.basinWrite)

theorem clearChunk {j} (h : s₀.Keeps s) : s₀.Keeps (s.clearChunk j) := by
  unfold State.clearChunk
  dsimp only
  split
  · exact h
  · exact setDline (h.foldl fun h => h.clearPart)

theorem clearEnd {j} (h : s₀.Keeps s) : s₀.Keeps (s.clearEnd j) := by
  unfold State.clearEnd
  dsimp only
  split
  · exact .ite h.setDline.setFlag h
  · exact h

theorem latchLines (h : s₀.Keeps s) : s₀.Keeps s.latchLines := by
  unfold State.latchLines
  exact h.foldl fun h => h.setDline

theorem startClear {j} (h : s₀.Keeps s) : s₀.Keeps (s.startClear j) := by
  unfold State.startClear
  exact h.setFlag

theorem stepClears (h : s₀.Keeps s) : s₀.Keeps s.stepClears := by
  unfold State.stepClears
  exact h.foldl fun h => h.clearEnd.clearChunk

theorem speFlag {r : SpeRun} {i} (h : s₀.Keeps r.s) : s₀.Keeps (r.flag i).s := h.setFlag

theorem speSetA {r : SpeRun} {step i x} (h : s₀.Keeps r.s) : s₀.Keeps (r.setA step i x).s := by
  unfold SpeRun.setA
  dsimp only
  split
  · exact setFlag (ite h h.setFld)
  · exact h

theorem speDri {r : SpeRun} {line off sh m} (h : s₀.Keeps r.s) : s₀.Keeps (r.dri line off sh m).2.s := h.lineAt.lineAt

theorem speIte {c : Prop} [Decidable c] {r q : SpeRun} (h : s₀.Keeps r.s) (g : s₀.Keeps q.s) : s₀.Keeps (if c then r else q).s := by
  split <;> assumption

/-- The branches stand in the order of Table SP-6: results in an accumulator first, then stores and moves, then the delay reads and writes. -/
theorem speStep {c ins tm step w} {r : SpeRun} (h : s₀.Keeps r.s) : s₀.Keeps (Machine.speStep c ins tm r step w).s := by
  have flagged {b : Bool} {i} : s₀.Keeps (if b then r.flag i else r).s := speIte h.speFlag h
  unfold Machine.speStep
  exact speIte h.speSetA <| speIte h.speSetA <| speIte h.speSetA <| speIte h.speSetA <| speIte h.speSetA <| speIte h.speSetA <|
    speIte h.speSetA <| speIte h.speSetA <| speIte h.speSetA <| speIte h.speSetA <| speIte h.speSetA <| speIte h.speSetA <|
    speIte h.speSetA <| speIte h.speSetA <| speIte h.speSetA <| speIte h.speSetA <| speIte h.speSetA <|
    speIte (speIte (speIte flagged flagged) (speIte flagged flagged)) <| speIte h <| speIte h <| speIte h <| speIte h <| speIte h <|
    speIte flagged <| speIte h.lineAt <| speIte h.speDri.speSetA <| speIte (speSetA h.lineAt) <| speIte (speIte h flagged) <|
    speIte h.speSetA h

theorem speSteps {c ins tm l k} {r : SpeRun} (h : s₀.Keeps r.s) : s₀.Keeps (Machine.speSteps c ins tm l k r).s := by
  induction l generalizing k r with
  | nil => exact h
  | cons w l ih => exact ih h.speStep

theorem speRun {ins} (h : s₀.Keeps s) : s₀.Keeps (s.speRun ins) := by
  unfold State.speRun
  exact foldl (foldl (setSpe (speSteps (h.setSpe.foldl fun h => h.setDline))) fun h => h.setDline) fun h => h.lineWrite

theorem commitActs {noramp} (h : s₀.Keeps s) : s₀.Keeps (s.commitActs noramp) := by
  unfold State.commitActs
  exact .ite h.setSpe h.setSpe.setFlag

theorem stepRamps (h : s₀.Keeps s) : s₀.Keeps s.stepRamps := by
  unfold State.stepRamps
  exact h.setSpe

theorem processStart {b} (h : s₀.Keeps s) : s₀.Keeps (s.processStart b) := by
  unfold State.processStart
  split
  · split
    · dsimp only
      split
      · exact stepRamps (.ite (raise (setReg (setReg (setSpe (.ite h.commitActs.setFlag h.commitActs))))) (.ite h.commitActs.setFlag h.commitActs))
      · exact stepRamps (.ite h.commitActs.setFlag h.commitActs)
    · dsimp only
      split
      · exact stepRamps (.ite h.setSpe.setReg.setReg.raise h)
      · exact h.stepRamps
  · dsimp only
    split
    · exact stepRamps (.ite h.setSpe.setReg.setReg.raise h)
    · exact h.stepRamps

theorem copybackDone (h : s₀.Keeps s) : s₀.Keeps s.copybackDone := by
  unfold State.copybackDone
  exact h.setFlag

theorem copybackTime (h : s₀.Keeps s) : s₀.Keeps s.copybackTime := by
  unfold State.copybackTime
  exact .ite h.copybackDone h

theorem speHeld {a} (h : s₀.Keeps s) : s₀.Keeps (s.speHeld a) := by
  unfold State.speHeld
  exact .ite h.copybackDone h

theorem speCommit {time noramp} (h : s₀.Keeps s) : s₀.Keeps (s.speCommit time noramp).2 := by
  unfold State.speCommit
  exact .ite_snd h h.setSpe

theorem speCommitCancel (h : s₀.Keeps s) : s₀.Keeps s.speCommitCancel.2 := by
  unfold State.speCommitCancel
  exact h.setSpe

theorem speDiscard (h : s₀.Keeps s) : s₀.Keeps s.speDiscard.2 := by
  unfold State.speDiscard
  exact .ite_snd h h.setSpe

theorem speCcode {st} (h : s₀.Keeps s) : s₀.Keeps (s.speCcode st) := by
  unfold State.speCcode
  exact h.setFld

theorem spePcode {st} (h : s₀.Keeps s) : s₀.Keeps (s.spePcode st) := by
  unfold State.spePcode
  exact h.setFld

theorem speLoad {len clrt time} (h : s₀.Keeps s) : s₀.Keeps (s.speLoad len clrt time).2 := by
  unfold State.speLoad
  exact .ite_snd h (.ite_snd h h.setSpe.setFld)

theorem speLoadEnds (h : s₀.Keeps s) : s₀.Keeps s.speLoadEnds := by
  unfold State.speLoadEnds
  exact h.setSpe.setFld.setFlag.raise

theorem speLoadCancel (h : s₀.Keeps s) : s₀.Keeps s.speLoadCancel.2 := by
  unfold State.speLoadCancel
  exact .ite_snd h h.speLoadEnds

theorem speValidated (h : s₀.Keeps s) : s₀.Keeps s.speValidated := by
  unfold State.speValidated
  split
  · split
    · split
      · exact h.setFld
      · exact h.speLoadEnds.setFld.setReg
    · exact h
  · exact h

theorem tapOne {n i} (h : s₀.Keeps s) : s₀.Keeps (s.tapOne n i) := by
  unfold State.tapOne
  exact .ite h.setReg (.ite (setReg (.ite h.basinWrite h.basinWrite)) (.ite (setReg (.ite h.basinWrite h.basinWrite)) h))

theorem tapStops (h : s₀.Keeps s) : s₀.Keeps s.tapStops := by
  unfold State.tapStops
  exact setSpe (h.foldl fun h => h.setFlag)

theorem tapsAndTick {n b} (h : s₀.Keeps s) : s₀.Keeps (s.tapsAndTick n b) := by
  unfold State.tapsAndTick
  exact .ite (post (h.foldl fun h => h.tapOne)) (h.foldl fun h => h.tapOne)

theorem speWrite {a x} (h : s₀.Keeps s) : s₀.Keeps (s.speWrite a x) := by
  unfold State.speWrite
  exact .ite h.setSpe (.ite h.speHeld.setSpe h.setSpe)

end Sys2Proof.Machine.State.Keeps
end

/-!
SUPPORT. What the operations of the audio ports and the analogue outputs keep.
-/
section
namespace Sys2Proof.Machine.State.Keeps


variable {s₀ s : State}

theorem setAport {p f} (h : s₀.Keeps s) : s₀.Keeps (s.setAport p f) := by
  unfold State.setAport
  exact h.setAports (by simp)

theorem setApFlag {p k b} (h : s₀.Keeps s) : s₀.Keeps (s.setApFlag p k b) := by
  unfold State.setApFlag
  exact h.setFlag

theorem setMuted {p b} (h : s₀.Keeps s) : s₀.Keeps (s.setMuted p b) := by
  unfold State.setMuted
  exact .ite h h.setFlag.raise

theorem setPclk {p c} (h : s₀.Keeps s) : s₀.Keeps (s.setPclk p c) := by
  unfold State.setPclk
  exact .ite (h.setAports (by simp)) h.setAport

theorem apPost {code port status dir value} (h : s₀.Keeps s) : s₀.Keeps (s.apPost code port status dir value) := by
  unfold State.apPost
  exact h.post

theorem showRate {p hz} (h : s₀.Keeps s) : s₀.Keeps (s.showRate p hz) := by
  unfold State.showRate
  exact .ite h.setFld h.setReg

theorem clockStops {p} (h : s₀.Keeps s) : s₀.Keeps (s.clockStops p) := by
  unfold State.clockStops
  exact h.setApFlag.setMuted.setPclk.showRate.apPost

theorem clockChanges {p period} (h : s₀.Keeps s) : s₀.Keeps (s.clockChanges p period) := by
  unfold State.clockChanges
  split
  · exact h.setApFlag.setApFlag.setApFlag.setMuted.setPclk.showRate.apPost
  · exact h.setApFlag.setApFlag.setApFlag.setMuted.setPclk.count.showRate.apPost

theorem clockWrong {p hz} (h : s₀.Keeps s) : s₀.Keeps (s.clockWrong p hz) := by
  unfold State.clockWrong
  exact h.setApFlag.setApFlag.setMuted.setPclk.apPost

theorem measure {p period} (h : s₀.Keeps s) : s₀.Keeps (s.measure p period).2 := by
  unfold State.measure
  split
  · exact h.setPclk.showRate
  · split
    · exact .ite_snd h.setPclk h.clockChanges
    · split
      · exact .ite_snd h.setPclk.clockStops (.ite (clockWrong (.ite h.setPclk.showRate.setFlag h.setPclk.showRate)) (.ite h.setPclk.showRate.setFlag h.setPclk.showRate))
      · exact .ite_snd h.setPclk.clockStops (.ite (clockWrong (.ite h.setPclk.showRate.count h.setPclk.showRate)) (.ite h.setPclk.showRate.count h.setPclk.showRate))

theorem clockStopOn {p} (h : s₀.Keeps s) : s₀.Keeps (s.clockStopOn p) := by
  unfold State.clockStopOn
  exact .ite h.clockStops h

theorem rateChangeOn {p} (h : s₀.Keeps s) : s₀.Keeps (s.rateChangeOn p) := by
  unfold State.rateChangeOn
  exact .ite h.clockChanges h

theorem clockBackOn {p} (h : s₀.Keeps s) : s₀.Keeps (s.clockBackOn p) := by
  unfold State.clockBackOn
  exact .ite h.setPclk h

theorem clockUnmute {p} (h : s₀.Keeps s) : s₀.Keeps (s.clockUnmute p) := by
  unfold State.clockUnmute
  split
  · split
    · exact h.setApFlag.setApFlag.setMuted.setPclk.apPost
    · exact h.setApFlag.setApFlag.setMuted.setPclk.setAport.apPost
  · exact h

theorem rxRing {p l} (h : s₀.Keeps s) : s₀.Keeps (s.rxRing p l) := by
  unfold State.rxRing
  exact .ite h.count (.ite h.basinWrite.setReg.apPost h.basinWrite.setReg)

theorem txRing {p} (h : s₀.Keeps s) : s₀.Keeps (s.txRing p) := by
  unfold State.txRing
  dsimp only
  split
  · exact h.count.setReg
  · split
    · exact .ite h.basinRead.setAport.setReg.apPost h.basinRead.setAport.setReg
    · exact .ite h.basinRead.count.setReg.apPost h.basinRead.count.setReg

theorem sapFrame {p f} (h : s₀.Keeps s) : s₀.Keeps (s.sapFrame p f) := by
  unfold State.sapFrame
  split
  · exact h
  · split
    · dsimp only
      split
      · exact .ite h.measure.noteErr.countBy.countBy.setAport (.ite h.measure.noteErr.countBy.countBy.setAport.count h.measure.noteErr.countBy.countBy.setAport.setAport)
      · exact .ite h.measure.countBy.countBy.setAport (.ite h.measure.countBy.countBy.setAport.count h.measure.countBy.countBy.setAport.setAport)
    · dsimp only
      split
      · exact .ite h.measure.noteErr.countBy.countBy.setAport (.ite h.measure.noteErr.countBy.countBy.setAport.count h.measure.noteErr.countBy.countBy.setAport.setAport)
      · exact .ite h.measure.countBy.countBy.setAport (.ite h.measure.countBy.countBy.setAport.count h.measure.countBy.countBy.setAport.setAport)

theorem sapTxStart {p} (h : s₀.Keeps s) : s₀.Keeps (s.sapTxStart p) := by
  unfold State.sapTxStart
  split
  · exact .ite h h.setAport
  · dsimp only
    split
    · exact h
    · split
      · exact h.count
      · exact h.setAport

theorem apEnables {p} (h : s₀.Keeps s) : s₀.Keeps (s.apEnables p) := by
  unfold State.apEnables
  dsimp only
  split
  · exact h.setFlag.setApFlag.setApFlag.setMuted.setPclk.setAport
  · exact setAport (.ite h.setFlag.setMuted h.setFlag)

theorem apLatch {p rx} (h : s₀.Keeps s) : s₀.Keeps (s.apLatch p rx) := by
  unfold State.apLatch
  split
  · exact .ite h (.ite h.setAport.rxRing h.setAport)
  · split
    · exact .ite h (.ite h.setAport.rxRing h.setAport)
    · dsimp only
      split
      · exact h
      · split
        · exact .ite (rxRing (.ite h.setAport h)) (.ite h.setAport h)
        · split
          · exact .ite h.setAport.count.rxRing h.setAport.count
          · exact .ite h.setAport.rxRing h.setAport

theorem csApply {p} (h : s₀.Keeps s) : s₀.Keeps (s.csApply p) := by
  unfold State.csApply
  exact h.setAport

theorem bptFrame {p m} (h : s₀.Keeps s) : s₀.Keeps (s.bptFrame p m) := by
  unfold State.bptFrame
  exact .ite (setAport (.ite h.csApply h)) (.ite h.csApply h)

theorem apPresent {p n live} (h : s₀.Keeps s) : s₀.Keeps (s.apPresent p n live) := by
  unfold State.apPresent
  split
  · split
    · split
      · exact .ite (txRing (.ite (bptFrame (.ite h h)) (.ite h h))) (.ite (bptFrame (.ite h h)) (.ite h h))
      · split
        · exact .ite (txRing (bptFrame (.ite h (.ite h.count h.setAport)))) (bptFrame (.ite h (.ite h.count h.setAport)))
        · exact .ite (txRing (.ite h (.ite h.count h.setAport))) (.ite h (.ite h.count h.setAport))
    · exact .ite (txRing (.ite (bptFrame (.ite h h.setAport)) (.ite h h.setAport))) (.ite (bptFrame (.ite h h.setAport)) (.ite h h.setAport))
  · split
    · split
      · exact .ite (txRing (.ite (bptFrame (.ite h h)) (.ite h h))) (.ite (bptFrame (.ite h h)) (.ite h h))
      · split
        · exact .ite (txRing (bptFrame (.ite h (.ite h.count h.setAport)))) (bptFrame (.ite h (.ite h.count h.setAport)))
        · exact .ite (txRing (.ite h (.ite h.count h.setAport))) (.ite h (.ite h.count h.setAport))
    · exact .ite (txRing (.ite (bptFrame (.ite h h.setAport)) (.ite h h.setAport))) (.ite (bptFrame (.ite h h.setAport)) (.ite h h.setAport))

theorem apBoundary {n live rx readback} (h : s₀.Keeps s) : s₀.Keeps (s.apBoundary n live rx readback) := by
  unfold State.apBoundary
  exact foldl (foldl (foldl (foldl (h.foldl fun h => h.apEnables) fun h => h.clockUnmute) fun h => h.apPresent) fun h => h.apLatch)
    fun h => ite h.noteErr h

theorem csBlockOn {p cs ub} (h : s₀.Keeps s) : s₀.Keeps (s.csBlockOn p cs ub) := by
  unfold State.csBlockOn
  exact .ite h (.ite h.setFlag.count (.ite (setFld (h.setFlag.foldl fun h => h.setReg.setReg)) (apPost (setFlag (setFld (h.setFlag.foldl fun h => h.setReg.setReg))))))

theorem loopOff (h : s₀.Keeps s) : s₀.Keeps s.loopOff := by
  unfold State.loopOff
  exact h.setReg.setAports (by simp)

theorem loopActs (h : s₀.Keeps s) : s₀.Keeps s.loopActs := by
  unfold State.loopActs
  exact .ite h (setFlag (setFld (h.setAports (by simp))))

theorem loopStep (h : s₀.Keeps s) : s₀.Keeps s.loopStep := by
  unfold State.loopStep
  split
  · exact h.loopOff
  · split
    · exact h.loopActs
    · exact .ite (loopActs (h.setFlag.setAports (by simp))) (setFlag (setFld (h.setAports (by simp))))

theorem loopReleaseOn (h : s₀.Keeps s) : s₀.Keeps s.loopReleaseOn := by
  unfold State.loopReleaseOn
  exact .ite (apPost (setFlag (setFlag (h.setAports (by simp))))) h

theorem wclkOn {period toBoundary} (h : s₀.Keeps s) : s₀.Keeps (s.wclkOn period toBoundary) := by
  unfold State.wclkOn
  exact .ite (h.measure.setAports (by simp)) h

theorem anaPostAt {code channel status value t} (h : s₀.Keeps s) : s₀.Keeps (s.anaPostAt code channel status value t) := by
  unfold State.anaPostAt
  exact h.post

theorem anaPost {code channel status value} (h : s₀.Keeps s) : s₀.Keeps (s.anaPost code channel status value) := by
  unfold State.anaPost
  exact h.anaPostAt

theorem setDac {c d} (h : s₀.Keeps s) : s₀.Keeps (s.setDac c d) := by
  unfold State.setDac
  exact h.setAna (by simp) (by simp)

theorem dacBoundary {c} (h : s₀.Keeps s) : s₀.Keeps (s.dacBoundary c) := by
  unfold State.dacBoundary
  exact h.setDac

theorem dacClose {c} (h : s₀.Keeps s) : s₀.Keeps (s.dacClose c) := by
  unfold State.dacClose
  exact .ite h.setDac h

theorem setCout {c d} (h : s₀.Keeps s) : s₀.Keeps (s.setCout c d) := by
  unfold State.setCout
  exact h.setAna (by simp) (by simp)

theorem rangeDone {c t} (h : s₀.Keeps s) : s₀.Keeps (s.rangeDone c t) := by
  unfold State.rangeDone
  exact h.setCout.anaPostAt

theorem disconnect {c t} (h : s₀.Keeps s) : s₀.Keeps (s.disconnect c t) := by
  unfold State.disconnect
  exact h.setCout.rangeDone

theorem clampEnd {c t} (h : s₀.Keeps s) : s₀.Keeps (s.clampEnd c t) := by
  unfold State.clampEnd
  split
  · exact .ite h.disconnect (.ite h.setCout.rangeDone h.setCout)
  · exact h

theorem clampDue {c t} (h : s₀.Keeps s) : s₀.Keeps (s.clampDue c t) := by
  unfold State.clampDue
  split
  · exact .ite h.clampEnd h
  · exact h

theorem atOldZero {c t} (h : s₀.Keeps s) : s₀.Keeps (s.atOldZero c t) := by
  unfold State.atOldZero
  exact .ite h.disconnect h.setCout

theorem stepAt {c t} (h : s₀.Keeps s) : s₀.Keeps (s.stepAt c t) := by
  unfold State.stepAt
  dsimp only
  split
  · exact setCout (.ite h.clampDue.setCout.atOldZero h.clampDue.setCout)
  · exact h.clampDue.setCout
  · exact setCout (.ite h.clampDue.setCout.rangeDone h.clampDue.setCout)
  · exact setCout (.ite h.clampDue.setCout h.clampDue)

theorem stepsTo {c t} (h : s₀.Keeps s) : s₀.Keeps (s.stepsTo c t) := by
  unfold State.stepsTo
  exact clampDue (h.foldl fun h => h.stepAt)

theorem stepNow {c} (h : s₀.Keeps s) : s₀.Keeps (s.stepNow c) := by
  unfold State.stepNow
  exact .ite h.stepAt h

theorem coutsRetime {t} (h : s₀.Keeps s) : s₀.Keeps (s.coutsRetime t) := by
  unfold State.coutsRetime
  exact .ite h (h.setAna (by simp) (by simp))

theorem coutTarget {c} (h : s₀.Keeps s) : s₀.Keeps (s.coutTarget c) := by
  unfold State.coutTarget
  exact .ite h (.ite (.ite h.setCout h.setCout) (.ite (.ite h.setCout (.ite h h.setCout)) h.setCout))

theorem coutBoundary {c} (h : s₀.Keeps s) : s₀.Keeps (s.coutBoundary c) := by
  unfold State.coutBoundary
  dsimp only
  split
  · exact .ite h.setCout (.ite h.setCout.coutTarget.setCout h.setCout.coutTarget)
  · exact .ite (.ite (.ite h.setCout.atOldZero h.setCout) h) (.ite (setCout (coutTarget (.ite (.ite h.setCout.atOldZero h.setCout) h))) (coutTarget (.ite (.ite h.setCout.atOldZero h.setCout) h)))

theorem coutsOff (h : s₀.Keeps s) : s₀.Keeps s.coutsOff := by
  unfold State.coutsOff
  exact h.setAna (by simp) (by simp)

theorem coutWrite {c v} (h : s₀.Keeps s) : s₀.Keeps (s.coutWrite c v) := by
  unfold State.coutWrite
  exact setReg (.ite h.setCout h)

theorem coutCoded {c v} (h : s₀.Keeps s) : s₀.Keeps (s.coutCoded c v) := by
  unfold State.coutCoded
  exact h.setCout.setReg

theorem outputShort {a1} (h : s₀.Keeps s) : s₀.Keeps (s.outputShort a1) := by
  unfold State.outputShort
  split
  · exact .ite h.anaPost.noteErr h
  · exact .ite h.anaPost.noteErr h

theorem complOn {c} (h : s₀.Keeps s) : s₀.Keeps (s.complOn c) := by
  unfold State.complOn
  exact .ite h.setCout.setFlag.raise.anaPost.noteErr h

theorem complOff {c} (h : s₀.Keeps s) : s₀.Keeps (s.complOff c) := by
  unfold State.complOff
  exact .ite h.setFlag.anaPost h

end Sys2Proof.Machine.State.Keeps
end

/-!
SUPPORT. What the operations of the Dispatcher keep.
-/
section
namespace Sys2Proof.Machine.State.Keeps


variable {s₀ s : State}

theorem setDesc {i d} (h : s₀.Keeps s) : s₀.Keeps (s.setDesc i d) := by
  unfold State.setDesc
  exact h.dispBeside

theorem setCore {k c} (h : s₀.Keeps s) : s₀.Keeps (s.setCore k c) := by
  unfold State.setCore
  exact h.setCores (by simp)

theorem makeReady {i} (h : s₀.Keeps s) : s₀.Keeps (s.makeReady i) := by
  unfold State.makeReady
  exact h.setDesc.dispBeside

theorem pegUnderflow {i source} (h : s₀.Keeps s) : s₀.Keeps (s.pegUnderflow i source) := by
  unfold State.pegUnderflow
  exact .ite h.count.drawStatus.logFault.dispBeside h.count

theorem pullPeg {i source} (h : s₀.Keeps s) : s₀.Keeps (s.pullPeg i source).2 := by
  unfold State.pullPeg
  exact .ite_snd h (.ite_snd h (.ite_snd h (.ite_snd (.ite h.setDesc.makeReady h.setDesc) (.ite h.count h.pegUnderflow))))

theorem writeRec {r} (h : s₀.Keeps s) : s₀.Keeps (s.writeRec r) := by
  unfold State.writeRec
  exact h.basinPut.setFld.raise

theorem writeRecs {l} (h : s₀.Keeps s) : s₀.Keeps (s.writeRecs l).2 := by
  induction l generalizing s with
  | nil => exact h
  | cons r l ih =>
    rw [State.writeRecs]
    exact ite_snd (ih (ite h.writeRec h)) h

theorem flushRecs (h : s₀.Keeps s) : s₀.Keeps s.flushRecs := by
  unfold State.flushRecs
  exact h.writeRecs.dispBeside

theorem onRec {id f} (h : s₀.Keeps s) : s₀.Keeps (s.onRec id f) := by
  unfold State.onRec
  exact h.dispBeside

theorem freeItem {i} (h : s₀.Keeps s) : s₀.Keeps (s.freeItem i) := by
  unfold State.freeItem
  exact setDesc (.ite h.dispBeside.setRing h.dispBeside)

theorem endOne {i endCode status pc core cause cycles} (h : s₀.Keeps s) : s₀.Keeps (s.endOne i endCode status pc core cause cycles).2 := by
  unfold State.endOne
  exact h.freeItem.dispBeside

theorem cascadeList {n l} (h : s₀.Keeps s) : s₀.Keeps (State.cascadeList n s l) := by
  induction n generalizing s l with
  | zero => exact h
  | succ n ih =>
    cases l with
    | nil => exact h
    | cons j l => exact ite (ih h.endOne) (ih h)

theorem cancelItem {i cause} (h : s₀.Keeps s) : s₀.Keeps (s.cancelItem i cause) := by
  unfold State.cancelItem
  exact h.endOne.cascadeList.flushRecs

theorem heartbeat (h : s₀.Keeps s) : s₀.Keeps s.heartbeat := by
  unfold State.heartbeat
  exact h.beside

theorem cancelDesc {i} (h : s₀.Keeps s) : s₀.Keeps (s.cancelDesc i).2 := by
  unfold State.cancelDesc
  exact .ite_snd h (.ite_snd h (.ite_snd h.cancelItem (.ite_snd h (.ite_snd h h.setDesc))))

theorem cancelNoCore (h : s₀.Keeps s) : s₀.Keeps s.cancelNoCore := by
  unfold State.cancelNoCore
  exact h.foldl fun h => .ite h.cancelItem h

theorem postImage {b origin} (h : s₀.Keeps s) : s₀.Keeps (s.postImage b origin).2.2 := by
  unfold State.postImage
  split
  · exact .ite_snd_snd h h
  · exact .ite_snd_snd h (.ite_snd_snd h.setDesc (.ite_snd_snd h.setDesc h.setDesc.makeReady))

theorem startItem {i k} (h : s₀.Keeps s) : s₀.Keeps (s.startItem i k) := by
  unfold State.startItem
  exact h.dispBeside.setDesc.setCore

theorem advanceJob {j} (h : s₀.Keeps s) : s₀.Keeps (s.advanceJob j) := by
  unfold State.advanceJob
  exact .ite h.dispBeside.onRec.flushRecs h.dispBeside

theorem badSucc {j} (h : s₀.Keeps s) : s₀.Keeps (s.badSucc j) := by
  unfold State.badSucc
  exact h.count.onRec

theorem dspCmd {op i} (h : s₀.Keeps s) : s₀.Keeps (s.dspCmd op i).2 := by
  unfold State.dspCmd
  refine setFld (ite_snd (ite_snd h ?_) (ite_snd h.pullPeg (ite_snd h.cancelDesc h)))
  split
  · next read => exact (congrArg (s₀.Keeps ·.2) read).mp h.basinRead
  · next read =>
    have h := (congrArg (s₀.Keeps ·.2) read).mp h.basinRead
    exact ite h.postImage.setFld h.postImage

theorem selectDesc {i} (h : s₀.Keeps s) : s₀.Keeps (s.selectDesc i) := by
  unfold State.selectDesc
  exact h.setFld.foldl fun h => h.setReg

end Sys2Proof.Machine.State.Keeps
end

/-!
SUPPORT. What the operations of the Trail keep.
-/
section
namespace Sys2Proof.Machine.State.Keeps


variable {s₀ s : State}

theorem setTrail {f} (h : s₀.Keeps s) : s₀.Keeps (s.setTrail f) := by
  unfold State.setTrail
  exact h.beside

theorem queueEvent {q} (h : s₀.Keeps s) : s₀.Keeps (s.queueEvent q).2 := by
  unfold State.queueEvent
  exact .ite_snd h h.setTrail

theorem windowAccept {src q} (h : s₀.Keeps s) : s₀.Keeps (s.windowAccept src q).2 := by
  unfold State.windowAccept
  exact .ite_snd h.setTrail (.ite_snd h.setTrail.count h.setTrail.count)

theorem tstat {code detail status value} (h : s₀.Keeps s) : s₀.Keeps (s.tstat code detail status value) := by
  unfold State.tstat
  exact h.post

theorem setLock {x} (h : s₀.Keeps s) : s₀.Keeps (s.setLock x) := by
  unfold State.setLock
  exact .ite h h.setFld.raise.tstat

theorem setTrailFlag {i b code} (h : s₀.Keeps s) : s₀.Keeps (s.setTrailFlag i b code) := by
  unfold State.setTrailFlag
  exact .ite h h.setFlag.raise.tstat

theorem setRole {i b} (h : s₀.Keeps s) : s₀.Keeps (s.setRole i b) := by
  unfold State.setRole
  exact .ite h h.setFlag.tstat

theorem enqueueSigned {image asHead own sign} (h : s₀.Keeps s) : s₀.Keeps (s.enqueueSigned image asHead own sign) := by
  unfold State.enqueueSigned
  exact h.setTrail.setTrail

theorem enqueue {image asHead own} (h : s₀.Keeps s) : s₀.Keeps (s.enqueue image asHead own) := by
  unfold State.enqueue
  exact h.enqueueSigned

theorem sendImage {b host} (h : s₀.Keeps s) : s₀.Keeps (s.sendImage b host).2 := by
  unfold State.sendImage
  exact .ite_snd h (.ite_snd h.enqueue.setTrail h.enqueue)

theorem sendReply {dest orig status words tagged asHead} (h : s₀.Keeps s) : s₀.Keeps (s.sendReply dest orig status words tagged asHead) := by
  unfold State.sendReply
  exact h.enqueue

theorem setPort {p f} (h : s₀.Keeps s) : s₀.Keeps (s.setPort p f) := by
  unfold State.setPort
  exact h.setTrail

theorem setLink {p x} (h : s₀.Keeps s) : s₀.Keeps (s.setLink p x) := by
  unfold State.setLink
  exact .ite h h.setFld.tstat

theorem setTime8 {t} (h : s₀.Keeps s) : s₀.Keeps (s.setTime8 t) := by
  unfold State.setTime8
  exact h.coutsRetime.beside

theorem judgeArmed (h : s₀.Keeps s) : s₀.Keeps s.judgeArmed := by
  unfold State.judgeArmed
  exact h.setRole

theorem sentBad {q tx} (h : s₀.Keeps s) : s₀.Keeps (s.sentBad q tx) := by
  unfold State.sentBad
  exact h.setPort

theorem cutCopy {p} (h : s₀.Keeps s) : s₀.Keeps (s.cutCopy p) := by
  unfold State.cutCopy
  split
  · split
    · exact .ite h.setPort.sentBad.setPort h.setPort.sentBad
    · exact h.setPort
  · exact h

theorem portDown {p x} (h : s₀.Keeps s) : s₀.Keeps (s.portDown p x) := by
  unfold State.portDown
  exact h.cutCopy.setPort.setFlag.setLink.setTrailFlag.judgeArmed

theorem losOn {p} (h : s₀.Keeps s) : s₀.Keeps (s.losOn p) := by
  unfold State.losOn
  exact .ite h.count.noteErr.portDown h

theorem trainFail {p} (h : s₀.Keeps s) : s₀.Keeps (s.trainFail p) := by
  unfold State.trainFail
  exact .ite h.noteErr.portDown h

theorem signalOn {p} (h : s₀.Keeps s) : s₀.Keeps (s.signalOn p) := by
  unfold State.signalOn
  exact .ite h.setPort.setLink h

theorem commaOn {p} (h : s₀.Keeps s) : s₀.Keeps (s.commaOn p) := by
  unfold State.commaOn
  exact .ite h.setPort.setLink h

theorem codeError {p n} (h : s₀.Keeps s) : s₀.Keeps (s.codeError p n) := by
  unfold State.codeError
  exact h.countBy.foldl fun h => h.noteErr

theorem portUp {p} (h : s₀.Keeps s) : s₀.Keeps (s.portUp p) := by
  unfold State.portUp
  exact h.setPort.setLink.setTrail

theorem setComma (h : s₀.Keeps s) : s₀.Keeps s.setComma.2 := by
  unfold State.setComma
  exact h.draw

theorem trainOn {p state n} (h : s₀.Keeps s) : s₀.Keeps (s.trainOn p state n) := by
  unfold State.trainOn
  exact .ite h (.ite h.setPort.codeError (.ite h.setComma.cutCopy.setPort.portUp h.setComma.cutCopy.setPort))

theorem realignPort {p} (h : s₀.Keeps s) : s₀.Keeps (s.realignPort p) := by
  unfold State.realignPort
  exact .ite h.setPort h

theorem relayDone (h : s₀.Keeps s) : s₀.Keeps s.relayDone := by
  unfold State.relayDone
  split
  · exact .ite h.beside h
  · exact h

theorem markGone {c placed} (h : s₀.Keeps s) : s₀.Keeps (s.markGone c placed) := by
  unfold State.markGone
  exact h.setTrail

theorem transmit {q frame tx wrapped} (h : s₀.Keeps s) : s₀.Keeps (s.transmit q frame tx wrapped) := by
  unfold State.transmit
  exact h.setPort.setFlag

theorem beginWrap {p} (h : s₀.Keeps s) : s₀.Keeps (s.beginWrap p) := by
  unfold State.beginWrap
  exact .ite h h.setPort

theorem recovered {p rest} (h : s₀.Keeps s) : s₀.Keeps (s.recovered p rest) := by
  unfold State.recovered
  exact setPort (.ite h.countBy h)

theorem drawForward (h : s₀.Keeps s) : s₀.Keeps s.drawForward.2 := by
  unfold State.drawForward
  exact h.draw

theorem beginForward {p b wrapped rx} (h : s₀.Keeps s) : s₀.Keeps (s.beginForward p b wrapped rx).2 := by
  unfold State.beginForward
  exact .ite_snd h (setPort (transmit (drawForward (.ite h.beginWrap h))))

theorem endForward {p b k tx bad path} (h : s₀.Keeps s) : s₀.Keeps (s.endForward p b k tx bad path).2 := by
  unfold State.endForward
  dsimp only
  split
  · exact sentBad (.ite h h.setPort)
  · exact .ite_snd (sentBad (setPort (.ite h h.setPort))) (markGone (.ite (recovered (setPort (.ite h h.setPort))) (setPort (.ite h h.setPort))))

theorem learnRate {p b rx} (h : s₀.Keeps s) : s₀.Keeps (s.learnRate p b rx) := by
  unfold State.learnRate
  split
  · dsimp only
    split
    · exact .ite h.setFlag.setFlag h.setFlag
    · exact h.setFlag
  · exact h

theorem commaAt {p rx} (h : s₀.Keeps s) : s₀.Keeps (s.commaAt p rx).2 := by
  unfold State.commaAt
  exact .ite_snd h.setPort.cutCopy.setPort h.setPort.setPort.codeError

theorem headerOn {p b rx} (h : s₀.Keeps s) : s₀.Keeps (s.headerOn p b rx) := by
  unfold State.headerOn
  dsimp only
  split
  · exact h.setTrail.learnRate.commaAt
  · exact setPort (.ite_snd h.setTrail.learnRate.commaAt h.setTrail.learnRate.commaAt.beginForward)

theorem linkSample {p b rx} (h : s₀.Keeps s) : s₀.Keeps (s.linkSample p b rx) := by
  unfold State.linkSample
  dsimp only
  split
  · exact h
  · exact h.setPort.setReg
  · exact h

theorem setTime {b rx path} (h : s₀.Keeps s) : s₀.Keeps (s.setTime b rx path) := by
  unfold State.setTime
  exact h.setTrail.setTime8

theorem switchTiming {p} (h : s₀.Keeps s) : s₀.Keeps (s.switchTiming p) := by
  unfold State.switchTiming
  exact h.setTrail

theorem errorSample {raw} (h : s₀.Keeps s) : s₀.Keeps (s.errorSample raw) := by
  unfold State.errorSample
  exact .ite h.setTrail.setReg h.setTrail

theorem judgeLead {stamp path} (h : s₀.Keeps s) : s₀.Keeps (s.judgeLead stamp path) := by
  unfold State.judgeLead
  exact .ite h.setTrail.setTrailFlag h

theorem goodCopy {p b rx} (h : s₀.Keeps s) : s₀.Keeps (s.goodCopy p b rx) := by
  unfold State.goodCopy
  split
  · dsimp only
    split
    · exact judgeArmed (setTrailFlag (judgeLead (.ite (errorSample (setFlag (setFlag (setTrail (setPort (switchTiming (.ite h.linkSample.setReg.setReg.setTime h.linkSample.setReg.setReg))))))) (setFlag (setFlag (setTrail (setPort (switchTiming (.ite h.linkSample.setReg.setReg.setTime h.linkSample.setReg.setReg)))))))))
    · exact judgeArmed (setTrailFlag (judgeLead (.ite (errorSample (setFlag (setTrail (setPort (.ite h.linkSample.setReg.setReg.setTime h.linkSample.setReg.setReg))))) (setFlag (setTrail (setPort (.ite h.linkSample.setReg.setReg.setTime h.linkSample.setReg.setReg)))))))
  · dsimp only
    split
    · exact judgeArmed (setTrailFlag (judgeLead (.ite (errorSample (setFlag (setFlag (setTrail (setPort (switchTiming (.ite h.linkSample.setReg.setReg.setTime h.linkSample.setReg.setReg))))))) (setFlag (setFlag (setTrail (setPort (switchTiming (.ite h.linkSample.setReg.setReg.setTime h.linkSample.setReg.setReg)))))))))
    · exact judgeArmed (setTrailFlag (judgeLead (.ite (errorSample (setFlag (setTrail (setPort (.ite h.linkSample.setReg.setReg.setTime h.linkSample.setReg.setReg))))) (setFlag (setTrail (setPort (.ite h.linkSample.setReg.setReg.setTime h.linkSample.setReg.setReg)))))))

theorem badCopy {p} (h : s₀.Keeps s) : s₀.Keeps (s.badCopy p) := by
  unfold State.badCopy
  exact h.setPort.setFlag.setFlag.setTrailFlag.judgeArmed

theorem frameIn {p b codeErrs rx} (h : s₀.Keeps s) : s₀.Keeps (s.frameIn p b codeErrs rx).2 := by
  unfold State.frameIn
  split
  · exact h
  · dsimp only
    split
    · exact codeError (.ite h h.headerOn)
    · split
      · exact codeError (.ite h h.headerOn)
      · split
        · exact endForward (.ite (badCopy (.ite (setPort (codeError (.ite h h.headerOn))) (.ite (count (setPort (codeError (.ite h h.headerOn)))) (noteErr (count (setPort (codeError (.ite h h.headerOn)))))))) (goodCopy (.ite (setPort (codeError (.ite h h.headerOn))) (.ite (count (setPort (codeError (.ite h h.headerOn)))) (noteErr (count (setPort (codeError (.ite h h.headerOn)))))))))
        · exact .ite (badCopy (.ite (setPort (codeError (.ite h h.headerOn))) (.ite (count (setPort (codeError (.ite h h.headerOn)))) (noteErr (count (setPort (codeError (.ite h h.headerOn)))))))) (goodCopy (.ite (setPort (codeError (.ite h h.headerOn))) (.ite (count (setPort (codeError (.ite h h.headerOn)))) (noteErr (count (setPort (codeError (.ite h h.headerOn))))))))

theorem bufPut {stamp k x} (h : s₀.Keeps s) : s₀.Keeps (s.bufPut stamp k x) := by
  unfold State.bufPut
  exact .ite h h.setTrail

theorem takeSlots {b} (h : s₀.Keeps s) : s₀.Keeps (s.takeSlots b) := by
  unfold State.takeSlots
  exact h.setTrail.foldl fun h => .ite h.bufPut (.ite h (.ite h (.ite h.count.setTrail h.bufPut)))

theorem takeRelay {p b} (h : s₀.Keeps s) : s₀.Keeps (s.takeRelay p b) := by
  unfold State.takeRelay
  exact .ite h (.ite h.setTrail h.setPort)

theorem tapsFor {b} (h : s₀.Keeps s) : s₀.Keeps (s.tapsFor b) := by
  unfold State.tapsFor
  refine setTrail (h.foldl_snd fun h => ite_snd h (ite_snd h ?_))
  dsimp only
  split
  · exact h
  · exact h.count

theorem lockOn (h : s₀.Keeps s) : s₀.Keeps s.lockOn := by
  unfold State.lockOn
  exact .ite h.setLock.judgeArmed h

theorem holdOn (h : s₀.Keeps s) : s₀.Keeps s.holdOn := by
  unfold State.holdOn
  exact .ite h.setFlag.setReg.setTrail.setLock.judgeArmed h

theorem holdOff {e} (h : s₀.Keeps s) : s₀.Keeps (s.holdOff e) := by
  unfold State.holdOff
  exact .ite (.ite h.setFlag.setReg.setTrail h.setFlag.setTrail) h

theorem slewOff (h : s₀.Keeps s) : s₀.Keeps s.slewOff := by
  unfold State.slewOff
  exact .ite h.setFlag.setReg.setLock.judgeArmed h

theorem realignOff (h : s₀.Keeps s) : s₀.Keeps s.realignOff := by
  unfold State.realignOff
  exact .ite h.setTrail.setFlag.setLock.judgeArmed h

theorem realignStep (h : s₀.Keeps s) : s₀.Keeps s.realignStep := by
  unfold State.realignStep
  exact .ite h.setTrail (.ite h.countBy.setTime8.beside.setTrail h)

theorem cycleEnd (h : s₀.Keeps s) : s₀.Keeps s.cycleEnd := by
  unfold State.cycleEnd
  exact .ite h.setTrail h.setTrail.setTrailFlag

theorem setNomap {b} (h : s₀.Keeps s) : s₀.Keeps (s.setNomap b) := by
  unfold State.setNomap
  exact .ite h h.setFlag.tstat

theorem stopHead (h : s₀.Keeps s) : s₀.Keeps s.stopHead := by
  unfold State.stopHead
  exact h.setRole.setTrailFlag.setNomap.setReg.setTrail.setLock

theorem dropJobs {q stamp job} (h : s₀.Keeps s) : s₀.Keeps (s.dropJobs q stamp job) := by
  unfold State.dropJobs
  split
  · exact h.setPort.setTrail
  · exact h.setTrail

theorem headFrame {q stamp tx} (h : s₀.Keeps s) : s₀.Keeps (s.headFrame q stamp tx).2 := by
  unfold State.headFrame
  exact .ite_snd h.dropJobs h.transmit.dropJobs.setPort.markGone

theorem startFrame (h : s₀.Keeps s) : s₀.Keeps s.startFrame.2 := by
  unfold State.startFrame
  split
  · exact .ite_snd h.stopHead h.headFrame.headFrame.setTrail
  · exact h

theorem headPatch {q stamp} (h : s₀.Keeps s) : s₀.Keeps (s.headPatch q stamp) := by
  unfold State.headPatch
  exact .ite h.setPort h

theorem becomeHead (h : s₀.Keeps s) : s₀.Keeps s.becomeHead := by
  unfold State.becomeHead
  exact h.setTrail.setReg.setReg.setTrailFlag.setLock

theorem listenEnd (h : s₀.Keeps s) : s₀.Keeps s.listenEnd := by
  unfold State.listenEnd
  split
  · exact .ite (.ite h.setTrail h.becomeHead) h
  · exact h

theorem takeOver (h : s₀.Keeps s) : s₀.Keeps s.takeOver := by
  unfold State.takeOver
  split
  · split
    · exact h.setTrail.setRole.setRole.setTrailFlag.enqueue
    · exact h
  · exact h

end Sys2Proof.Machine.State.Keeps
end

/-!
SUPPORT. What the operations of the Voice Array keep.
-/
section
namespace Sys2Proof.Machine.State.Keeps


variable {s₀ s : State}

theorem setVWord {v w x} (h : s₀.Keeps s) : s₀.Keeps (s.setVWord v w x) := by
  unfold State.setVWord
  exact h.beside

theorem setVWords {v w l} (h : s₀.Keeps s) : s₀.Keeps (s.setVWords v w l) := by
  induction l generalizing s w with
  | nil => exact h
  | cons x l ih => exact ih h.setVWord

theorem setVRun {v r} (h : s₀.Keeps s) : s₀.Keeps (s.setVRun v r) := by
  unfold State.setVRun
  exact h.beside

theorem notice {code group voice detail arg time} (h : s₀.Keeps s) : s₀.Keeps (s.notice code group voice detail arg time) := by
  unfold State.notice
  exact .ite (.ite h.offer.count h.offer) h

theorem noticeV {code v detail arg time} (h : s₀.Keeps s) : s₀.Keeps (s.noticeV code v detail arg time) := by
  unfold State.noticeV
  exact h.notice

theorem dropStart {group voice cause time} (h : s₀.Keeps s) : s₀.Keeps (s.dropStart group voice cause time) := by
  unfold State.dropStart
  exact h.count.notice

theorem mirrorBreak {v cause time} (h : s₀.Keeps s) : s₀.Keeps (s.mirrorBreak v cause time) := by
  unfold State.mirrorBreak
  exact h.setVRun.count.noticeV

theorem reach {v x time} (h : s₀.Keeps s) : s₀.Keeps (s.reach v x time) := by
  unfold State.reach
  split
  · split
    · exact h.mirrorBreak
    · exact h
  · exact h

theorem latchReads {mode idx} (h : s₀.Keeps s) : s₀.Keeps (s.latchReads mode idx) := by
  unfold State.latchReads
  exact h.foldl fun h => h.basinRead

theorem reportWave {v osc idx l time} (h : s₀.Keeps s) : s₀.Keeps (s.reportWave v osc idx l time) := by
  unfold State.reportWave
  exact .ite h.count.noticeV h

theorem endVoice {v time} (h : s₀.Keeps s) : s₀.Keeps (s.endVoice v time) := by
  unfold State.endVoice
  exact h.setVRun.noticeV

theorem rampVoice {v} (h : s₀.Keeps s) : s₀.Keeps (s.rampVoice v) := by
  unfold State.rampVoice
  exact h.setVRun

theorem releaseVoice {v time} (h : s₀.Keeps s) : s₀.Keeps (s.releaseVoice v time) := by
  unfold State.releaseVoice
  exact h.setVRun

theorem applyWord {v w x own} (h : s₀.Keeps s) : s₀.Keeps (s.applyWord v w x own) := by
  unfold State.applyWord
  exact .ite h.setVWord.setVRun h.setVWord

theorem applyWords {v w own l} (h : s₀.Keeps s) : s₀.Keeps (s.applyWords v w own l) := by
  induction l generalizing s w with
  | nil => exact h
  | cons x l ih => exact ih h.applyWord

theorem reachWords {v w n x time} (h : s₀.Keeps s) : s₀.Keeps (s.reachWords v w n x time) := by
  unfold State.reachWords
  exact .ite (mirrorBreak (.ite h h.reach)) (.ite h h.reach)

theorem applyHeldWrite {k counter time} (h : s₀.Keeps s) : s₀.Keeps (s.applyHeldWrite k counter time) := by
  unfold State.applyHeldWrite
  exact .ite h.count h.applyWords.reachWords

theorem startWrites {v l} (h : s₀.Keeps s) : s₀.Keeps (s.startWrites v l).2 := by
  induction l generalizing s with
  | nil => exact h
  | cons x l ih =>
    rw [State.startWrites]
    refine ite_snd (ih ?_) (ih h.setVWords)
    split <;> exact h.count

theorem startVoice {v d deferred writes time} (h : s₀.Keeps s) : s₀.Keeps (s.startVoice v d deferred writes time) := by
  unfold State.startVoice
  split
  · dsimp only
    split
    · exact mirrorBreak (setVRun (.ite (reportWave (reportWave (latchReads (latchReads (startWrites (setVWords (setVWords (.ite (.ite h.basinRead.setVWords h.basinRead) (noticeV (count (.ite h.basinRead.setVWords h.basinRead))))))))))) (startWrites (setVWords (setVWords (.ite (.ite h.basinRead.setVWords h.basinRead) (noticeV (count (.ite h.basinRead.setVWords h.basinRead)))))))))
    · exact foldl (setVRun (.ite (reportWave (reportWave (latchReads (latchReads (startWrites (setVWords (setVWords (.ite (.ite h.basinRead.setVWords h.basinRead) (noticeV (count (.ite h.basinRead.setVWords h.basinRead))))))))))) (startWrites (setVWords (setVWords (.ite (.ite h.basinRead.setVWords h.basinRead) (noticeV (count (.ite h.basinRead.setVWords h.basinRead))))))))) fun h => h.reachWords
  · dsimp only
    split
    · exact setVRun (reportWave (reportWave (latchReads (latchReads (startWrites (setVWords (setVWords (.ite h.basinRead.setVWords h.basinRead))))))))
    · exact setVRun (startWrites (setVWords (setVWords (noticeV (count (.ite h.basinRead.setVWords h.basinRead))))))

theorem latched {v r b k time} (h : s₀.Keeps s) : s₀.Keeps (s.latched v r b k time) := by
  unfold State.latched
  exact .ite h.latchReads.reportWave h

theorem retriggerVoice {v key vel prio time} (h : s₀.Keeps s) : s₀.Keeps (s.retriggerVoice v key vel prio time) := by
  unfold State.retriggerVoice
  dsimp only
  split
  · exact setVRun (latched (.ite h.applyWord.applyWord.latched h.applyWord.applyWord))
  · exact setVRun (.ite h.applyWord.applyWord.latched h.applyWord.applyWord)

theorem steal {v d time} (h : s₀.Keeps s) : s₀.Keeps (s.steal v d time) := by
  unfold State.steal
  exact h.rampVoice.count.noticeV.setVRun

theorem noteOn {g key vel prio patch seed src time} (h : s₀.Keeps s) : s₀.Keeps (s.noteOn g key vel prio patch seed src time) := by
  unfold State.noteOn
  split
  · exact h.dropStart
  · split
    · split
      · dsimp only
        split
        · exact h.retriggerVoice
        · split
          · exact h.setReg.startVoice
          · split
            · exact h.dropStart
            · exact .ite (startVoice (setReg (.ite h.mirrorBreak h))) (steal (setReg (.ite h.mirrorBreak h)))
      · dsimp only
        split
        · exact h.retriggerVoice
        · split
          · exact h.startVoice
          · split
            · exact h.dropStart
            · exact .ite (startVoice (.ite h.mirrorBreak h)) (steal (.ite h.mirrorBreak h))
    · split
      · dsimp only
        split
        · exact h.retriggerVoice
        · split
          · exact h.setReg.startVoice
          · split
            · exact h.dropStart
            · exact .ite (startVoice (setReg (.ite h.mirrorBreak h))) (steal (setReg (.ite h.mirrorBreak h)))
      · dsimp only
        split
        · exact h.retriggerVoice
        · split
          · exact h.startVoice
          · split
            · exact h.dropStart
            · exact .ite (startVoice (.ite h.mirrorBreak h)) (steal (.ite h.mirrorBreak h))

theorem noteOff {g keyno relvel time} (h : s₀.Keeps s) : s₀.Keeps (s.noteOff g keyno relvel time) := by
  unfold State.noteOff
  refine h.foldl fun h => ?_
  have released {c : Prop} [Decidable c] {t : State} {v} (h : s₀.Keeps t) :
      s₀.Keeps (if c then (t.applyWord v 0x82 relvel none).releaseVoice v time else t) := ite h.applyWord.releaseVoice h
  dsimp only
  split
  · exact ite (released h).setVRun (released h)
  · exact released h

theorem voiceStop {v} (h : s₀.Keeps s) : s₀.Keeps (s.voiceStop v) := by
  unfold State.voiceStop
  exact setVRun (.ite h.rampVoice h)

theorem replace {v src time} (h : s₀.Keeps s) : s₀.Keeps (s.replace v src time) := by
  unfold State.replace
  exact .ite h.mirrorBreak h

theorem directedStart {v key vel prio legato patch seed src time} (h : s₀.Keeps s) : s₀.Keeps (s.directedStart v key vel prio legato patch seed src time) := by
  unfold State.directedStart
  split
  · split
    · exact h.count.noticeV
    · split
      · split
        · exact .ite h.replace.startVoice (.ite h.reach.setVRun (.ite h.reach.retriggerVoice.setVRun h.reach.steal))
        · exact .ite h.replace.startVoice (.ite h.reach.setVRun (.ite (setVRun (retriggerVoice (.ite h.mirrorBreak (.ite h h.mirrorBreak)))) h.reach.steal))
      · split
        · exact .ite h.replace.startVoice (.ite h.reach.setVRun (.ite h.reach.retriggerVoice.setVRun h.reach.steal))
        · exact .ite h.replace.startVoice (.ite h.reach.setVRun (.ite (setVRun (retriggerVoice (.ite h.mirrorBreak (.ite h h.mirrorBreak)))) h.reach.steal))

theorem paramSet {v word value glide src time} (h : s₀.Keeps s) : s₀.Keeps (s.paramSet v word value glide src time).2 := by
  unfold State.paramSet
  exact .ite_snd h (.ite_snd h.setVRun h.applyWords.reachWords)

theorem voiceEvent {e src time} (h : s₀.Keeps s) : s₀.Keeps (s.voiceEvent e src time).2 := by
  unfold State.voiceEvent
  split
  · exact .ite_snd h.dropStart (.ite_snd h h.noteOn)
  · exact .ite_snd h.dropStart h.noteOff
  · exact .ite_snd h.dropStart (.ite_snd h (.ite_snd h.dropStart h.directedStart))
  · exact .ite_snd h.dropStart (.ite_snd h.applyWord.reach.releaseVoice h)
  · exact .ite_snd h.dropStart h.reach.voiceStop
  · exact .ite_snd h.dropStart (h.foldl fun h => h.reach.voiceStop)
  · exact .ite_snd h.dropStart h.paramSet

theorem holdWrite {src v word vals} (h : s₀.Keeps s) : s₀.Keeps (s.holdWrite src v word vals) := by
  unfold State.holdWrite
  exact h.beside

theorem joinNewHeld {before} (h : s₀.Keeps s) : s₀.Keeps (s.joinNewHeld before) := by
  unfold State.joinNewHeld
  exact h.beside

theorem applyHeldWrites {time} (h : s₀.Keeps s) : s₀.Keeps (s.applyHeldWrites time) := by
  unfold State.applyHeldWrites
  exact h.beside.foldl fun h => .ite h.setVRun h.applyHeldWrite

theorem retireVoice {v time} (h : s₀.Keeps s) : s₀.Keeps (s.retireVoice v time) := by
  unfold State.retireVoice
  exact setVRun (.ite h.mirrorBreak h)

theorem moveGroup {time g} (h : s₀.Keeps s) : s₀.Keeps (s.moveGroup time g) := by
  unfold State.moveGroup
  split
  · exact .ite h.setFld (.ite (notice (h.setFld.foldl fun h => h.retireVoice)) h)
  · exact .ite h (.ite (notice (h.setFld.foldl fun h => endVoice (.ite h.mirrorBreak h))) h)

theorem endRamp {v time} (h : s₀.Keeps s) : s₀.Keeps (s.endRamp v time) := by
  unfold State.endRamp
  dsimp only
  split
  · split
    · exact h.startVoice
    · exact h.endVoice
  · exact h

theorem limitRelease {v time} (h : s₀.Keeps s) : s₀.Keeps (s.limitRelease v time) := by
  unfold State.limitRelease
  exact .ite h.rampVoice h

theorem staleVoices {time} (h : s₀.Keeps s) : s₀.Keeps (s.staleVoices time) := by
  unfold State.staleVoices
  exact .ite (h.foldl fun h => .ite h.mirrorBreak h) h

theorem intakeEnds {moves fins time} (h : s₀.Keeps s) : s₀.Keeps (s.intakeEnds moves fins time) := by
  unfold State.intakeEnds
  exact foldl (foldl (h.staleVoices.foldl fun h => h.moveGroup) fun h => ite h.endVoice h) fun h => h.endRamp.limitRelease

theorem intakeWrites {time} (h : s₀.Keeps s) : s₀.Keeps (s.intakeWrites time) := by
  unfold State.intakeWrites
  exact h.applyHeldWrites.beside

theorem fadeLatches {v r time} (h : s₀.Keeps s) : s₀.Keeps (s.fadeLatches v r time) := by
  unfold State.fadeLatches
  exact ite (latched (ite h.latched h)) (ite h.latched h)

theorem ite_fst {α : Type} {p q : State × α} {c : Prop} [Decidable c] (h : s₀.Keeps p.1) (g : s₀.Keeps q.1) :
    s₀.Keeps (if c then p else q).1 := by
  split <;> assumption

theorem foldl_fst {α β : Type} {f : State × β → α → State × β} {l : List α} {p : State × β} (h : s₀.Keeps p.1)
    (step : ∀ {p x}, s₀.Keeps p.1 → s₀.Keeps (f p x).1) : s₀.Keeps (l.foldl f p).1 := by
  induction l generalizing p with
  | nil => exact h
  | cons x l ih => exact ih (step h)

theorem renderVoice {residue v time q} (h : s₀.Keeps s) : s₀.Keeps (s.renderVoice residue v time q).1 := by
  unfold State.renderVoice
  exact ite_fst h.setVRun (ite_fst (ite (mirrorBreak (ite h.checkWords.setVRun.noteErr h.checkWords.setVRun))
    (ite h.checkWords.setVRun.noteErr h.checkWords.setVRun)) h.checkWords.fadeLatches.setVRun)

theorem renderVoices {residue time} (h : s₀.Keeps s) : s₀.Keeps (s.renderVoices residue time) := by
  unfold State.renderVoices
  exact beside (setReg (foldl_fst (foldl h.beside fun h => h.setVRun) fun h => h.renderVoice))

theorem stopVoices (h : s₀.Keeps s) : s₀.Keeps s.stopVoices := by
  unfold State.stopVoices
  exact beside (h.foldl fun h => h.setVRun)

theorem storeHash (h : s₀.Keeps s) : s₀.Keeps s.storeHash := by
  unfold State.storeHash
  exact h.checkWords.setReg.setReg.setFlag

theorem recalcStart (h : s₀.Keeps s) : s₀.Keeps s.recalcStart.2 := by
  unfold State.recalcStart
  exact .ite_snd h h.setFlag.beside

theorem recalcEnd (h : s₀.Keeps s) : s₀.Keeps s.recalcEnd := by
  unfold State.recalcEnd
  exact .ite h.storeHash.setFlag.setFlag h

theorem glideNode {j old new} (h : s₀.Keeps s) : s₀.Keeps (s.glideNode j old new) := by
  unfold State.glideNode
  exact .ite h.beside (.ite h h.beside)

end Sys2Proof.Machine.State.Keeps
end

/-!
SUPPORT. What the operations of units and the pack keep.
-/
section
namespace Sys2Proof.Machine.State.Keeps


variable {s₀ s : State}

theorem setRetired {u b} (h : s₀.Keeps s) : s₀.Keeps (s.setRetired u b) := by
  unfold State.setRetired
  exact .ite h.setFlag h.setFlag

theorem setSliceStat {k b} (h : s₀.Keeps s) : s₀.Keeps (s.setSliceStat k b) := by
  unfold State.setSliceStat
  exact .ite h.setFlag h.setFlag

theorem takeOut {u} (h : s₀.Keeps s) : s₀.Keeps (s.takeOut u) := by
  unfold State.takeOut
  exact .ite (.ite h.portDown.beside h.portDown) (.ite h.setAport.setFlag.setFlag.raise.apPost (.ite h.setDac.raise.anaPost (.ite h.setCout.setFlag.raise.anaPost (.ite h.setSliceStat h.cancelNoCore))))

theorem retireNow {u cause} (h : s₀.Keeps s) : s₀.Keeps (s.retireNow u cause) := by
  unfold State.retireNow
  exact .ite h.logFault h.setRetired.takeOut.drawStatus.logFault.drawStatus.postFault

theorem retireUnit {u cause} (h : s₀.Keeps s) : s₀.Keeps (s.retireUnit u cause) := by
  unfold State.retireUnit
  exact .ite h (.ite h.setCore h.retireNow)

theorem afterItem {k} (h : s₀.Keeps s) : s₀.Keeps (s.afterItem k) := by
  unfold State.afterItem
  split
  · exact h.setCore.retireNow
  · exact h

theorem unitError {u} (h : s₀.Keeps s) : s₀.Keeps (s.unitError u) := by
  unfold State.unitError
  split
  · exact h
  · dsimp only
    split
    · exact .ite h.count.beside.retireUnit h.count.beside
    · exact h.count.beside

theorem clean (h : s₀.Keeps s) : s₀.Keeps s.clean := by
  unfold State.clean
  exact h.beside

theorem settle (h : s₀.Keeps s) : s₀.Keeps s.settle := by
  unfold State.settle
  exact h.beside.foldl fun h => h.unitError

theorem testStart {u} (h : s₀.Keeps s) : s₀.Keeps (s.testStart u) := by
  unfold State.testStart
  exact .ite h.setFlag.beside.setCore h.setFlag.beside

theorem testRecord {u st} (h : s₀.Keeps s) : s₀.Keeps (s.testRecord u st) := by
  unfold State.testRecord
  exact h.postFault

theorem chargeTest {u} (h : s₀.Keeps s) : s₀.Keeps (s.chargeTest u) := by
  unfold State.chargeTest
  exact .ite h.count h

theorem testEnd {pass} (h : s₀.Keeps s) : s₀.Keeps (s.testEnd pass) := by
  unfold State.testEnd
  split
  · exact h
  · next u _ =>
    exact ite h (ite (testRecord (setFld (drawStatus (ite h.setFlag.beside.setFlag.setCore h.setFlag.beside.setFlag))))
      (retireUnit (chargeTest (testRecord (setFld (drawStatus (ite h.setFlag.beside.setFlag.setCore h.setFlag.beside.setFlag)))))))

theorem putBack {u} (h : s₀.Keeps s) : s₀.Keeps (s.putBack u) := by
  unfold State.putBack
  exact .ite (.ite h.setPort.setLink h.setPort.setLink.beside) (.ite h.setFlag.setFlag.raise (.ite h.setFlag (.ite h.setFld (.ite h.setSliceStat h))))

theorem readmitOn {u pass} (h : s₀.Keeps s) : s₀.Keeps (s.readmitOn u pass).2 := by
  unfold State.readmitOn
  split
  · exact .ite_snd h h
  · split
    · split
      · exact .ite_snd h h.drawStatus.setFlag.testRecord
      · dsimp only
        split
        · exact h
        · exact h.drawStatus.setFlag.testRecord.setRetired.beside.putBack.drawStatus.logFault.drawStatus.postFault
    · exact .ite_snd h (.ite_snd h h.setRetired.beside.putBack.drawStatus.logFault.drawStatus.postFault)

theorem faultCmd {op u pass} (h : s₀.Keeps s) : s₀.Keeps (s.faultCmd op u pass).2 := by
  unfold State.faultCmd
  exact .ite_snd (.ite_snd h h.testStart) (.ite_snd h.retireUnit (.ite_snd h.readmitOn h))

theorem setPack {f} (h : s₀.Keeps s) (flash : ∀ p, (f p).flash = p.flash) : s₀.Keeps (s.setPack f) :=
  h.setFlash fun wf => (congrArg (Flash.wf · = true) (flash s.pack)).mpr wf

theorem program {a l} (h : s₀.Keeps s) : s₀.Keeps (s.program a l) := h.setFlash fun wf => s.program_wf wf a l

theorem erase {a n} (h : s₀.Keeps s) : s₀.Keeps (s.erase a n) := h.setFlash fun wf => s.erase_wf wf a n

theorem showCandidates (h : s₀.Keeps s) : s₀.Keeps s.showCandidates := by
  unfold State.showCandidates
  exact h.setFld.setReg.setReg

theorem setUstate {x} (h : s₀.Keeps s) : s₀.Keeps (s.setUstate x) := by
  unfold State.setUstate
  exact .ite h h.setFld.raise

theorem packCode {st} (h : s₀.Keeps s) : s₀.Keeps (s.packCode st) := by
  unfold State.packCode
  exact h.setFld

theorem setOwner {o} (h : s₀.Keeps s) : s₀.Keeps (s.setOwner o) := by
  unfold State.setOwner
  exact setFld (h.setPack (fun _ => rfl))

theorem packPost {code bank status seq} (h : s₀.Keeps s) : s₀.Keeps (s.packPost code bank status seq) := by
  unfold State.packPost
  exact h.post

theorem packBegin {src} (h : s₀.Keeps s) : s₀.Keeps (s.packBegin src) := by
  unfold State.packBegin
  exact h.erase.showCandidates.setOwner.setUstate.setReg.setPack (fun _ => rfl)

theorem packProgram {ofs data} (h : s₀.Keeps s) : s₀.Keeps (s.packProgram ofs data) := by
  unfold State.packProgram
  exact h.program.setReg.setPack (fun _ => rfl)

theorem packAbort (h : s₀.Keeps s) : s₀.Keeps s.packAbort := by
  unfold State.packAbort
  exact h.setOwner.setUstate.setPack (fun _ => rfl)

theorem packReload {src bank} (h : s₀.Keeps s) : s₀.Keeps (s.packReload src bank) := by
  unfold State.packReload
  exact .ite h.drawStatus.logFault.beside h.drawStatus.logFault.beside

theorem packFuse {hash} (h : s₀.Keeps s) : s₀.Keeps (s.packFuse hash) := by
  unfold State.packFuse
  exact setFlag (h.setPack (fun _ => rfl))

theorem eraseEnds (h : s₀.Keeps s) : s₀.Keeps s.eraseEnds := by
  unfold State.eraseEnds
  exact .ite (packPost (h.erase.setUstate.setPack (fun _ => rfl))) h

theorem verifyEnds (h : s₀.Keeps s) : s₀.Keeps s.verifyEnds := by
  unfold State.verifyEnds
  exact .ite (packPost (h.setUstate.packCode.setPack (fun _ => rfl))) h

theorem commitEnds (h : s₀.Keeps s) : s₀.Keeps s.commitEnds := by
  unfold State.commitEnds
  exact ite (packPost (logFault (drawStatus (setPack h.program.showCandidates.setOwner.setUstate (fun _ => rfl))))) h

theorem cutCommit (h : s₀.Keeps s) : s₀.Keeps s.cutCommit := by
  unfold State.cutCommit
  exact .ite h.draw.program h

theorem packOp {src op bank ofs data count} (h : s₀.Keeps s) : s₀.Keeps (s.packOp src op bank ofs data count).2.2 := by
  have code : s₀.Keeps (if op = 0 then s else s.packCode 0) := ite h h.packCode
  unfold State.packOp
  refine ite_snd_snd h.packCode ?_
  dsimp only
  split
  · exact packBegin code
  · exact packProgram code
  · dsimp only
    exact code.setUstate.setPack fun _ => rfl
  · dsimp only
    exact code.setUstate.setPack fun _ => rfl
  · exact packAbort code
  · exact packReload code
  · exact code
  · exact packFuse code
  · exact code

theorem unloadData {adr l} (h : s₀.Keeps s) : s₀.Keeps (s.unloadData adr l).2 := by
  unfold State.unloadData
  exact .ite_snd h.basinWrite.packCode h.basinWrite

theorem packLocal {src op bank} (h : s₀.Keeps s) : s₀.Keeps (s.packLocal src op bank).2 := by
  unfold State.packLocal
  refine ite_snd h.packCode (ite_snd h.packCode (ite_snd ?_ (ite_snd h.packOp.unloadData h.packOp)))
  split
  · next read => exact packOp ((congrArg (s₀.Keeps ·.2) read).mp h.basinRead)
  · next read => exact packCode ((congrArg (s₀.Keeps ·.2) read).mp h.basinRead)

theorem logWrite (h : s₀.Keeps s) : s₀.Keeps s.logWrite := by
  unfold State.logWrite
  split
  · exact h
  · exact .ite h (setPack (setReg (program (.ite h.erase h))) (fun _ => rfl))

theorem findLog (h : s₀.Keeps s) : s₀.Keeps s.findLog := by
  unfold State.findLog
  split
  · exact h.setReg.setPack (fun _ => rfl)
  · exact h.setReg.setPack (fun _ => rfl)

end Sys2Proof.Machine.State.Keeps
end

/-!
SUPPORT. What the operations of the serial ports and the timers keep.
-/
section
namespace Sys2Proof.Machine.State.Keeps


variable {s₀ s : State}

theorem setSerp {n f} (h : s₀.Keeps s) : s₀.Keeps (s.setSerp n f) := by
  unfold State.setSerp
  exact h.setSer (by simp)

theorem serPost {code n status b3 value} (h : s₀.Keeps s) : s₀.Keeps (s.serPost code n status b3 value) := by
  unfold State.serPost
  exact h.post

theorem framePost {n status id data} (h : s₀.Keeps s) : s₀.Keeps (s.framePost n status id data) := by
  unfold State.framePost
  exact h.post

theorem serBusy {n b} (h : s₀.Keeps s) : s₀.Keeps (s.serBusy n b) := by
  unfold State.serBusy
  exact h.setFlag

theorem txLoad {n x brk} (h : s₀.Keeps s) : s₀.Keeps (s.txLoad n x brk) := by
  unfold State.txLoad
  exact h.setSerp

theorem txNext {n} (h : s₀.Keeps s) : s₀.Keeps (s.txNext n) := by
  unfold State.txNext
  split
  · dsimp only
    split
    · exact h
    · split
      · exact h.setSerp.txLoad
      · exact h.setSerp.txLoad
      · exact h
      · exact h
  · dsimp only
    split
    · exact h
    · split
      · exact h.setSerp.txLoad
      · exact h.setSerp.txLoad
      · exact .ite h.setSerp.txLoad.serPost h.setSerp.txLoad
      · exact h

theorem txPush {n x} (h : s₀.Keeps s) : s₀.Keeps (s.txPush n x) := by
  unfold State.txPush
  exact h.setSerp.txNext

theorem tailOff {n} (h : s₀.Keeps s) : s₀.Keeps (s.tailOff n) := by
  unfold State.tailOff
  exact .ite h.setSerp h

theorem frameEnd {n status id data} (h : s₀.Keeps s) : s₀.Keeps (s.frameEnd n status id data) := by
  unfold State.frameEnd
  exact h.setSerp.serBusy.framePost

theorem frameAct {n id} (h : s₀.Keeps s) : s₀.Keeps (s.frameAct n id) := by
  unfold State.frameAct
  exact .ite h.basinRead.setSerp.frameEnd (.ite h.basinRead.setSerp.setSerp.serBusy (.ite h.basinRead.setSerp.setSerp h.basinRead.setSerp.setSerp.serBusy.txNext))

theorem startHeader {n id} (h : s₀.Keeps s) : s₀.Keeps (s.startHeader n id) := by
  unfold State.startHeader
  exact h.setSerp.serBusy.txNext

theorem frameTimeout {n} (h : s₀.Keeps s) : s₀.Keeps (s.frameTimeout n) := by
  unfold State.frameTimeout
  dsimp only
  split
  · exact .ite h.frameEnd h
  · exact .ite h.frameEnd h
  · exact h

theorem txDone {n} (h : s₀.Keeps s) : s₀.Keeps (s.txDone n) := by
  unfold State.txDone
  dsimp only
  split
  · exact h
  · split
    · split
      · exact h.setSerp.frameAct
      · exact h.setSerp.frameEnd
      · exact h.setSerp.frameEnd
      · exact h.setSerp.txNext
    · exact h.setSerp.txNext

theorem autoRate {n c bitsN} (h : s₀.Keeps s) : s₀.Keeps (s.autoRate n c bitsN) := by
  unfold State.autoRate
  exact .ite h.setReg.setFld.setFlag.setSerp.serPost h.draw.setFlag.serPost

theorem rxErrors {n e} (h : s₀.Keeps s) : s₀.Keeps (s.rxErrors n e) := by
  unfold State.rxErrors
  exact .ite (count (.ite (count (.ite h.count h)) (.ite h.count h))) (.ite (count (.ite h.count h)) (.ite h.count h))

theorem rxStart {n tenths} (h : s₀.Keeps s) : s₀.Keeps (s.rxStart n tenths) := by
  unfold State.rxStart
  exact .ite h.setSerp h

theorem rxPush {n e} (h : s₀.Keeps s) : s₀.Keeps (s.rxPush n e) := by
  unfold State.rxPush
  exact .ite h.setSerp.count (.ite (txNext (setFlag (setSerp (.ite h.setSerp.serPost h.setSerp)))) (.ite h.setSerp.serPost h.setSerp))

theorem rxRead {n} (h : s₀.Keeps s) : s₀.Keeps (s.rxRead n).2 := by
  unfold State.rxRead
  split
  · exact h
  · exact .ite h.setSerp.setSerp.setFlag.txNext h.setSerp

theorem rxData {n c e} (h : s₀.Keeps s) : s₀.Keeps (s.rxData n c e) := by
  unfold State.rxData
  exact .ite (txNext (setFlag (.ite h.autoRate h))) (rxPush (.ite h.autoRate h))

theorem txBroken {n} (h : s₀.Keeps s) : s₀.Keeps (s.txBroken n) := by
  unfold State.txBroken
  split
  · exact h.setSerp
  · exact h.setSerp
  · exact h

theorem rxFrame {n c e} (h : s₀.Keeps s) : s₀.Keeps (s.rxFrame n c e) := by
  unfold State.rxFrame
  dsimp only
  split
  · exact .ite h.txBroken h
  · split
    · exact .ite h.frameEnd.setSerp (.ite h.setSerp h.frameEnd)
    · exact .ite h (.ite h.autoRate.setSerp h.setSerp)
    · exact .ite h.setSerp (.ite h.frameAct h.frameEnd)
    · exact .ite h.setSerp h

theorem rxChar {n c} (h : s₀.Keeps s) : s₀.Keeps (s.rxChar n c) := by
  unfold State.rxChar
  exact .ite h (.ite h.rxStart.setSerp.rxErrors.rxData (.ite h.rxStart.setSerp.rxErrors.rxFrame h.rxStart.setSerp))

theorem mapEnt {n i} (h : s₀.Keeps s) : s₀.Keeps (s.mapEnt n i).2 := by
  unfold State.mapEnt
  exact h.basinRead

theorem deliver {e value fade} (h : s₀.Keeps s) : s₀.Keeps (s.deliver e value fade).2 := by
  unfold State.deliver
  exact .ite_snd (.ite_snd h.holdWrite h) (.ite_snd h h.sendImage)

theorem mapAct {n i value e fade always} (h : s₀.Keeps s) : s₀.Keeps (s.mapAct n i value e fade always) := by
  unfold State.mapAct
  exact .ite h (.ite h.deliver.setSerp h.deliver.count)

theorem mapPacket {n slots} (h : s₀.Keeps s) : s₀.Keeps (s.mapPacket n slots) := by
  unfold State.mapPacket
  exact .ite h (h.foldl fun h => h.mapEnt.mapAct)

theorem dmxLost {n} (h : s₀.Keeps s) : s₀.Keeps (s.dmxLost n) := by
  unfold State.dmxLost
  exact .ite h (.ite (h.setFlag.raise.serPost.foldl fun h => h.mapEnt.mapAct) h.setFlag.raise.serPost)

theorem dmxLossOn {n} (h : s₀.Keeps s) : s₀.Keeps (s.dmxLossOn n) := by
  unfold State.dmxLossOn
  exact .ite h.dmxLost h

theorem stuckOn {n} (h : s₀.Keeps s) : s₀.Keeps (s.stuckOn n) := by
  unfold State.stuckOn
  exact .ite (.ite h.setFlag.serPost.dmxLost h.setFlag.serPost) h

theorem stuckOff {n} (h : s₀.Keeps s) : s₀.Keeps (s.stuckOff n) := by
  unfold State.stuckOff
  exact .ite h.setFlag.setSerp.serPost h

theorem dmxBuffer {n} (h : s₀.Keeps s) : s₀.Keeps (s.dmxBuffer n).2 := by
  unfold State.dmxBuffer
  exact h.basinRead.basinRead

theorem dmxSend {n} (h : s₀.Keeps s) : s₀.Keeps (s.dmxSend n) := by
  unfold State.dmxSend
  exact .ite h.dmxBuffer.setSerp h

theorem rdmEnd {n} (h : s₀.Keeps s) : s₀.Keeps (s.rdmEnd n) := by
  unfold State.rdmEnd
  exact h.setSerp.serBusy

theorem dmxTake {n pkt} (h : s₀.Keeps s) : s₀.Keeps (s.dmxTake n pkt) := by
  unfold State.dmxTake
  dsimp only
  split
  · exact h
  · exact .ite (mapPacket (.ite (serPost (raise (setFlag (setSerp (.ite (rdmEnd (.ite h.rxStart.countBy.countBy.basinWrite.setSerp.serPost h.rxStart.countBy.countBy.basinWrite.setSerp)) (.ite h.rxStart.countBy.countBy.basinWrite.setSerp.serPost h.rxStart.countBy.countBy.basinWrite.setSerp)))))) (setSerp (.ite (rdmEnd (.ite h.rxStart.countBy.countBy.basinWrite.setSerp.serPost h.rxStart.countBy.countBy.basinWrite.setSerp)) (.ite h.rxStart.countBy.countBy.basinWrite.setSerp.serPost h.rxStart.countBy.countBy.basinWrite.setSerp))))) (.ite (rdmEnd (.ite h.rxStart.countBy.countBy.basinWrite.setSerp.serPost h.rxStart.countBy.countBy.basinWrite.setSerp)) (.ite h.rxStart.countBy.countBy.basinWrite.setSerp.serPost h.rxStart.countBy.countBy.basinWrite.setSerp))

theorem startRdm {n len noBreak} (h : s₀.Keeps s) : s₀.Keeps (s.startRdm n len noBreak) := by
  unfold State.startRdm
  exact .ite h.basinRead.serBusy.setSerp (.ite h.basinRead.serBusy.setSerp.serBusy h.basinRead.serBusy.setSerp)

theorem rdmTimeout {n} (h : s₀.Keeps s) : s₀.Keeps (s.rdmTimeout n) := by
  unfold State.rdmTimeout
  split
  · exact .ite h.rdmEnd.serPost h
  · exact h

theorem serRegWrite {n o v} (h : s₀.Keeps s) : s₀.Keeps (s.serRegWrite n o v) := by
  unfold State.serRegWrite
  exact .ite (txNext (.ite h.setReg.setSerp h.setReg)) (.ite h.setReg.setSerp (.ite (.ite h.setReg.basinRead h.setReg) (.ite (.ite h.setFlag h.txPush) (.ite (.ite h.startHeader h.startRdm) h.setReg))))

theorem serialOff (h : s₀.Keeps s) : s₀.Keeps s.serialOff := by
  unfold State.serialOff
  exact h.foldl fun h => h.setSerp.serBusy

theorem serialGo (h : s₀.Keeps s) : s₀.Keeps s.serialGo := by
  unfold State.serialGo
  exact h.foldl fun h => h.txNext

theorem setTch {n f} (h : s₀.Keeps s) : s₀.Keeps (s.setTch n f) := by
  unfold State.setTch
  exact h.setTmr (by simp)

theorem tmrPost {n events value} (h : s₀.Keeps s) : s₀.Keeps (s.tmrPost n events value) := by
  unfold State.tmrPost
  exact .ite h.basinPut.setTch (.ite (setTch (.ite h.offerTmr.setFlag h.offerTmr)) h.setTch)

theorem tmrPut {n c} (h : s₀.Keeps s) : s₀.Keeps (
    let s := s.setTch n (fun t => { t with cnt := c % 2 ^ 32 })
    if s.linkedLow n then s.setTch (n + 1) (fun t => { t with cnt := c / 2 ^ 32 % 2 ^ 32, jump := none }) else s) :=
  ite h.setTch.setTch h.setTch

theorem tmrStep {n k} (h : s₀.Keeps s) : s₀.Keeps (s.tmrStep n k) := by
  have staged {c : Prop} [Decidable c] : s₀.Keeps (if c then
      match (s.tch n).staged with
      | some (a, b) => s.setTch n (fun t => { t with cmp := a, per := b, staged := none })
      | none => s
    else s) := by
    refine ite ?_ h
    split
    · exact h.setTch
    · exact h
  unfold State.tmrStep
  refine ite h ?_
  dsimp only
  split
  · exact h.tmrPut.setTch
  · refine ite (tmrPost ?_) ?_
    all_goals
      refine ite (setTch (ite (setFlag ?_) ?_)) (ite (setFlag ?_) ?_)
      all_goals exact ite staged.tmrPut.setFlag staged.tmrPut

theorem tmrStepAll {k} (h : s₀.Keeps s) : s₀.Keeps (s.tmrStepAll k) := by
  unfold State.tmrStepAll
  exact h.foldl fun h => h.tmrStep

theorem tmrRun {fuel n} (h : s₀.Keeps s) : s₀.Keeps (State.tmrRun fuel s n) := by
  induction fuel generalizing s n with
  | zero => exact h
  | succ fuel ih => exact ite h (ih (tmrStepAll h.beside))

theorem tmrClock {t c a f} (h : s₀.Keeps s) : s₀.Keeps { s with time := t, clk := c, tmr := { s.tmr with acc := a, frac := f } } :=
  setTmr (s := { s with time := t, clk := c }) h.beside id

theorem slowRun {fuel n} (h : s₀.Keeps s) : s₀.Keeps (State.slowRun fuel s n) := by
  induction fuel generalizing s n with
  | zero => exact h
  | succ fuel ih => exact ite h.tmrClock (ite (tmrRun (setTmr h.tmrClock.tmrStepAll id)) (ih h.tmrClock.tmrStepAll))

theorem timePasses {n} (h : s₀.Keeps s) : s₀.Keeps (s.timePasses n) := by
  unfold State.timePasses
  exact ite h.slowRun (ite h.beside h.tmrRun)

theorem sourceChange (h : s₀.Keeps s) : s₀.Keeps s.sourceChange := by
  unfold State.sourceChange
  exact .ite h (.ite (h.setTmr (by simp)) (h.setTmr (by simp)))

theorem captureOn {n rising} (h : s₀.Keeps s) : s₀.Keeps (s.captureOn n rising) := by
  unfold State.captureOn
  split
  · dsimp only
    split
    · exact h
    · exact .ite h.setTch (tmrPost (.ite (setFlag (.ite h.setTch.setReg.setReg h.setTch.setReg)) (setFlag (.ite h.setTch.setReg.setReg h.setTch.setReg))))
  · dsimp only
    split
    · exact h
    · exact .ite h.setTch (tmrPost (.ite (setFlag (.ite h.setTch.setReg.setReg h.setTch.setReg)) (setFlag (.ite h.setTch.setReg.setReg h.setTch.setReg))))

theorem staggerLoad {g b} (h : s₀.Keeps s) : s₀.Keeps (s.staggerLoad g b) := by
  unfold State.staggerLoad
  exact .ite (.ite (setFlag (setFlag (foldl (h.setTmr (by simp)) fun h => h.setTch))) (setFlag (foldl (h.setTmr (by simp)) fun h => h.setTch))) h

theorem staggersAt {b} (h : s₀.Keeps s) : s₀.Keeps (s.staggersAt b) := by
  unfold State.staggersAt
  exact h.foldl fun h => h.staggerLoad

theorem tmrRead {n} (h : s₀.Keeps s) : s₀.Keeps (s.tmrRead n).2 := by
  unfold State.tmrRead
  exact .ite_snd h (.ite_snd h.setTch h)

theorem tmrRegWrite {n o v} (h : s₀.Keeps s) : s₀.Keeps (s.tmrRegWrite n o v) := by
  unfold State.tmrRegWrite
  exact .ite (.ite h.setReg.setTch h.setReg) (.ite (.ite h.setTch (.ite h.setTch.setTch h.setTch)) (.ite (.ite h.setReg.setTch (.ite h.setReg.setTch.setFlag h.setReg.setTch)) h.setReg))

theorem groupRegWrite {g o v} (h : s₀.Keeps s) : s₀.Keeps (s.groupRegWrite g o v) := by
  unfold State.groupRegWrite
  exact .ite (setReg (.ite (h.setTmr (by simp)) h)) h.setReg

end Sys2Proof.Machine.State.Keeps
end

/-!
SUPPORT. What the operations of power keep.
-/
section
namespace Sys2Proof.Machine.State.Keeps


variable {s₀ s : State}

/-- The power control and the Dispatcher but for the source rings. -/
theorem powerDisp {w d r e j n l p} (h : s₀.Keeps s) :
    s₀.Keeps { s with power := w, disp := ⟨d, r, s.disp.rings, e, j, n, l, p⟩ } := h

theorem pwrPost {code detail value} (h : s₀.Keeps s) : s₀.Keeps (s.pwrPost code detail value) := by
  unfold State.pwrPost
  exact .ite h h.post

theorem clockRecord (h : s₀.Keeps s) : s₀.Keeps s.clockRecord := by
  unfold State.clockRecord
  exact h.pwrPost

theorem setWaitsup {b} (h : s₀.Keeps s) : s₀.Keeps (s.setWaitsup b) := by
  unfold State.setWaitsup
  exact .ite h h.setFlag.pwrPost

theorem judgeWait {target} (h : s₀.Keeps s) : s₀.Keeps (s.judgeWait target) := by
  unfold State.judgeWait
  exact h.setWaitsup

theorem acceptMode {m} (h : s₀.Keeps s) : s₀.Keeps (s.acceptMode m) := by
  unfold State.acceptMode
  exact ite h h.setFlag.setFld.powerDisp.judgeWait

theorem leaveTrail (h : s₀.Keeps s) : s₀.Keeps s.leaveTrail := by
  unfold State.leaveTrail
  split
  · dsimp only
    split
    · exact setTrail (setFlag (setFlag (.ite h.stopHead.setRole.setNomap.setReg.setLock h.stopHead.setRole.setNomap.setReg.setLock.setLink)))
    · exact setTrail (setFlag (setFlag (.ite h.stopHead.setRole.setNomap.setReg.setLock.setLink h.stopHead.setRole.setNomap.setReg.setLock.setLink.setLink)))
  · dsimp only
    split
    · exact setTrail (setFlag (setFlag (.ite h.setRole.setNomap.setReg.setLock h.setRole.setNomap.setReg.setLock.setLink)))
    · exact setTrail (setFlag (setFlag (.ite h.setRole.setNomap.setReg.setLock.setLink h.setRole.setNomap.setReg.setLock.setLink.setLink)))

theorem openRelay (h : s₀.Keeps s) : s₀.Keeps s.openRelay := by
  unfold State.openRelay
  exact .ite h h.beside

theorem closeRelay (h : s₀.Keeps s) : s₀.Keeps s.closeRelay := by
  unfold State.closeRelay
  exact h.beside

theorem enterMode {old m} (h : s₀.Keeps s) : s₀.Keeps (s.enterMode old m) := by
  unfold State.enterMode
  exact raise (pwrPost (ite
    (serialGo (setTime8 (ite h.powerDisp.setWaitsup.setFld.setFlag.setFld h.powerDisp.setWaitsup.setFld.setFlag.setFld.openRelay)))
    h.powerDisp.setWaitsup.setFld.setFlag.setFld))

theorem stopEngines {t} (h : s₀.Keeps s) : s₀.Keeps (s.stopEngines t) := by
  unfold State.stopEngines
  exact h.stopVoices.dispBeside

theorem quietStep {t} (h : s₀.Keeps s) : s₀.Keeps (s.quietStep t) := by
  unfold State.quietStep
  exact .ite h (.ite h.beside (.ite h.beside h))

theorem reloadStep (h : s₀.Keeps s) : s₀.Keeps s.reloadStep := by
  unfold State.reloadStep
  exact .ite h (.ite h.beside h.beside)

theorem transStep {t} (h : s₀.Keeps s) : s₀.Keeps (s.transStep t) := by
  unfold State.transStep
  exact .ite (.ite h.judgeWait.quietStep h.judgeWait) (.ite h.judgeWait (.ite h.judgeWait h.judgeWait.enterMode))

theorem powerBoundary (h : s₀.Keeps s) : s₀.Keeps s.powerBoundary := by
  unfold State.powerBoundary
  dsimp only
  split
  · exact h.reloadStep
  · exact .ite h.reloadStep (.ite h.reloadStep.beside (.ite h.reloadStep.stopEngines.transStep h.reloadStep.transStep))

theorem showRetired (h : s₀.Keeps s) : s₀.Keeps s.showRetired := by
  unfold State.showRetired
  dsimp only
  split
  · exact .ite (setFld (setFld (h.foldl fun h => h.setFlag))) (setFld (h.foldl fun h => h.setFlag))
  · exact .ite (setFld (h.foldl fun h => h.setFlag)) (h.foldl fun h => h.setFlag)

theorem showClocks {osc lxfail} (h : s₀.Keeps s) : s₀.Keeps (s.showClocks osc lxfail) := by
  unfold State.showClocks
  exact h.setReg.setFlag

theorem risingFrom_filter {α : Type} (q : Nat × α → Bool) (l : List (Nat × α)) (b : Nat) (h : Sp.risingFrom b l = true) :
    Sp.risingFrom b (l.filter q) = true := by
  induction l generalizing b with
  | nil => rfl
  | cons p t ih =>
    obtain ⟨lo, rest⟩ := Bool.and_eq_true_iff.mp h
    by_cases kept : q p = true
    · rw [List.filter_cons_of_pos kept]
      exact Bool.and_eq_true_iff.mpr ⟨lo, ih _ rest⟩
    · rw [List.filter_cons_of_neg kept]
      exact Sp.risingFrom_mono (by have := of_decide_eq_true lo; omega) (ih _ rest)

theorem wf_filter {α : Type} [DecidableEq α] {dflt : Nat → α} (q : Nat × α → Bool) {l : List (Nat × α)} (h : Sp.wf dflt l = true) :
    Sp.wf dflt (l.filter q) = true := by
  obtain ⟨rising, set⟩ := Bool.and_eq_true_iff.mp h
  refine Bool.and_eq_true_iff.mpr ⟨risingFrom_filter q l 0 rising, List.all_eq_true.mpr fun p hp => ?_⟩
  exact List.all_eq_true.mp set p (List.mem_of_mem_filter hp)

theorem coreReset {warm keepTimers} (h : s₀.Keeps s) : s₀.Keeps (s.coreReset warm keepTimers) := by
  have kept : s₀.Keeps (if warm then s.cutCommit.basin.copying.foldl (fun s _ => s.endCopy) s.cutCommit.returnRegion else s.cutCommit) :=
    ite (h.cutCommit.returnRegion.foldl fun h => h.endCopy) h.cutCommit
  unfold State.coreReset
  refine showRetired (showClocks ⟨fun canonical => ?_, fun shaped => ?_⟩)
  · obtain ⟨basin, lram, flash, regs⟩ := State.canonical_iff.mp (kept.1 canonical)
    refine State.canonical_iff.mpr ⟨?_, ?_, flash, wf_filter _ regs⟩
    · cases warm
      · rfl
      · exact basin
    · cases warm
      · rfl
      · exact lram
  · obtain ⟨-, -, -, -, -, -, chans⟩ := State.shaped_iff.mp (kept.2 shaped)
    refine State.shaped_iff.mpr ⟨rfl, rfl, rfl, rfl, rfl, rfl, ?_⟩
    cases keepTimers
    · rfl
    · exact chans

theorem warmReset {c} (h : s₀.Keeps s) : s₀.Keeps (s.warmReset c) := by
  unfold State.warmReset
  exact .ite h (.ite h.setFlag h.setFlag.coreReset.beside)

theorem coldReset (h : s₀.Keeps s) : s₀.Keeps s.coldReset := by
  refine ⟨fun canonical => ?_, fun _ => rfl⟩
  obtain ⟨-, -, flash, -⟩ := State.canonical_iff.mp (h.cutCommit.1 canonical)
  exact State.canonical_iff.mpr ⟨rfl, rfl, flash, rfl⟩

theorem wdogRun {n} (h : s₀.Keeps s) : s₀.Keeps (s.wdogRun n) := by
  unfold State.wdogRun
  exact .ite h.beside h

theorem wdogWrite {v} (h : s₀.Keeps s) : s₀.Keeps (s.wdogWrite v) := by
  unfold State.wdogWrite
  exact .ite h.setFld.setFlag.beside h.setFld

theorem wakesend {v} (h : s₀.Keeps s) : s₀.Keeps (s.wakesend v) := by
  unfold State.wakesend
  exact .ite (beside (setFlag (.ite h.setFlag.beside h))) (.ite h.setFlag.beside h)

theorem burstEnd {p} (h : s₀.Keeps s) : s₀.Keeps (s.burstEnd p) := by
  unfold State.burstEnd
  split
  · dsimp only
    split
    · exact .ite h.setFlag.beside h
    · exact h
  · dsimp only
    split
    · exact .ite h.setFlag.beside h
    · exact h

theorem wakeOn (h : s₀.Keeps s) : s₀.Keeps s.wakeOn := by
  unfold State.wakeOn
  exact .ite h (.ite h.setFlag.setFld.beside.judgeWait (.ite h.setFlag.coreReset.beside h))

theorem enterLantern {old} (h : s₀.Keeps s) : s₀.Keeps (s.enterLantern old) := by
  unfold State.enterLantern
  exact h.enterMode.coreReset.setReg.setFlag.setFlag.beside

theorem enterLow {t} (h : s₀.Keeps s) : s₀.Keeps (s.enterLow t) := by
  unfold State.enterLow
  have off : s₀.Keeps (let s := (s.leaveTrail.coutsOff).serialOff.closeRelay; { s with ana := { s.ana with dacs := List.replicate 4 Dac.closed } }) :=
    setAna h.leaveTrail.coutsOff.serialOff.closeRelay (fun _ => rfl) id
  exact ite (enterLantern off) off.setFlag.clockRecord.enterMode

theorem modeDone (h : s₀.Keeps s) : s₀.Keeps s.modeDone := by
  unfold State.modeDone
  split
  · exact h
  · exact .ite (.ite h.enterMode h) (.ite (.ite h.enterLow h) (.ite h.powerBoundary h))

end Sys2Proof.Machine.State.Keeps
end

/-!
SUPPORT. What the operations of registers and bus keep.
-/
section
namespace Sys2Proof.Machine.State.Keeps


variable {s₀ s : State}

theorem readTimeLo (h : s₀.Keeps s) : s₀.Keeps s.readTimeLo.2 := by
  unfold State.readTimeLo
  exact h.setTrail

theorem readPhase (h : s₀.Keeps s) : s₀.Keeps s.readPhase.2 := by
  unfold State.readPhase
  exact .ite_snd h.draw h

theorem readHostStat (h : s₀.Keeps s) : s₀.Keeps s.readHostStat.2 := by
  unfold State.readHostStat
  exact h.draw

theorem regRead {a} (h : s₀.Keeps s) : s₀.Keeps (s.regRead a).2 := by
  unfold State.regRead
  split
  · exact h
  · split
    · exact h.readTimeLo
    · split
      · exact h.readPhase
      · split
        · exact h.readHostStat
        · split
          · exact h.rxRead
          · split
            · exact h.tmrRead
            · split
              · exact h
              · exact h

theorem setCode {a st} (h : s₀.Keeps s) : s₀.Keeps (s.setCode a st) := by
  unfold State.setCode
  exact .ite h.spePcode (.ite h.speCcode (.ite h.setFld (.ite h.packCode (.ite h.setFld (.ite h.setFld h)))))

theorem storeReg {r a v} (h : s₀.Keeps s) : s₀.Keeps (s.storeReg r a v) := by
  unfold State.storeReg
  exact .ite (.ite h.setReg h) h.setReg

theorem goEvent (h : s₀.Keeps s) : s₀.Keeps s.goEvent.2 := by
  unfold State.goEvent
  refine ite_snd h ?_
  dsimp only
  refine ite_snd h ?_
  split
  · next read => exact (congrArg (s₀.Keeps ·.2) read).mp h.basinRead
  · next read =>
    have kept := (congrArg (s₀.Keeps ·.2) read).mp h.basinRead
    exact ite_snd kept (ite_snd kept (ite_snd kept.count (ite_snd kept.queueEvent kept)))

theorem pcmd {v} (h : s₀.Keeps s) : s₀.Keeps (s.pcmd v).2 := by
  unfold State.pcmd
  exact .ite_snd h.speLoad (.ite_snd h.speLoadCancel h)

theorem ccmd {v} (h : s₀.Keeps s) : s₀.Keeps (s.ccmd v).2 := by
  unfold State.ccmd
  exact .ite_snd h.speCommit (.ite_snd h.speCommitCancel (.ite_snd h.speDiscard h))

theorem sendLead {periods} (h : s₀.Keeps s) : s₀.Keeps (s.sendLead periods) := by
  unfold State.sendLead
  exact h.enqueue

theorem command {src a v pass} (h : s₀.Keeps s) : s₀.Keeps (s.command src a v pass).2 := by
  unfold State.command
  exact .ite_snd h.pcmd (.ite_snd h.ccmd (.ite_snd h.dspCmd (.ite_snd h.packLocal (.ite_snd h.faultCmd (.ite_snd (.ite_snd h.goEvent h) h)))))

theorem regApply {r a v} (h : s₀.Keeps s) : s₀.Keeps (s.regApply r a v) := by
  have stored : s₀.Keeps (s.storeReg r a v) := h.storeReg
  unfold State.regApply
  refine ite (ite h h.beside) (ite h.acceptMode (ite h.wdogWrite (ite h.wakesend (ite (ite stored.setReg.setFlag.clockRecord stored)
    (ite h.selectDesc (ite (ite stored.setFld stored) (ite (ite h stored.setStale) (ite (ite h.recalcStart h)
    (ite stored.glideNode.glideNode (ite stored.glideNode (ite (ite stored h.sendLead) (ite (ite h.setReg.setReg h)
    (ite (ite stored.startClear stored) (ite (ite stored.setSpe stored) ?_))))))))))))))
  split
  · exact ite stored.setAport stored
  split
  · exact h.coutWrite
  split
  · exact h.coutCoded
  exact ite h.serRegWrite (ite h.tmrRegWrite (ite h.groupRegWrite stored))

theorem regWrite1 {src a v pass} (h : s₀.Keeps s) : s₀.Keeps (s.regWrite1 src a v pass).2 := by
  unfold State.regWrite1
  split
  · split
    · exact .ite_snd h.setCode (.ite h.command h.command.setCode)
    · split
      · exact .ite_snd h.setCode h.regApply
      · exact .ite_snd h.setCode h
  · split
    · exact .ite_snd h (.ite h.command h.command.setCode)
    · split
      · exact .ite_snd h h.regApply
      · exact .ite_snd h h

theorem correctRam {w} (h : s₀.Keeps s) : s₀.Keeps (s.correctRam w) := by
  unfold State.correctRam
  exact .ite h.setCore h

theorem correctRams {ws} (h : s₀.Keeps s) : s₀.Keeps (s.correctRams ws) := by
  unfold State.correctRams
  exact h.foldl fun h => h.correctRam

theorem lramPut {key l} (h : s₀.Keeps s) : s₀.Keeps (s.lramPut key l) := by
  unfold State.lramPut
  exact setLram (h.correctRams.beside (e := _)) fun wf => putBytes_wf wf key l

theorem busRead {a} (h : s₀.Keeps s) : s₀.Keeps (s.busRead a).2.2 := by
  unfold State.busRead
  split
  · split
    · next read => exact (congrArg (s₀.Keeps ·.2) read).mp h.basinRead
    · next read => exact (congrArg (s₀.Keeps ·.2) read).mp h.basinRead
  · exact ite_snd_snd h (ite_snd_snd h h.correctRams)
  · exact h
  · exact h.speHeld
  · exact h.regRead
  · exact h

theorem busReads {n a acc} (h : s₀.Keeps s) : s₀.Keeps (State.busReads n s a acc).2.2.2 := by
  induction n generalizing s a acc with
  | zero => exact h
  | succ n ih =>
    have kept := h.busRead (a := a)
    rw [State.busReads]
    split
    · next read => exact ih ((congrArg (s₀.Keeps ·.2.2) read).mp kept)
    · next read => exact (congrArg (s₀.Keeps ·.2.2) read).mp kept

theorem readWords {a n} (h : s₀.Keeps s) : s₀.Keeps (s.readWords a n).2.2.2 := by
  unfold State.readWords
  dsimp only
  split
  · exact h.busReads
  · exact h

theorem pair {α : Type} {x : α} (h : s₀.Keeps s) : s₀.Keeps (x, s).2 := h

theorem busWrite1 {src a v pass} (h : s₀.Keeps s) : s₀.Keeps (s.busWrite1 src a v pass).2 := by
  unfold State.busWrite1
  split
  · exact h.basinWrite
  · exact ite_snd h.lramPut h
  · exact ite_snd h h.holdWrite
  · exact ite_snd h (pair h.speWrite)
  · exact h.regWrite1
  · exact h

theorem pass1 {src pass l} (h : s₀.Keeps s) : s₀.Keeps (State.pass1 src pass s l).2.2 := by
  induction l generalizing s with
  | nil => exact h
  | cons w l ih =>
    rw [State.pass1]
    exact ite_snd_snd (ih h.busWrite1) (ite_snd_snd (ite_snd_snd (ih h.busWrite1) (ih h.busWrite1)) h.busWrite1)

theorem busWrites {src a vs pass} (h : s₀.Keeps s) : s₀.Keeps (s.busWrites src a vs pass).2.2 := by
  unfold State.busWrites
  refine ite_snd_snd (ite_snd_snd h.pass1 (ite h.setCode h)) ?_
  split
  · exact ite h.setCode h
  split
  · exact ite h.setCode h
  exact ite h.pass1 h.pass1.joinNewHeld

end Sys2Proof.Machine.State.Keeps
end

/-!
SUPPORT. What the operations of core instructions keep.
-/
section
namespace Sys2Proof.Machine.State.Keeps

open Eff
variable {s₀ s : State} {x : CX}

theorem ite_s {x y : CX} {c : Prop} [Decidable c] (h : s₀.Keeps x.s) (g : s₀.Keeps y.s) : s₀.Keeps (if c then x else y).s := by
  split <;> assumption

theorem ite_snd_s {α : Type} {x y : α × CX} {c : Prop} [Decidable c] (h : s₀.Keeps x.2.s) (g : s₀.Keeps y.2.s) :
    s₀.Keeps (if c then x else y).2.s := by
  split <;> assumption

theorem foldl_snd_s {α β : Type} {f : β × CX → α → β × CX} {l : List α} {p : β × CX} (h : s₀.Keeps p.2.s)
    (step : ∀ {p x}, s₀.Keeps p.2.s → s₀.Keeps (f p x).2.s) : s₀.Keeps (l.foldl f p).2.s := by
  induction l generalizing p with
  | nil => exact h
  | cons x l ih => exact ih (step h)

theorem cx_fail {place code unit} (h : s₀.Keeps x.s) : s₀.Keeps (x.fail place code unit).s := by
  unfold CX.fail
  split
  · exact h
  · exact ite_s h h

theorem checkTouched {k words} (h : s₀.Keeps s) : s₀.Keeps (s.checkTouched k words) := by
  unfold State.checkTouched
  exact h.foldl fun h => .ite h.checkWords h.correctRam

theorem cx_noteRam {key n} (h : s₀.Keeps x.s) : s₀.Keeps (x.noteRam key n).s := by
  unfold CX.noteRam
  exact h.correctRams

theorem cx_noteWord {w} (h : s₀.Keeps x.s) : s₀.Keeps (x.noteWord w).s := by
  unfold CX.noteWord
  exact h

theorem cx_spend {n} (h : s₀.Keeps x.s) : s₀.Keeps (x.spend n).s := by
  unfold CX.spend
  exact h

theorem cx_readPart {i a n whole} (h : s₀.Keeps x.s) : s₀.Keeps (x.readPart i a n whole).2.s := by
  unfold CX.readPart
  split
  · dsimp only
    split
    · exact h.basinRead
    · exact cx_fail h.basinRead
  · exact ite_snd_s h.cx_spend.cx_fail (ite_snd_s h.cx_spend.cx_fail h.cx_spend.cx_noteRam)
  · exact h
  · exact h.speHeld
  · exact ite_snd_s h.regRead h.cx_fail
  · exact h.cx_fail

theorem cx_read {i a n} (h : s₀.Keeps x.s) : s₀.Keeps (x.read i a n).2.s := by
  unfold CX.read
  exact foldl_snd_s h fun h => h.cx_readPart

theorem cx_writeVoice {i v w a l} (h : s₀.Keeps x.s) : s₀.Keeps (x.writeVoice i v w a l).s := by
  unfold CX.writeVoice
  exact ite_s h.cx_fail h.holdWrite

theorem cx_dropped (h : s₀.Keeps x.s) : s₀.Keeps x.dropped.s := by
  unfold CX.dropped
  exact h

theorem cx_withState (h : s₀.Keeps s) : s₀.Keeps ({ x with s := s } : CX).s := h

theorem cx_writePart {i a l whole} (h : s₀.Keeps x.s) : s₀.Keeps (x.writePart i a l whole).s := by
  unfold CX.writePart
  split
  · have written : s₀.Keeps (if l.length = 4 then
        ({ x with s := (x.s.writePart (Master.core x.k.val) 0 a l).2 } : CX).spend 20
      else (({ x with s := (x.s.writePart (Master.core x.k.val) 0 a l).2 } : CX).spend 20).noteWord (a / 4)).s :=
      ite_s h.writePart h.writePart
    exact ite_s written.cx_fail (ite_s written written)
  · exact ite_s h.cx_spend.cx_fail (ite_s h.cx_spend.cx_fail h.cx_spend.lramPut)
  · exact h.cx_writeVoice
  · exact ite_s h.cx_spend.cx_fail (cx_withState h.cx_spend.speWrite)
  · refine ite_s (ite_s h.cx_spend.cx_fail ?_) h.cx_fail
    exact cx_withState h.draw.busWrites
  · exact h.cx_fail

theorem cx_write {i a l} (h : s₀.Keeps x.s) : s₀.Keeps (x.write i a l).s := by
  unfold CX.write
  exact foldl_snd_s h fun h => h.cx_writePart

theorem cx_setAn {n v} (h : s₀.Keeps x.s) : s₀.Keeps (x.setAn n v).s := by
  unfold CX.setAn
  exact h

theorem cx_slotWord {i k} (h : s₀.Keeps x.s) : s₀.Keeps (x.slotWord i k).2.s := by
  unfold CX.slotWord
  exact h.cx_read

theorem cx_evalSpec {i n p} (h : s₀.Keeps x.s) : s₀.Keeps (x.evalSpec i n p).2.s := by
  cases p with
  | idx m q k d => exact h.cx_slotWord
  | circ m k => exact ite_snd_s h.cx_slotWord.cx_slotWord.cx_setAn h.cx_slotWord.cx_slotWord.cx_fail
  | _ => exact h

theorem cx_evalSpecs {rows specs} (h : s₀.Keeps x.s) : s₀.Keeps (x.evalSpecs rows specs).s := by
  induction rows generalizing x specs with
  | nil => exact h
  | cons row rows ih =>
    cases specs with
    | nil => exact h
    | cons p specs => exact ih h.cx_evalSpec

theorem cx_get {i} (h : s₀.Keeps x.s) : s₀.Keeps (x.get i).2.s := by
  unfold CX.get
  split
  · exact h
  · exact h.cx_read

theorem cx_putBytes {i l} (h : s₀.Keeps x.s) : s₀.Keeps (x.putBytes i l).s := by
  unfold CX.putBytes
  split
  · exact h.cx_write
  · exact h

theorem cx_put {i v} (h : s₀.Keeps x.s) : s₀.Keeps (x.put i v).s := by
  unfold CX.put
  exact h.cx_putBytes

theorem cx_flags {r} (h : s₀.Keeps x.s) : s₀.Keeps (x.flags r).s := by
  unfold CX.flags
  exact h

theorem cx_setZ {b} (h : s₀.Keeps x.s) : s₀.Keeps (x.setZ b).s := by
  unfold CX.setZ
  exact h

theorem endItem {k i endCode status pc cycles} (h : s₀.Keeps s) : s₀.Keeps (s.endItem k i endCode status pc cycles) := by
  unfold State.endItem
  refine afterItem (flushRecs (setCore ?_))
  have peggings {c : Prop} [Decidable c] : s₀.Keeps (if c then
      (s.descAt i).direct.foldl (fun s j => (s.pullPeg j 15).2) (s.endOne i endCode status pc k 0 cycles).2
    else State.cascadeList cascadeFuel (s.endOne i endCode status pc k 0 cycles).2 (s.endOne i endCode status pc k 0 cycles).1) :=
    ite (h.endOne.foldl fun h => h.pullPeg) h.endOne.cascadeList
  exact ite (heartbeat peggings) peggings

theorem drawCycles {worst} (h : s₀.Keeps s) : s₀.Keeps (s.drawCycles worst).2 := by
  unfold State.drawCycles
  exact h.draw

theorem trapItem {k i code status pc worst words unit} (h : s₀.Keeps s) : s₀.Keeps (s.trapItem k i code status pc worst words unit) := by
  unfold State.trapItem
  split
  · exact h.checkTouched.drawCycles.endItem.clean.noteErr.settle
  · exact h.checkTouched.drawCycles.endItem

theorem cx_commit {i} (h : s₀.Keeps x.s) : s₀.Keeps (x.commit i) := by
  unfold CX.commit
  split
  · exact h.drawCycles.setCore.endItem
  · exact h.drawCycles.setCore

theorem begin {k i len words cost} (h : s₀.Keeps s) : s₀.Keeps (s.begin k i len words cost).s := by
  unfold State.begin
  exact h.checkTouched

theorem coreRun {k major f} (h : s₀.Keeps s) (effect : ∀ {x}, s₀.Keeps x.s → s₀.Keeps (f x).s) : s₀.Keeps (s.coreRun k major f) := by
  unfold State.coreRun
  split
  · exact h
  · refine ite h ?_
    split
    · refine ite h ?_
      dsimp only
      split
      · exact h.trapItem
      · exact (effect h.begin.cx_evalSpecs).cx_commit
    · exact h

theorem cx_unary {f} (h : s₀.Keeps x.s) : s₀.Keeps (x.unary f).s := by
  unfold CX.unary
  exact h.cx_get.cx_put.cx_flags

theorem cx_binary {f} (h : s₀.Keeps x.s) : s₀.Keeps (x.binary f).s := by
  unfold CX.binary
  exact h.cx_get.cx_get.cx_put.cx_flags

theorem cx_compare2 {f} (h : s₀.Keeps x.s) : s₀.Keeps (x.compare2 f).s := by
  unfold CX.compare2
  exact h.cx_get.cx_get.cx_flags

theorem cx_lockedPlace {i} (h : s₀.Keeps x.s) : s₀.Keeps (x.lockedPlace i).s := by
  unfold CX.lockedPlace
  exact ite_s h h.cx_fail

theorem cx_answer {i st word} (h : s₀.Keeps x.s) : s₀.Keeps (x.answer i st word).s := by
  unfold CX.answer
  exact h.cx_put.cx_setZ

theorem cx_accumulate {a b minus} (h : s₀.Keeps x.s) : s₀.Keeps (x.accumulate a b minus).s := by
  unfold CX.accumulate
  exact h.cx_get.cx_put.cx_flags

theorem eff_mov (h : s₀.Keeps x.s) : s₀.Keeps (Eff.mov x).s := by
  unfold Eff.mov
  exact h.cx_unary

theorem eff_movs (h : s₀.Keeps x.s) : s₀.Keeps (Eff.movs x).s := by
  unfold Eff.movs
  exact h.cx_unary

theorem eff_movz (h : s₀.Keeps x.s) : s₀.Keeps (Eff.movz x).s := by
  unfold Eff.movz
  exact h.cx_unary

theorem eff_clr (h : s₀.Keeps x.s) : s₀.Keeps (Eff.clr x).s := by
  unfold Eff.clr
  exact h.cx_put.cx_flags

theorem eff_lea (h : s₀.Keeps x.s) : s₀.Keeps (Eff.lea x).s := by
  unfold Eff.lea
  exact h.cx_put

theorem eff_ldp (h : s₀.Keeps x.s) : s₀.Keeps (Eff.ldp x).s := by
  unfold Eff.ldp
  exact ite_s h.cx_get h.cx_get

theorem eff_stp (h : s₀.Keeps x.s) : s₀.Keeps (Eff.stp x).s := by
  unfold Eff.stp
  exact h.cx_put

theorem eff_ldsw (h : s₀.Keeps x.s) : s₀.Keeps (Eff.ldsw x).s := by
  unfold Eff.ldsw
  exact h.cx_get

theorem eff_stsw (h : s₀.Keeps x.s) : s₀.Keeps (Eff.stsw x).s := by
  unfold Eff.stsw
  exact h.cx_put

theorem eff_cas (h : s₀.Keeps x.s) : s₀.Keeps (Eff.cas x).s := by
  unfold Eff.cas
  have loaded {a b c} : s₀.Keeps ((((x.lockedPlace 2).get a).2.get b).2.get c).2.s := h.cx_lockedPlace.cx_get.cx_get.cx_get
  exact ite_s (ite_s loaded.cx_put.cx_put.cx_setZ loaded.cx_put.cx_setZ) loaded.cx_put.cx_spend.cx_setZ

theorem eff_xadd (h : s₀.Keeps x.s) : s₀.Keeps (Eff.xadd x).s := by
  unfold Eff.xadd
  exact h.cx_lockedPlace.cx_get.cx_get.cx_put.cx_put.cx_flags

theorem eff_add (h : s₀.Keeps x.s) : s₀.Keeps (Eff.add x).s := by
  unfold Eff.add
  exact h.cx_binary

theorem eff_addc (h : s₀.Keeps x.s) : s₀.Keeps (Eff.addc x).s := by
  unfold Eff.addc
  exact h.cx_binary

theorem eff_sub (h : s₀.Keeps x.s) : s₀.Keeps (Eff.sub x).s := by
  unfold Eff.sub
  exact h.cx_binary

theorem eff_subc (h : s₀.Keeps x.s) : s₀.Keeps (Eff.subc x).s := by
  unfold Eff.subc
  exact h.cx_binary

theorem eff_adds (h : s₀.Keeps x.s) : s₀.Keeps (Eff.adds x).s := by
  unfold Eff.adds
  exact h.cx_binary

theorem eff_subs (h : s₀.Keeps x.s) : s₀.Keeps (Eff.subs x).s := by
  unfold Eff.subs
  exact h.cx_binary

theorem eff_neg (h : s₀.Keeps x.s) : s₀.Keeps (Eff.neg x).s := by
  unfold Eff.neg
  exact h.cx_unary

theorem eff_abs (h : s₀.Keeps x.s) : s₀.Keeps (Eff.abs x).s := by
  unfold Eff.abs
  exact h.cx_unary

theorem eff_cmp (h : s₀.Keeps x.s) : s₀.Keeps (Eff.cmp x).s := by
  unfold Eff.cmp
  exact h.cx_compare2

theorem eff_tst (h : s₀.Keeps x.s) : s₀.Keeps (Eff.tst x).s := by
  unfold Eff.tst
  exact h.cx_get.cx_flags

theorem eff_min (h : s₀.Keeps x.s) : s₀.Keeps (Eff.min x).s := by
  unfold Eff.min
  exact h.cx_binary

theorem eff_max (h : s₀.Keeps x.s) : s₀.Keeps (Eff.max x).s := by
  unfold Eff.max
  exact h.cx_binary

theorem eff_mul (h : s₀.Keeps x.s) : s₀.Keeps (Eff.mul x).s := by
  unfold Eff.mul
  exact h.cx_binary

theorem eff_div (h : s₀.Keeps x.s) : s₀.Keeps (Eff.div x).s := by
  unfold Eff.div
  dsimp only
  split
  · exact h.cx_get.cx_get.cx_put.cx_flags
  · exact h.cx_get.cx_get.cx_put.cx_fail

theorem eff_and (h : s₀.Keeps x.s) : s₀.Keeps (Eff.and x).s := by
  unfold Eff.and
  exact h.cx_binary

theorem eff_or (h : s₀.Keeps x.s) : s₀.Keeps (Eff.or x).s := by
  unfold Eff.or
  exact h.cx_binary

theorem eff_xor (h : s₀.Keeps x.s) : s₀.Keeps (Eff.xor x).s := by
  unfold Eff.xor
  exact h.cx_binary

theorem eff_andn (h : s₀.Keeps x.s) : s₀.Keeps (Eff.andn x).s := by
  unfold Eff.andn
  exact h.cx_binary

theorem eff_not (h : s₀.Keeps x.s) : s₀.Keeps (Eff.not x).s := by
  unfold Eff.not
  exact h.cx_unary

theorem eff_shl (h : s₀.Keeps x.s) : s₀.Keeps (Eff.shl x).s := by
  unfold Eff.shl
  exact h.cx_binary

theorem eff_shr (h : s₀.Keeps x.s) : s₀.Keeps (Eff.shr x).s := by
  unfold Eff.shr
  exact h.cx_binary

theorem eff_sar (h : s₀.Keeps x.s) : s₀.Keeps (Eff.sar x).s := by
  unfold Eff.sar
  exact h.cx_binary

theorem eff_rol (h : s₀.Keeps x.s) : s₀.Keeps (Eff.rol x).s := by
  unfold Eff.rol
  exact h.cx_binary

theorem eff_bfx (h : s₀.Keeps x.s) : s₀.Keeps (Eff.bfx x).s := by
  unfold Eff.bfx
  exact h.cx_unary

theorem eff_bfi (h : s₀.Keeps x.s) : s₀.Keeps (Eff.bfi x).s := by
  unfold Eff.bfi
  exact h.cx_get.cx_get.cx_put.cx_flags

theorem eff_clz (h : s₀.Keeps x.s) : s₀.Keeps (Eff.clz x).s := by
  unfold Eff.clz
  exact h.cx_unary

theorem eff_cls (h : s₀.Keeps x.s) : s₀.Keeps (Eff.cls x).s := by
  unfold Eff.cls
  exact h.cx_unary

theorem eff_perm (h : s₀.Keeps x.s) : s₀.Keeps (Eff.perm x).s := by
  unfold Eff.perm
  exact h.cx_binary

theorem eff_ftoa (h : s₀.Keeps x.s) : s₀.Keeps (Eff.ftoa x).s := by
  unfold Eff.ftoa
  exact h.cx_unary

theorem eff_rnda (h : s₀.Keeps x.s) : s₀.Keeps (Eff.rnda x).s := by
  unfold Eff.rnda
  exact h.cx_unary

theorem eff_mulf (h : s₀.Keeps x.s) : s₀.Keeps (Eff.mulf x).s := by
  unfold Eff.mulf
  exact h.cx_binary

theorem eff_macf (h : s₀.Keeps x.s) : s₀.Keeps (Eff.macf x).s := by
  unfold Eff.macf
  exact h.cx_get.cx_get.cx_accumulate

theorem eff_mscf (h : s₀.Keeps x.s) : s₀.Keeps (Eff.mscf x).s := by
  unfold Eff.mscf
  exact h.cx_get.cx_get.cx_accumulate

theorem eff_macm (h : s₀.Keeps x.s) : s₀.Keeps (Eff.macm x).s := by
  unfold Eff.macm
  exact h.cx_get.cx_get.cx_get.cx_write.cx_put.cx_flags

theorem eff_bcc (h : s₀.Keeps x.s) : s₀.Keeps (Eff.bcc x).s := by
  unfold Eff.bcc
  exact ite_s h h

theorem eff_bal (h : s₀.Keeps x.s) : s₀.Keeps (Eff.bal x).s := by
  unfold Eff.bal
  exact h.cx_put

theorem eff_jmp (h : s₀.Keeps x.s) : s₀.Keeps (Eff.jmp x).s := by
  unfold Eff.jmp
  exact h.cx_get

theorem eff_done (h : s₀.Keeps x.s) : s₀.Keeps (Eff.done x).s := by
  unfold Eff.done
  exact ite_s h.cx_get.cx_fail h.cx_get

theorem eff_post (h : s₀.Keeps x.s) : s₀.Keeps (Eff.post x).s := by
  unfold Eff.post
  exact h.cx_read.postImage.cx_answer

theorem eff_signal (h : s₀.Keeps x.s) : s₀.Keeps (Eff.signal x).s := by
  unfold Eff.signal
  exact h.cx_get.pullPeg.cx_answer

theorem eff_cancel (h : s₀.Keeps x.s) : s₀.Keeps (Eff.cancel x).s := by
  unfold Eff.cancel
  exact h.cx_get.cancelDesc.cx_answer

theorem eff_send (h : s₀.Keeps x.s) : s₀.Keeps (Eff.send x).s := by
  unfold Eff.send
  exact h.cx_read.sendImage.cx_answer

theorem eff_time (h : s₀.Keeps x.s) : s₀.Keeps (Eff.time x).s := by
  unfold Eff.time
  exact h.cx_putBytes

theorem eff_cyc (h : s₀.Keeps x.s) : s₀.Keeps (Eff.cyc x).s := by
  unfold Eff.cyc
  exact h.cx_put

theorem eff_trap (h : s₀.Keeps x.s) : s₀.Keeps (Eff.trap x).s := by
  unfold Eff.trap
  exact h.cx_get

end Sys2Proof.Machine.State.Keeps
end

/-!
SUPPORT. What the operations of source rows and boot keep.
-/
section
namespace Sys2Proof.Machine.State.Keeps


variable {s₀ s : State}

theorem coreRefused {k} (h : s₀.Keeps s) : s₀.Keeps (s.coreRefused k) := by
  unfold State.coreRefused
  split
  · exact h.trapItem
  · exact h

theorem refusedBy {src} (h : s₀.Keeps s) : s₀.Keeps (s.refusedBy src) := by
  unfold State.refusedBy
  split
  · exact h.coreRefused
  · exact h

theorem writeBy {src a v pass} (h : s₀.Keeps s) : s₀.Keeps (s.writeBy src a v pass) := by
  unfold State.writeBy
  split
  · exact h
  · split
    · exact .ite h.busWrites h.coreRefused
    · exact .ite h.busWrites h.busWrites

theorem regBy {src a v} (h : s₀.Keeps s) : s₀.Keeps (s.regBy src a v) := by
  unfold State.regBy
  exact h.writeBy

theorem readBy {src a} (h : s₀.Keeps s) : s₀.Keeps (s.readBy src a) := by
  unfold State.readBy
  exact .ite h.regRead h

theorem voiceWriteBy {src v word values} (h : s₀.Keeps s) : s₀.Keeps (s.voiceWriteBy src v word values) := by
  unfold State.voiceWriteBy
  exact .ite h (.ite h.refusedBy h.holdWrite)

theorem packBy {src op bank ofs data count} (h : s₀.Keeps s) : s₀.Keeps (s.packBy src op bank ofs data count).2.2 := by
  unfold State.packBy
  exact .ite_snd_snd h.packOp h

theorem speLoadWord {a x} (h : s₀.Keeps s) : s₀.Keeps (s.speLoadWord a x).2 := by
  unfold State.speLoadWord
  exact ite_snd (ite_snd (pair h) (ite_snd (pair h.setSpe) (pair h.speWrite)))
    (ite_snd (pair h) (ite_snd (pair h.setSpe) (ite_snd (pair h.speWrite) (pair h.setSpe))))

theorem speLoadBytes {fuel a l} (h : s₀.Keeps s) : s₀.Keeps (State.speLoadBytes fuel s a l).2 := by
  induction fuel generalizing s a l with
  | zero => exact h
  | succ fuel ih =>
    simp only [State.speLoadBytes]
    exact ite_snd (pair h) (ite_snd h.speLoadWord (ih h.speLoadWord))

theorem loadRun {a l} (h : s₀.Keeps s) : s₀.Keeps (s.loadRun a l).2 := by
  unfold State.loadRun
  split
  · exact h.basinWrite
  · exact h.lramPut
  · exact .ite_snd h h.setVWords
  · exact h.speLoadBytes
  · exact .ite_snd h h.draw.busWrites
  · exact h

theorem loadBytes {fuel a l} (h : s₀.Keeps s) : s₀.Keeps (State.loadBytes fuel s a l).2 := by
  induction fuel generalizing s a l with
  | zero => exact h
  | succ fuel ih => exact ite_snd h (ite_snd h.loadRun (ih h.loadRun))

theorem applyRec {r} (h : s₀.Keeps s) : s₀.Keeps (s.applyRec r).2 := by
  unfold State.applyRec
  exact .ite_snd (.ite_snd h h.draw.busWrites) (.ite_snd h.loadBytes (.ite_snd h.postImage (.ite_snd (setFlag (h.setPack (fun _ => rfl))) (.ite_snd (.ite_snd h (h.setPack (fun _ => rfl))) (.ite_snd (setFld (h.setPack (fun _ => rfl))) (.ite_snd h h.setFld))))))

theorem applyRecs {type l} (h : s₀.Keeps s) : s₀.Keeps (State.applyRecs type s l).2 := by
  induction l generalizing s with
  | nil => exact h
  | cons r l ih => exact ite_snd h (ite_snd h.applyRec (ih h.applyRec))

theorem loadSection {b e} (h : s₀.Keeps s) : s₀.Keeps (s.loadSection b e).2 := by
  unfold State.loadSection
  exact .ite_snd h h.applyRecs

theorem loadSections {b l} (h : s₀.Keeps s) : s₀.Keeps (State.loadSections b s l).2 := by
  induction l generalizing s with
  | nil => exact h
  | cons e l ih =>
    rw [State.loadSections]
    split
    · exact h.loadSection
    · exact ih h.loadSection

theorem bootFailed {f} (h : s₀.Keeps s) : s₀.Keeps (s.bootFailed f) := by
  unfold State.bootFailed
  exact .ite h h.setFld.setFld

theorem judgeBank {b} (h : s₀.Keeps s) : s₀.Keeps (s.judgeBank b) := by
  unfold State.judgeBank
  split
  · exact .ite h.bootFailed.drawStatus.logFault h.bootFailed
  · exact .ite h.drawStatus.logFault h

theorem showFlash (h : s₀.Keeps s) : s₀.Keeps s.showFlash := by
  unfold State.showFlash
  exact h.setReg.setFlag.findLog.showCandidates

theorem loadBank {b} (h : s₀.Keeps s) : s₀.Keeps (s.loadBank b).2 := by
  unfold State.loadBank
  dsimp only
  split
  · exact h.setFld.setFld.setFld.loadSections.setFld
  · exact .ite_snd h.setFld.setFld.setFld.loadSections.setFld (.ite_snd h.setFld.setFld.setFld.loadSections.setFld h.setFld.setFld.setFld.loadSections.setFld)

theorem bootRetry {b f} (h : s₀.Keeps s) : s₀.Keeps (s.bootRetry b f) := by
  unfold State.bootRetry
  exact beside (setFlag (showFlash (setFlag (setFlag (setReg h.drawStatus.bootFailed.logFault.coreReset)))))

theorem tryBanks {l fallback} (h : s₀.Keeps s) : s₀.Keeps (State.tryBanks s l fallback) := by
  induction l generalizing s fallback with
  | nil => exact h.setFlag.setPack fun _ => rfl
  | cons b l ih =>
    rw [State.tryBanks]
    split
    · exact h.loadBank.setFlag.setFlag.setPack fun _ => rfl
    · exact ih h.loadBank.bootRetry

theorem sampleBoot (h : s₀.Keeps s) : s₀.Keeps s.sampleBoot := by
  unfold State.sampleBoot
  exact h.draw.draw.beside

theorem bootStart (h : s₀.Keeps s) : s₀.Keeps s.bootStart := by
  unfold State.bootStart
  exact .ite h h.sampleBoot.setFlag.setFlag.showFlash.judgeBank.judgeBank.tryBanks

theorem bootTests (h : s₀.Keeps s) : s₀.Keeps s.bootTests := by
  unfold State.bootTests
  exact h.draw.foldl fun h => h.chargeTest.retireUnit

theorem bootEnds (h : s₀.Keeps s) : s₀.Keeps s.bootEnds := by
  unfold State.bootEnds
  have ended {t : State} (h : s₀.Keeps t) : s₀.Keeps ({ t.bootTests with
      power := { t.bootTests.power with trans := none, runAge := 0, reloadBank := 0 }
      disp := { t.bootTests.disp with stopped := s.pack.bootTarget < 4 } }) := h.bootTests.powerDisp
  refine ite h (ite h.judgeWait ?_)
  refine raise (raise (pwrPost (openRelay (setFlag (setFld (setFlag (setFld (ended ?_))))))))
  split
  · exact h.judgeWait.storeHash.drawStatus.logFault
  · exact h.judgeWait

end Sys2Proof.Machine.State.Keeps
end

/-!
SUPPORT. What the operations of trail messages keep.
-/
section
namespace Sys2Proof.Machine.State.Keeps


variable {s₀ s : State}

theorem ringOutcome {dest orig status words} (h : s₀.Keeps s) : s₀.Keeps (s.ringOutcome dest orig status words) := by
  unfold State.ringOutcome
  exact .ite h.count h.basinPut.setFld.raise

theorem endCommand {c status words} (h : s₀.Keeps s) : s₀.Keeps (s.endCommand c status words) := by
  unfold State.endCommand
  exact .ite h.setTrail.ringOutcome h.setTrail.post

theorem replyTo {c status words} (h : s₀.Keeps s) : s₀.Keeps (s.replyTo c status words) := by
  unfold State.replyTo
  exact .ite h.setTrail h.endCommand

theorem cmdTimeout {node} (h : s₀.Keeps s) : s₀.Keeps (s.cmdTimeout node) := by
  unfold State.cmdTimeout
  split
  · exact h
  · exact .ite h (.ite h.endCommand h.setTrail.enqueue)

theorem packXfer {b} (h : s₀.Keeps s) : s₀.Keeps (s.packXfer b).2.2 := by
  unfold State.packXfer
  exact h.packOp

theorem runCommand {b} (h : s₀.Keeps s) : s₀.Keeps (s.runCommand b).2.2 := by
  unfold State.runCommand
  exact .ite_snd_snd h (.ite_snd_snd h (.ite_snd_snd (.ite_snd_snd h h.readWords) (.ite_snd_snd (.ite_snd_snd h h.draw.busWrites) (.ite_snd_snd h (.ite_snd_snd h.offer h.packXfer)))))

theorem takeCommand {b} (h : s₀.Keeps s) : s₀.Keeps (s.takeCommand b) := by
  unfold State.takeCommand
  split
  · exact h.enqueue
  · exact enqueue (.ite h.runCommand h.runCommand.setTrail)

theorem takeEvent {b} (h : s₀.Keeps s) : s₀.Keeps (s.takeEvent b) := by
  unfold State.takeEvent
  exact .ite h.count (.ite h.queueEvent h.queueEvent.count)

theorem epochRecord (h : s₀.Keeps s) : s₀.Keeps s.epochRecord := by
  unfold State.epochRecord
  exact h.tstat

theorem mapApply {m time} (h : s₀.Keeps s) : s₀.Keeps (s.mapApply m time) := by
  unfold State.mapApply
  exact epochRecord (setFlag (setReg (setFld (h.setTrail.foldl fun h => h.setReg))))

theorem mapCommit {epoch time} (h : s₀.Keeps s) : s₀.Keeps (s.mapCommit epoch time) := by
  unfold State.mapCommit
  exact .ite h.mapApply h.setTrail.setNomap

theorem mapMerge {epoch pos slots} (h : s₀.Keeps s) : s₀.Keeps (s.mapMerge epoch pos slots) := by
  unfold State.mapMerge
  exact .ite h (.ite h.mapApply h.setTrail)

theorem takeMapset {b} (h : s₀.Keeps s) : s₀.Keeps (s.takeMapset b) := by
  unfold State.takeMapset
  exact h.mapMerge

theorem takeSlotset {b} (h : s₀.Keeps s) : s₀.Keeps (s.takeSlotset b) := by
  unfold State.takeSlotset
  exact .ite h h.mapMerge

theorem headMsg {type body} (h : s₀.Keeps s) : s₀.Keeps (s.headMsg type body) := by
  unfold State.headMsg
  exact h.enqueue

theorem sendMap {epoch pos slots} (h : s₀.Keeps s) : s₀.Keeps (s.sendMap epoch pos slots).2 := by
  unfold State.sendMap
  exact foldl (h.foldl fun h => h.headMsg) fun h => h.headMsg

theorem newMap (h : s₀.Keeps s) : s₀.Keeps s.newMap := by
  unfold State.newMap
  exact h.sendMap.setTrail

theorem sendCommit (h : s₀.Keeps s) : s₀.Keeps s.sendCommit := by
  unfold State.sendCommit
  split
  · exact .ite h h.setTrail.headMsg
  · exact h

theorem mapAgain (h : s₀.Keeps s) : s₀.Keeps s.mapAgain := by
  unfold State.mapAgain
  exact .ite h.sendMap.setTrail h

theorem sayHello (h : s₀.Keeps s) : s₀.Keeps s.sayHello := by
  unfold State.sayHello
  exact .ite h.enqueue.setTrail h

theorem freshWindow {n} (h : s₀.Keeps s) : s₀.Keeps (s.freshWindow n) := by
  unfold State.freshWindow
  exact h.setTrail

theorem putNode {e} (h : s₀.Keeps s) : s₀.Keeps (s.putNode e) := by
  unfold State.putNode
  exact h.setTrail

theorem sendAdmit {e n} (h : s₀.Keeps s) : s₀.Keeps (s.sendAdmit e n) := by
  unfold State.sendAdmit
  exact h.headMsg.putNode

theorem refuse {serial status} (h : s₀.Keeps s) : s₀.Keeps (s.refuse serial status) := by
  unfold State.refuse
  exact h.headMsg.tstat

theorem helloNew {b tagBad} (h : s₀.Keeps s) : s₀.Keeps (s.helloNew b tagBad) := by
  unfold State.helloNew
  dsimp only
  split
  · exact h.refuse
  · split
    · exact h.refuse
    · exact .ite (tstat (sendAdmit (.ite h h.freshWindow))) (sendAdmit (.ite h h.freshWindow))

theorem takeHello {b tagBad} (h : s₀.Keeps s) : s₀.Keeps (s.takeHello b tagBad) := by
  unfold State.takeHello
  exact .ite h (.ite h.helloNew (.ite h h.putNode))

theorem takeAdmit {b} (h : s₀.Keeps s) : s₀.Keeps (s.takeAdmit b) := by
  unfold State.takeAdmit
  split
  · exact .ite h h
  · split
    · exact .ite h.count h.freshWindow.putNode.judgeArmed
    · split
      · dsimp only
        split
        · exact judgeArmed (sendReply (.ite h.setReg.setFld.setReg.setReg.setRole h.setReg.setFld.setReg.setReg.setRole.setLock.setTrail.tstat))
        · exact h.freshWindow.putNode.judgeArmed
      · dsimp only
        split
        · exact judgeArmed (sendReply (.ite h.setReg.setFld.setReg.setReg.setRole h.setReg.setFld.setReg.setReg.setRole.setLock.setTrail.tstat))
        · exact h.freshWindow.putNode.judgeArmed

theorem admitAgain {serial} (h : s₀.Keeps s) : s₀.Keeps (s.admitAgain serial) := by
  unfold State.admitAgain
  split
  · split
    · exact .ite h (.ite h.setTrail h.sendAdmit)
    · exact h
  · exact h

theorem nodeGone {n} (h : s₀.Keeps s) : s₀.Keeps (s.nodeGone n) := by
  unfold State.nodeGone
  split
  · exact .ite h.putNode.tstat h
  · exact h

theorem heardFrom {n} (h : s₀.Keeps s) : s₀.Keeps (s.heardFrom n) := by
  unfold State.heardFrom
  exact .ite h.setTrail h

theorem takeReply {b} (h : s₀.Keeps s) : s₀.Keeps (s.takeReply b) := by
  unfold State.takeReply
  split
  · dsimp only
    split
    · exact h.putNode.newMap
    · exact h.replyTo
  · dsimp only
    split
    · exact h.putNode.newMap
    · exact h

theorem takeClaim {b} (h : s₀.Keeps s) : s₀.Keeps (s.takeClaim b) := by
  unfold State.takeClaim
  exact .ite h.setTrail h

theorem actOn {b} (h : s₀.Keeps s) : s₀.Keeps (s.actOn b) := by
  unfold State.actOn
  exact .ite h.takeEvent (.ite h.takeCommand (.ite h.takeReply (.ite h.takeHello (.ite h.takeAdmit (.ite h.takeMapset (.ite h.takeSlotset (.ite h.takeClaim h)))))))

theorem unauthorised {b} (h : s₀.Keeps s) : s₀.Keeps (s.unauthorised b) := by
  unfold State.unauthorised
  exact .ite h.count.enqueueSigned (.ite h.count.takeHello h.count)

theorem learnSysid {b} (h : s₀.Keeps s) : s₀.Keeps (s.learnSysid b) := by
  unfold State.learnSysid
  exact .ite h.setFld.setTrail h

theorem takeMsg {b} (h : s₀.Keeps s) : s₀.Keeps (s.takeMsg b) := by
  unfold State.takeMsg
  split
  · exact .ite h.count h.count
  · split
    · exact .ite h.learnSysid.count (.ite h.learnSysid (.ite h.learnSysid.count (.ite h.learnSysid (.ite h.learnSysid.unauthorised h.learnSysid.actOn))))
    · exact .ite h.learnSysid.count (.ite h.learnSysid.heardFrom.windowAccept (.ite h.learnSysid.heardFrom.windowAccept.count (.ite h.learnSysid.heardFrom.windowAccept (.ite h.learnSysid.heardFrom.windowAccept.unauthorised h.learnSysid.heardFrom.windowAccept.actOn))))

theorem takeMsgs {l} (h : s₀.Keeps s) : s₀.Keeps (s.takeMsgs l) := by
  unfold State.takeMsgs
  exact h.foldl fun h => h.takeMsg

theorem deliverCopy {p} (h : s₀.Keeps s) : s₀.Keeps (s.deliverCopy p) := by
  unfold State.deliverCopy
  split
  · exact h
  · exact .ite (count (takeMsgs (takeRelay (.ite h.setPort.takeSlots h.setPort)))) (takeMsgs (takeRelay (.ite h.setPort.takeSlots h.setPort)))

end Sys2Proof.Machine.State.Keeps
end

/-!
SUPPORT. What the operations of the sample cycle and the host keep.
-/
section
namespace Sys2Proof.Machine.State.Keeps


variable {s₀ s : State}

theorem ticksPass {n} (h : s₀.Keeps s) : s₀.Keeps (s.ticksPass n) := by
  unfold State.ticksPass
  exact .ite (h.timePasses.wdogRun.beside.copybackTime.sweepStart.foldl fun h => h.stepsTo) h.timePasses.wdogRun.beside.copybackTime.sweepStart

theorem zeroPhase (h : s₀.Keeps s) : s₀.Keeps s.zeroPhase := by
  unfold State.zeroPhase
  exact h.beside

theorem takeTimed {q b late} (h : s₀.Keeps s) : s₀.Keeps (s.takeTimed q b late) := by
  unfold State.takeTimed
  exact h.setTrail

theorem takeQueued {b q} (h : s₀.Keeps s) : s₀.Keeps (s.takeQueued b q) := by
  have counted {late : Prop} [Decidable late] : s₀.Keeps (if late then s.count Adr.TRAIL_LATEEV else s) := ite h.count h
  unfold State.takeQueued
  dsimp only
  split
  · exact ite (ite counted.voiceEvent counted.voiceEvent.count) counted.count
  · exact counted.post
  · exact ite (ite counted.speCommit.speCcode counted.speCommit.speCcode.count) counted.count
  · exact ite (ite counted.speLoad.spePcode counted.speLoad.spePcode.count) counted.count
  · exact ite counted.takeTimed counted.count
  · exact counted.takeTimed
  · exact counted.count

theorem intake {moves fins b} (h : s₀.Keeps s) : s₀.Keeps (s.intake moves fins b) := by
  unfold State.intake
  exact .ite (intakeWrites (foldl (setTrail (.ite h.intakeEnds h)) fun h => h.takeQueued)) (foldl (setTrail (.ite h.intakeEnds h)) fun h => h.takeQueued)

theorem timedEvents {c} (h : s₀.Keeps s) : s₀.Keeps (s.timedEvents c) := by
  unfold State.timedEvents
  refine h.setTrail.foldl fun h => ?_
  split
  · exact h.setFld
  · exact h.mapCommit
  · exact h

theorem trailInserts {c live} (h : s₀.Keeps s) : s₀.Keeps (s.trailInserts c live) := by
  unfold State.trailInserts
  exact .ite h.setTrail.headPatch.headPatch h.setTrail

theorem present {c inp} (h : s₀.Keeps s) : s₀.Keeps (s.present c inp) := by
  unfold State.present
  dsimp only
  split
  · exact tapsAndTick (trailInserts (apBoundary (foldl (h.foldl fun h => h.dacBoundary) fun h => h.coutBoundary)))
  · exact trailInserts (apBoundary (foldl (h.foldl fun h => h.dacBoundary) fun h => h.coutBoundary))

theorem process {b} (h : s₀.Keeps s) : s₀.Keeps (s.process b) := by
  unfold State.process
  exact .ite h.processStart.tapsFor.speRun h

theorem delayUnit (h : s₀.Keeps s) : s₀.Keeps s.delayUnit := by
  unfold State.delayUnit
  exact .ite h.latchLines.stepClears h

theorem renderStage {residue b} (h : s₀.Keeps s) : s₀.Keeps (s.renderStage residue b) := by
  unfold State.renderStage
  exact .ite h.renderVoices h

theorem headStops (h : s₀.Keeps s) : s₀.Keeps s.headStops := by
  unfold State.headStops
  exact .ite h.stopHead h

theorem atBoundary {c inp} (h : s₀.Keeps s) : s₀.Keeps (s.atBoundary c inp) := by
  unfold State.atBoundary
  split
  · dsimp only
    split
    · exact settle (loopStep (conflicts (tapStops (.ite h.clean.cycleEnd.headStops.realignStep.timedEvents.realignOff.present.powerBoundary.process.delayUnit.renderStage.intake.beside h.clean.cycleEnd.headStops.realignStep.timedEvents.realignOff.present.powerBoundary.process.delayUnit.renderStage.intake))))
    · exact settle (loopStep (conflicts (tapStops (.ite h.clean.cycleEnd.headStops.realignStep.timedEvents.realignOff.present.powerBoundary.process.delayUnit.renderStage.intake.beside h.clean.cycleEnd.headStops.realignStep.timedEvents.realignOff.present.powerBoundary.process.delayUnit.renderStage.intake))))
  · dsimp only
    split
    · exact settle (loopStep (conflicts (tapStops (.ite h.clean.realignStep.timedEvents.realignOff.present.powerBoundary.process.delayUnit.renderStage.intake.beside h.clean.realignStep.timedEvents.realignOff.present.powerBoundary.process.delayUnit.renderStage.intake))))
    · exact settle (loopStep (conflicts (tapStops (.ite h.clean.realignStep.timedEvents.realignOff.present.powerBoundary.process.delayUnit.renderStage.intake.beside h.clean.realignStep.timedEvents.realignOff.present.powerBoundary.process.delayUnit.renderStage.intake))))

theorem boundary {inp} (h : s₀.Keeps s) : s₀.Keeps (s.boundary inp) := by
  unfold State.boundary
  exact .ite h h.ticksPass.staggersAt.ticksPass.zeroPhase.atBoundary

theorem tick (h : s₀.Keeps s) : s₀.Keeps s.tick := by
  unfold State.tick
  exact .ite h (.ite h.beside (.ite h.boundary h.ticksPass))

theorem spiSend {f} (h : s₀.Keeps s) : s₀.Keeps (s.spiSend f).2.2 := by
  unfold State.spiSend
  exact .ite_snd_snd h h.sendImage

theorem spiOperate {f} (h : s₀.Keeps s) : s₀.Keeps (s.spiOperate f).2.2.2 := by
  have choice {α β γ : Type} {p q : α × β × γ × State} {c : Prop} [Decidable c] (h : s₀.Keeps p.2.2.2) (g : s₀.Keeps q.2.2.2) :
      s₀.Keeps (if c then p else q).2.2.2 := by
    split <;> assumption
  unfold State.spiOperate
  exact choice h (choice h.readWords (choice h.draw.busWrites (choice h h.spiSend)))

theorem spiAnswer {f status at_ words} (h : s₀.Keeps s) : s₀.Keeps (s.spiAnswer f status at_ words) := by
  unfold State.spiAnswer
  exact beside (.ite h h.setReg.setReg)

theorem spi {f} (h : s₀.Keeps s) : s₀.Keeps (s.spi f) := by
  unfold State.spi
  exact .ite h (.ite h.count (.ite (spiAnswer (.ite h.count h)) h.spiOperate.spiAnswer))

end Sys2Proof.Machine.State.Keeps
end

/-!
SUPPORT. What a command, and so a step, keeps (chapters 08 and 18).
-/
section
namespace Sys2Proof.Machine

/-- Whatever node an outcome goes on with keeps what s has. -/
def State.KeepsOn (s : State) (o : Out) : Prop := ∀ t, o = .next t → s.Keeps t

namespace State.KeepsOn
variable {s : State} {f : State → State}

theorem run (h : s.Keeps (f s)) : s.KeepsOn (s.run f) := by
  intro t next
  injection next with eq
  exact eq ▸ h.beside

theorem orFault {c : Prop} [Decidable c] {e} (h : s.Keeps (f s)) : s.KeepsOn (if c then .fault e else s.run f) := by
  split
  · exact fun _ next => nomatch next
  · exact run h

end State.KeepsOn

namespace State.Keeps
open Eff
variable {s : State}

theorem exec_switchFadeZero {v u} : s.KeepsOn (execSwitchFadeZero v u s) := by
  refine .run (ite (setVRun ?_) (refl s))
  split
  · exact (refl s).latched
  · exact (refl s).latched
  · exact refl s

theorem exec_sampleLoopPoint {v o} : s.KeepsOn (execSampleLoopPoint v o s) := by
  refine .run ?_
  dsimp only
  split
  · exact ite (refl s).setVRun (refl s)
  · exact refl s

theorem exec_trapBudget {k} : s.KeepsOn (execTrapBudget k s) := by
  refine .run ?_
  split
  · exact refl s
  · exact ite (refl s).endItem (refl s)

theorem exec_trapIllegal {k} : s.KeepsOn (execTrapIllegal k s) := by
  refine .run ?_
  split
  · exact refl s
  · refine ite (refl s) ?_
    split
    · exact (refl s).trapItem
    · exact refl s

theorem exec_instructionFetchFault {k} : s.KeepsOn (execInstructionFetchFault k s) := by
  refine .run ?_
  split
  · exact refl s
  · refine ite (refl s) ?_
    split
    · exact (refl s).trapItem
    · exact refl s

theorem exec_dispatch : s.KeepsOn (execDispatch s) := by
  refine .run (ite ?_ (refl s))
  split
  · exact (refl s).startItem
  · exact refl s

theorem exec_instantiate {q} : s.KeepsOn (execInstantiate q s) := by
  refine .run ?_
  split
  · exact ite (refl s).setRing.setDesc.makeReady (refl s)
  · exact refl s

theorem exec_successorListEntry : s.KeepsOn (execSuccessorListEntry s) := by
  refine .run ?_
  split
  · exact refl s
  · refine ite (refl s) (advanceJob ?_)
    have read {a n} := (refl s).basinRead (master := Master.disp) (a := a) (n := n)
    split
    · exact read.badSucc
    · exact ite read.badSucc (ite (ite read.endOne.cascadeList (ite read.onRec read)) (ite read.badSucc read.pullPeg))

theorem exec_supplyInvalid {u} : s.KeepsOn (execSupplyInvalid u s) := by
  have cleared {u : Supply} : s.Keeps (if u = .vdda then
      { (s.setFlag Adr.PWR_SUPPLY (supplyBit u) false) with ana := { (s.setFlag Adr.PWR_SUPPLY (supplyBit u) false).ana with vdda28 := false } }
    else s.setFlag Adr.PWR_SUPPLY (supplyBit u) false) := ite ((refl s).setFlag.setAna id id) (refl s).setFlag
  exact .run (ite (refl s) (ite (warmReset (ite cleared.serialOff cleared)) (pwrPost (ite cleared.serialOff cleared))))

theorem exec_supplyValid {u} : s.KeepsOn (execSupplyValid u s) := by
  have shown {c : Prop} [Decidable c] {t : State} {b} (h : s.Keeps t) :
      s.Keeps (if c then { t.draw.2 with ana := { t.draw.2.ana with vdda28 := b } } else t) := ite (h.draw.setAna id id) h
  have posted {c : Prop} [Decidable c] {t : State} {x y z} (h : s.Keeps t) :
      s.Keeps (if c then (t.pwrPost x y z).serialGo else t.pwrPost x y z) := ite h.pwrPost.serialGo h.pwrPost
  exact .run (ite (refl s) (ite (shown (refl s).setFlag).beside
    (ite (posted (shown (refl s).setFlag)).setWaitsup (posted (shown (refl s).setFlag)))))

theorem exec_packRead {src offset count} : s.KeepsOn (execPackRead src offset count s) := by
  refine .run (ite (refl s) ?_)
  split
  · exact (refl s).packBy
  · exact ite (refl s) (ite (refl s).packCode (refl s).packBy.unloadData)


/-- What a command leaves keeps what the node before it has. -/
theorem exec_keeps (i : Instr) (s : State) : s.KeepsOn (exec i s) := by
  have h : s.Keeps s := refl s
  cases i with
  | sampleBoundary inp => exact (.run h.boundary : s.KeepsOn (execSampleBoundary inp s))
  | rampEnd v => exact (.run (ite h.endRamp h) : s.KeepsOn (execRampEnd v s))
  | releaseLimit v => exact (.run (ite h.limitRelease h) : s.KeepsOn (execReleaseLimit v s))
  | switchFadeZero v u => exact (exec_switchFadeZero : s.KeepsOn (execSwitchFadeZero v u s))
  | crossfadeEnd v word => exact (.run (ite h.setVRun h) : s.KeepsOn (execCrossfadeEnd v word s))
  | glideEnd v word => exact (.run (ite h.setVRun h) : s.KeepsOn (execGlideEnd v word s))
  | envelopeSegmentEnd v e => exact (.run (ite h.setVRun h) : s.KeepsOn (execEnvelopeSegmentEnd v e s))
  | lfoWrap v l => exact (.run (ite h.setVRun h) : s.KeepsOn (execLfoWrap v l s))
  | sampleLoopPoint v o => exact (exec_sampleLoopPoint : s.KeepsOn (execSampleLoopPoint v o s))
  | voiceParamWrite src v word values => exact (.run h.voiceWriteBy : s.KeepsOn (execVoiceParamWrite src v word values s))
  | recalc src => exact (.run h.regBy : s.KeepsOn (execRecalc src s))
  | recalcDone => exact (.run h.recalcEnd : s.KeepsOn (execRecalcDone s))
  | go src => exact (.run h.regBy : s.KeepsOn (execGo src s))
  | copybackEnd => exact (.run h.copybackDone : s.KeepsOn (execCopybackEnd s))
  | ccmdCommit src noramp => exact (.run h.regBy : s.KeepsOn (execCcmdCommit src noramp s))
  | ccmdCancel src => exact (.run h.regBy : s.KeepsOn (execCcmdCancel src s))
  | ccmdDiscard src => exact (.run h.regBy : s.KeepsOn (execCcmdDiscard src s))
  | coefWrite src index value => exact (.run h.writeBy : s.KeepsOn (execCoefWrite src index value s))
  | speTempWrite src index value => exact (.run h.writeBy : s.KeepsOn (execSpeTempWrite src index value s))
  | pcmdLoad src len clrt => exact (.run h.regBy : s.KeepsOn (execPcmdLoad src len clrt s))
  | pcmdCancel src => exact (.run h.regBy : s.KeepsOn (execPcmdCancel src s))
  | loadValidated => exact (.run h.speValidated : s.KeepsOn (execLoadValidated s))
  | speDlctl src j value => exact (.run h.regBy : s.KeepsOn (execSpeDlctl src j value s))
  | delayClear src j value => exact (.run h.regBy : s.KeepsOn (execDelayClear src j value s))
  | delayClearEnd j => exact (.run h.clearEnd : s.KeepsOn (execDelayClearEnd j s))
  | nop k => exact (.run (h.coreRun id) : s.KeepsOn (execNop k s))
  | mov k => exact (.run (h.coreRun eff_mov) : s.KeepsOn (execMov k s))
  | movs k => exact (.run (h.coreRun eff_movs) : s.KeepsOn (execMovs k s))
  | movz k => exact (.run (h.coreRun eff_movz) : s.KeepsOn (execMovz k s))
  | clr k => exact (.run (h.coreRun eff_clr) : s.KeepsOn (execClr k s))
  | lea k => exact (.run (h.coreRun eff_lea) : s.KeepsOn (execLea k s))
  | ldp k => exact (.run (h.coreRun eff_ldp) : s.KeepsOn (execLdp k s))
  | stp k => exact (.run (h.coreRun eff_stp) : s.KeepsOn (execStp k s))
  | ldsw k => exact (.run (h.coreRun eff_ldsw) : s.KeepsOn (execLdsw k s))
  | stsw k => exact (.run (h.coreRun eff_stsw) : s.KeepsOn (execStsw k s))
  | cas k => exact (.run (h.coreRun eff_cas) : s.KeepsOn (execCas k s))
  | xadd k => exact (.run (h.coreRun eff_xadd) : s.KeepsOn (execXadd k s))
  | add k => exact (.run (h.coreRun eff_add) : s.KeepsOn (execAdd k s))
  | addc k => exact (.run (h.coreRun eff_addc) : s.KeepsOn (execAddc k s))
  | sub k => exact (.run (h.coreRun eff_sub) : s.KeepsOn (execSub k s))
  | subc k => exact (.run (h.coreRun eff_subc) : s.KeepsOn (execSubc k s))
  | adds k => exact (.run (h.coreRun eff_adds) : s.KeepsOn (execAdds k s))
  | subs k => exact (.run (h.coreRun eff_subs) : s.KeepsOn (execSubs k s))
  | neg k => exact (.run (h.coreRun eff_neg) : s.KeepsOn (execNeg k s))
  | abs k => exact (.run (h.coreRun eff_abs) : s.KeepsOn (execAbs k s))
  | cmp k => exact (.run (h.coreRun eff_cmp) : s.KeepsOn (execCmp k s))
  | tst k => exact (.run (h.coreRun eff_tst) : s.KeepsOn (execTst k s))
  | min k => exact (.run (h.coreRun eff_min) : s.KeepsOn (execMin k s))
  | max k => exact (.run (h.coreRun eff_max) : s.KeepsOn (execMax k s))
  | mul k => exact (.run (h.coreRun eff_mul) : s.KeepsOn (execMul k s))
  | div k => exact (.run (h.coreRun eff_div) : s.KeepsOn (execDiv k s))
  | and k => exact (.run (h.coreRun eff_and) : s.KeepsOn (execAnd k s))
  | or k => exact (.run (h.coreRun eff_or) : s.KeepsOn (execOr k s))
  | xor k => exact (.run (h.coreRun eff_xor) : s.KeepsOn (execXor k s))
  | andn k => exact (.run (h.coreRun eff_andn) : s.KeepsOn (execAndn k s))
  | not k => exact (.run (h.coreRun eff_not) : s.KeepsOn (execNot k s))
  | shl k => exact (.run (h.coreRun eff_shl) : s.KeepsOn (execShl k s))
  | shr k => exact (.run (h.coreRun eff_shr) : s.KeepsOn (execShr k s))
  | sar k => exact (.run (h.coreRun eff_sar) : s.KeepsOn (execSar k s))
  | rol k => exact (.run (h.coreRun eff_rol) : s.KeepsOn (execRol k s))
  | bfx k => exact (.run (h.coreRun eff_bfx) : s.KeepsOn (execBfx k s))
  | bfi k => exact (.run (h.coreRun eff_bfi) : s.KeepsOn (execBfi k s))
  | clz k => exact (.run (h.coreRun eff_clz) : s.KeepsOn (execClz k s))
  | cls k => exact (.run (h.coreRun eff_cls) : s.KeepsOn (execCls k s))
  | perm k => exact (.run (h.coreRun eff_perm) : s.KeepsOn (execPerm k s))
  | ftoa k => exact (.run (h.coreRun eff_ftoa) : s.KeepsOn (execFtoa k s))
  | rnda k => exact (.run (h.coreRun eff_rnda) : s.KeepsOn (execRnda k s))
  | mulf k => exact (.run (h.coreRun eff_mulf) : s.KeepsOn (execMulf k s))
  | macf k => exact (.run (h.coreRun eff_macf) : s.KeepsOn (execMacf k s))
  | mscf k => exact (.run (h.coreRun eff_mscf) : s.KeepsOn (execMscf k s))
  | macm k => exact (.run (h.coreRun eff_macm) : s.KeepsOn (execMacm k s))
  | bcc k => exact (.run (h.coreRun eff_bcc) : s.KeepsOn (execBcc k s))
  | bal k => exact (.run (h.coreRun eff_bal) : s.KeepsOn (execBal k s))
  | jmp k => exact (.run (h.coreRun eff_jmp) : s.KeepsOn (execJmp k s))
  | done k => exact (.run (h.coreRun eff_done) : s.KeepsOn (execDone k s))
  | post k => exact (.run (h.coreRun eff_post) : s.KeepsOn (execPost k s))
  | signal k => exact (.run (h.coreRun eff_signal) : s.KeepsOn (execSignal k s))
  | cancel k => exact (.run (h.coreRun eff_cancel) : s.KeepsOn (execCancel k s))
  | send k => exact (.run (h.coreRun eff_send) : s.KeepsOn (execSend k s))
  | time k => exact (.run (h.coreRun eff_time) : s.KeepsOn (execTime k s))
  | cyc k => exact (.run (h.coreRun eff_cyc) : s.KeepsOn (execCyc k s))
  | trap k => exact (.run (h.coreRun eff_trap) : s.KeepsOn (execTrap k s))
  | trapBudget k => exact (exec_trapBudget : s.KeepsOn (execTrapBudget k s))
  | successorListEntry => exact (exec_successorListEntry : s.KeepsOn (execSuccessorListEntry s))
  | dispatch => exact (exec_dispatch : s.KeepsOn (execDispatch s))
  | instantiate q => exact (exec_instantiate : s.KeepsOn (execInstantiate q s))
  | dspPost src => exact (.run h.regBy : s.KeepsOn (execDspPost src s))
  | dspSignal src index => exact (.run h.regBy : s.KeepsOn (execDspSignal src index s))
  | dspCancel src index => exact (.run h.regBy : s.KeepsOn (execDspCancel src index s))
  | dspDsel src index => exact (.run h.regBy : s.KeepsOn (execDspDsel src index s))
  | sweepRegion bad => exact (.run (ite h.sweepStart.sweepRestore h.sweepStart) : s.KeepsOn (execSweepRegion bad s))
  | eccWriteback w => exact (.run h.writeBack : s.KeepsOn (execEccWriteback w s))
  | remapComplete => exact (.run h.endCopy : s.KeepsOn (execRemapComplete s))
  | basinClearEnd => exact (.run (ite h.clearBasin.setFlag.beside h) : s.KeepsOn (execBasinClearEnd s))
  | frameStart => exact (.run h.startFrame.takeMsgs.sendCommit : s.KeepsOn (execFrameStart s))
  | frameHeader p bytes rx => exact (.orFault (ite h.clean.headerOn.settle h) : s.KeepsOn (execFrameHeader p bytes rx s))
  | frameReceived p bytes codeErrors rx =>
    exact (.orFault h.clean.frameIn.takeMsgs.settle :
      s.KeepsOn (execFrameReceived p bytes codeErrors rx s))
  | frameDelivery p => exact (.run h.deliverCopy : s.KeepsOn (execFrameDelivery p s))
  | eventMessage bytes => exact (.orFault (ite h.takeMsg h) : s.KeepsOn (execEventMessage bytes s))
  | cmdRead bytes => exact (.orFault (ite h.takeMsg h) : s.KeepsOn (execCmdRead bytes s))
  | cmdWrite bytes => exact (.orFault (ite h.takeMsg h) : s.KeepsOn (execCmdWrite bytes s))
  | timeSnap bytes => exact (.orFault (ite h.takeMsg h) : s.KeepsOn (execTimeSnap bytes s))
  | coreCmd bytes => exact (.orFault (ite h.takeMsg h) : s.KeepsOn (execCoreCmd bytes s))
  | reply bytes => exact (.orFault (ite h.takeMsg h) : s.KeepsOn (execReply bytes s))
  | commandTimeout node => exact (.run h.cmdTimeout : s.KeepsOn (execCommandTimeout node s))
  | helloTimer => exact (.run h.sayHello : s.KeepsOn (execHelloTimer s))
  | hello bytes => exact (.orFault (ite h.takeMsg h) : s.KeepsOn (execHello bytes s))
  | admitMsg bytes => exact (.orFault (ite h.takeMsg h) : s.KeepsOn (execAdmitMsg bytes s))
  | admitRepeat serial => exact (.run h.admitAgain : s.KeepsOn (execAdmitRepeat serial s))
  | refuse bytes => exact (.orFault (ite h.takeMsg h) : s.KeepsOn (execRefuse bytes s))
  | mapset bytes => exact (.orFault (ite h.takeMsg h) : s.KeepsOn (execMapset bytes s))
  | slotset bytes => exact (.orFault (ite h.takeMsg h) : s.KeepsOn (execSlotset bytes s))
  | mapRepeat => exact (.run h.mapAgain : s.KeepsOn (execMapRepeat s))
  | nodeAbsent node => exact (.run h.nodeGone : s.KeepsOn (execNodeAbsent node s))
  | headClaim bytes => exact (.orFault (ite h.takeMsg h) : s.KeepsOn (execHeadClaim bytes s))
  | headTakeover => exact (.run h.takeOver : s.KeepsOn (execHeadTakeover s))
  | headListenEnd => exact (.run h.listenEnd : s.KeepsOn (execHeadListenEnd s))
  | signalDetect p => exact (.run h.signalOn : s.KeepsOn (execSignalDetect p s))
  | commaFound p => exact (.run h.commaOn : s.KeepsOn (execCommaFound p s))
  | trainingSet p set => exact (.run h.clean.trainOn.settle : s.KeepsOn (execTrainingSet p set s))
  | los p => exact (.run h.clean.losOn.settle : s.KeepsOn (execLos p s))
  | trainingFailure p => exact (.run h.clean.trainFail.settle : s.KeepsOn (execTrainingFailure p s))
  | portRealign p => exact (.run h.realignPort : s.KeepsOn (execPortRealign p s))
  | relayTime => exact (.run h.relayDone : s.KeepsOn (execRelayTime s))
  | locked => exact (.run h.lockOn : s.KeepsOn (execLocked s))
  | holdover => exact (.run h.holdOn : s.KeepsOn (execHoldover s))
  | holdoverExit e => exact (.run h.holdOff : s.KeepsOn (execHoldoverExit e s))
  | slewEnd => exact (.run h.slewOff : s.KeepsOn (execSlewEnd s))
  | realignMuteEnd => exact (.run h.realignOff : s.KeepsOn (execRealignMuteEnd s))
  | trailLeadWrite src value => exact (.run h.regBy : s.KeepsOn (execTrailLeadWrite src value s))
  | snap src => exact (.run h.regBy : s.KeepsOn (execSnap src s))
  | trailTimeloRead src => exact (.run h.readBy : s.KeepsOn (execTrailTimeloRead src s))
  | aportCtl src p value => exact (.run h.regBy : s.KeepsOn (execAportCtl src p value s))
  | sapFrameReceived p frame => exact (.run h.clean.sapFrame.settle : s.KeepsOn (execSapFrameReceived p frame s))
  | txFrameStart p => exact (.run h.sapTxStart : s.KeepsOn (execTxFrameStart p s))
  | clkstop p => exact (.run h.clockStopOn : s.KeepsOn (execClkstop p s))
  | ratechg p => exact (.run h.rateChangeOn : s.KeepsOn (execRatechg p s))
  | clkback p => exact (.run h.clockBackOn : s.KeepsOn (execClkback p s))
  | csBlock p cs ub => exact (.orFault h.csBlockOn : s.KeepsOn (execCsBlock p cs ub s))
  | csupd src p value => exact (.run h.regBy : s.KeepsOn (execCsupd src p value s))
  | aportLoopctl src value => exact (.run h.regBy : s.KeepsOn (execAportLoopctl src value s))
  | loopRelease => exact (.run h.loopReleaseOn : s.KeepsOn (execLoopRelease s))
  | adacCtl src value => exact (.run h.regBy : s.KeepsOn (execAdacCtl src value s))
  | dacFadeEnd c => exact (.run h.dacClose : s.KeepsOn (execDacFadeEnd c s))
  | coutCtl src c value => exact (.run h.regBy : s.KeepsOn (execCoutCtl src c value s))
  | slewStep c => exact (.run h.stepNow : s.KeepsOn (execSlewStep c s))
  | rangeClampEnd c => exact (.run h.clampEnd : s.KeepsOn (execRangeClampEnd c s))
  | outputShort u => exact (.run h.clean.outputShort.settle : s.KeepsOn (execOutputShort u s))
  | compl c => exact (.run h.clean.complOn.settle : s.KeepsOn (execCompl c s))
  | complclr c => exact (.run h.complOff : s.KeepsOn (execComplclr c s))
  | complPersist c => exact (.run (ite h.retireUnit h) : s.KeepsOn (execComplPersist c s))
  | receiveCharacter n ch => exact (.run h.rxChar : s.KeepsOn (execReceiveCharacter n ch s))
  | transmitCharacter n => exact (.run h.txDone : s.KeepsOn (execTransmitCharacter n s))
  | deTail n => exact (.run h.tailOff : s.KeepsOn (execDeTail n s))
  | serDiv src n value => exact (.run h.regBy : s.KeepsOn (execSerDiv src n value s))
  | autorate src n value => exact (.run h.regBy : s.KeepsOn (execAutorate src n value s))
  | serRxdata src n => exact (.run h.readBy : s.KeepsOn (execSerRxdata src n s))
  | serTxdata src n value => exact (.run h.regBy : s.KeepsOn (execSerTxdata src n value s))
  | lineStuck n => exact (.run h.stuckOn : s.KeepsOn (execLineStuck n s))
  | lineIdle n => exact (.run h.stuckOff : s.KeepsOn (execLineIdle n s))
  | sendHeader src n value => exact (.run h.regBy : s.KeepsOn (execSendHeader src n value s))
  | frameResponseTimeout n => exact (.run h.frameTimeout : s.KeepsOn (execFrameResponseTimeout n s))
  | dmxTransmitPacket n => exact (.run h.dmxSend : s.KeepsOn (execDmxTransmitPacket n s))
  | dmxReceivePacket n pkt => exact (.orFault h.dmxTake : s.KeepsOn (execDmxReceivePacket n pkt s))
  | dmxloss n => exact (.run h.dmxLossOn : s.KeepsOn (execDmxloss n s))
  | sendRdm src n value => exact (.run h.regBy : s.KeepsOn (execSendRdm src n value s))
  | rdmTimeout n => exact (.run h.rdmTimeout : s.KeepsOn (execRdmTimeout n s))
  | compareMatch n => exact (.run (ite h.tick h) : s.KeepsOn (execCompareMatch n s))
  | timerWrap n => exact (.run (ite h.tick h) : s.KeepsOn (execTimerWrap n s))
  | capture n rising => exact (.run h.captureOn : s.KeepsOn (execCapture n rising s))
  | timerSourceChange => exact (.run h.sourceChange : s.KeepsOn (execTimerSourceChange s))
  | tmrCntWrite src n value => exact (.run h.regBy : s.KeepsOn (execTmrCntWrite src n value s))
  | tmrCntRead src n => exact (.run h.readBy : s.KeepsOn (execTmrCntRead src n s))
  | tmrCtl src n value => exact (.run h.regBy : s.KeepsOn (execTmrCtl src n value s))
  | staggerStart src g value => exact (.run h.regBy : s.KeepsOn (execStaggerStart src g value s))
  | modeLantern src => exact (.run h.regBy : s.KeepsOn (execModeLantern src s))
  | modeRest src => exact (.run h.regBy : s.KeepsOn (execModeRest src s))
  | modeRelay src => exact (.run h.regBy : s.KeepsOn (execModeRelay src s))
  | modeService src => exact (.run h.regBy : s.KeepsOn (execModeService src s))
  | modeRun src => exact (.run h.regBy : s.KeepsOn (execModeRun src s))
  | modeEntered => exact (.run h.modeDone : s.KeepsOn (execModeEntered s))
  | wake => exact (.run h.wakeOn : s.KeepsOn (execWake s))
  | wakeBurst => exact (.run (ite h.wakeOn h) : s.KeepsOn (execWakeBurst s))
  | pwrWakesend src value => exact (.run h.regBy : s.KeepsOn (execPwrWakesend src value s))
  | wakeBurstEnd p => exact (.run h.burstEnd : s.KeepsOn (execWakeBurstEnd p s))
  | supplyInvalid u => exact (exec_supplyInvalid : s.KeepsOn (execSupplyInvalid u s))
  | supplyValid u => exact (exec_supplyValid : s.KeepsOn (execSupplyValid u s))
  | coldReset => exact (.run (h.coldReset.setReg.setFlag.setAna id id) : s.KeepsOn (execColdReset s))
  | warmReset cause => exact (.run (ite h.warmReset h) : s.KeepsOn (execWarmReset cause s))
  | brownout => exact (.run (ite h (ite h.setFlag.setFlag h.setFlag.setFlag.coreReset)) : s.KeepsOn (execBrownout s))
  | powerOff => exact (.run (beside (setReg h.coldReset)) : s.KeepsOn (execPowerOff s))
  | sysReset src value => exact (.run h.regBy : s.KeepsOn (execSysReset src value s))
  | watchdogExpiry => exact (.run (ite h.drawStatus.logFault.warmReset h) : s.KeepsOn (execWatchdogExpiry s))
  | lxtal => exact (.run (ite h (clockRecord (setFlag h.beside))) : s.KeepsOn (execLxtal s))
  | lxfail => exact (.run (ite h h.setFlag.clockRecord) : s.KeepsOn (execLxfail s))
  | oscok => exact (.run (ite h (clockRecord (beside h.setFlag))) : s.KeepsOn (execOscok s))
  | pllLock =>
    exact (.run (ite h (clockRecord (ite (ite h.setFlag.setFlag.beside h.setFlag.beside) h.setFlag))) :
      s.KeepsOn (execPllLock s))
  | boot => exact (.run h.bootStart : s.KeepsOn (execBoot s))
  | booted => exact (.run h.bootEnds : s.KeepsOn (execBooted s))
  | packStatus src => exact (.run h.packBy : s.KeepsOn (execPackStatus src s))
  | packBegin src => exact (.run h.packBy : s.KeepsOn (execPackBegin src s))
  | eraseDone => exact (.run h.eraseEnds : s.KeepsOn (execEraseDone s))
  | packWrite src offset data => exact (.run (ite h.packBy h) : s.KeepsOn (execPackWrite src offset data s))
  | verify src => exact (.run h.packBy : s.KeepsOn (execVerify src s))
  | verifyDone => exact (.run h.verifyEnds : s.KeepsOn (execVerifyDone s))
  | commit src => exact (.run h.packBy : s.KeepsOn (execCommit src s))
  | commitDone => exact (.run h.commitEnds : s.KeepsOn (execCommitDone s))
  | abort src => exact (.run h.packBy : s.KeepsOn (execAbort src s))
  | reload src bank => exact (.run h.packBy : s.KeepsOn (execReload src bank s))
  | packRead src offset count => exact (exec_packRead : s.KeepsOn (execPackRead src offset count s))
  | fuse src => exact (.run h.regBy : s.KeepsOn (execFuse src s))
  | faultLogWrite => exact (.run h.logWrite : s.KeepsOn (execFaultLogWrite s))
  | test src u => exact (.run h.regBy : s.KeepsOn (execTest src u s))
  | testDone pass => exact (.run h.testEnd : s.KeepsOn (execTestDone pass s))
  | retire src u => exact (.run h.regBy : s.KeepsOn (execRetire src u s))
  | readmit src u pass => exact (.run h.writeBy : s.KeepsOn (execReadmit src u pass s))
  | spiRead frame => exact (.run h.spi : s.KeepsOn (execSpiRead frame s))
  | spiWrite frame => exact (.run h.spi : s.KeepsOn (execSpiWrite frame s))
  | spiTime frame => exact (.run h.spi : s.KeepsOn (execSpiTime frame s))
  | spiSend frame => exact (.run h.spi : s.KeepsOn (execSpiSend frame s))
  | spiAbort frame => exact (.run h.spi : s.KeepsOn (execSpiAbort frame s))
  | registerWrite src addr value => exact (.run (ite h.draw.writeBy (ite h.refusedBy h)) : s.KeepsOn (execRegisterWrite src addr value s))
  | resetRelease => exact (.run (ite h (ite h.beside h.beside)) : s.KeepsOn (execResetRelease s))
  | wclkEdge period toBoundary => exact (.run h.wclkOn : s.KeepsOn (execWclkEdge period toBoundary s))
  | trapIllegal k => exact (exec_trapIllegal : s.KeepsOn (execTrapIllegal k s))
  | instructionFetchFault k => exact (exec_instructionFetchFault : s.KeepsOn (execInstructionFetchFault k s))
  | pageProgramDone => exact (.run (ite (h.setPack fun _ => rfl) h) : s.KeepsOn (execPageProgramDone s))

theorem step_keeps {s t : State} (next : step s = .next t) : s.Keeps t := by
  cases queue : s.pending with
  | nil =>
    rw [step_nil queue] at next
    exact KeepsOn.run (refl s).tick t next
  | cons i rest =>
    rw [step_cons queue] at next
    exact exec_keeps i { s with pending := rest } t next

end State.Keeps

/-- Settles O4, from what each command keeps. -/
theorem stepsKeepTheCanonicalForm : Obligations.StepsKeepTheCanonicalForm := by
  unfold Obligations.StepsKeepTheCanonicalForm
  exact fun s t canonical next => (State.Keeps.step_keeps next).1 canonical

/-- Settles O60, from what each command keeps; the node after reset is evaluated. -/
theorem stepsKeepTheUnits : Obligations.StepsKeepTheUnits := by
  unfold Obligations.StepsKeepTheUnits
  exact ⟨by decide, fun s t shaped next => (State.Keeps.step_keeps next).2 shaped⟩

end Sys2Proof.Machine
end

/-!
SUPPORT. A captured edge whose record meets a word of its ring entry under error detection (R226, R244).
-/
section
namespace Sys2Proof.Machine

/-- A node in SERVICE whose timer channel 0 captures and offers its events to source 6, where its last entry still waits; the word that holds the
entry's LOST has a single-bit error. -/
def correctingNode : State :=
  { State.reset with
    regs := [(Adr.PWR_STAT, 4), (Adr.DSP_SRCCFG 6, 0x8000), (Adr.TMR_CTL 0, 0x200002)]
    basin := { Basin.reset with ecc := [(6, false)] }
    disp := { Disp.reset with rings := Disp.reset.rings.set 6 { SrcRing.empty with occupied := [0] } }
    power := { Power.reset with held := false, vddao := true } }

theorem exec_capture (n : Fin 16) (rising : Bool) (s : State) :
    exec (.capture n rising) s = .next ((s.captureOn n.val rising).queued s.pending) := rfl

theorem correctingNode_corrects : ((correctingNode.captureOn 0 true).queued correctingNode.pending).reg Adr.BASIN_CECNT ≠ correctingNode.reg Adr.BASIN_CECNT := by
  decide +kernel

/-- Refutes O48: a captured edge whose ring entry is still occupied counts in the entry's LOST. In correctingNode the word of LOST has a
single-bit error; its correction counts in BASIN_CECNT (R244), which is not among the registers that the statement lets change. -/
theorem not_timerCommandsTakeEffect : ¬ Obligations.TimerCommandsTakeEffect := by
  unfold Obligations.TimerCommandsTakeEffect
  intro h
  obtain ⟨-, -, -, capture, -⟩ := h correctingNode .host 0 0 (by decide)
  obtain ⟨-, -, taken⟩ := capture true
  obtain ⟨t, answer, -, -, kept, -⟩ := taken (by decide +kernel) (by decide +kernel)
  have same : t.reg Adr.BASIN_CECNT = correctingNode.reg Adr.BASIN_CECNT :=
    kept _ (by decide +kernel) (by decide) (by decide) (by decide) (fun q _ => by simp only [Adr.BASIN_CECNT, Adr.DSP_SRCLOST]; omega)
  rw [exec_capture] at answer
  rw [← Host.Outcome.next.inj answer] at same
  exact correctingNode_corrects same

end Sys2Proof.Machine
end

/-!
SUPPORT. A store in the Basin that meets no other write of its FCLK cycle and no error (R239 to R241): what it leaves, word by word.
-/
section
namespace Sys2Proof.Machine

variable {s t u : State} {a w : Nat} {l : List Byte}

/-- State t is s after bytes l were stored from a on, as far as they lie in the words ws. -/
structure State.Stored (a : Nat) (l : List Byte) (ws : List Nat) (s t : State) : Prop where
  only : t = { s with regs := t.regs, basin := t.basin, voice := { s.voice with dirtied := t.voice.dirtied } }
  reg : ∀ r, r ≠ Adr.VOICE_HASHCTL → t.reg r = s.reg r
  byte : ∀ b, t.memByte b = if b / 4 ∈ ws ∧ a ≤ b ∧ b < a + l.length then l.getD (b - a) 0 else s.memByte b
  groups : ∀ g ∈ t.basin.groups, g.word ∈ ws ∨ g ∈ s.basin.groups
  ecc : ∀ v, v ∉ ws → t.eccOf v = s.eccOf v

theorem State.Stored.refl (a : Nat) (l : List Byte) (s : State) : State.Stored a l [] s s :=
  ⟨rfl, fun _ _ => rfl, fun b => by rw [if_neg (by simp)], fun _ mem => .inr mem, fun _ _ => rfl⟩

theorem State.Stored.clk {ws : List Nat} (h : State.Stored a l ws s t) : t.clk = s.clk := by rw [h.only]

theorem State.Stored.trans {ws vs : List Nat} (h : State.Stored a l ws s t) (g : State.Stored a l vs t u) :
    State.Stored a l (ws ++ vs) s u := by
  refine ⟨?_, fun r other => (g.reg r other).trans (h.reg r other), fun b => ?_, fun x mem => ?_, fun v out => ?_⟩
  · have first := h.only
    have second := g.only
    rw [second, first]
  · rw [g.byte, h.byte]
    by_cases late : b / 4 ∈ vs <;> by_cases early : b / 4 ∈ ws <;> by_cases inside : a ≤ b ∧ b < a + l.length <;> simp [late, early, inside]
  · rcases g.groups x mem with late | mem
    · exact .inl (List.mem_append_right _ late)
    · exact (h.groups x mem).imp_left (List.mem_append_left _)
  · obtain ⟨early, late⟩ := not_or.mp (mt List.mem_append.mpr out)
    exact (g.ecc v late).trans (h.ecc v early)

/-! ### One word -/

/-- The part of the bytes l at a that lies in word w: its address, and its bytes. -/
def wordPart (a : Nat) (l : List Byte) (w : Nat) : Nat × List Byte :=
  (Nat.max a (4 * w), (l.drop (Nat.max a (4 * w) - a)).take (4 * w + 4 - Nat.max a (4 * w)))

theorem memParts_eq (a : Nat) (l : List Byte) : memParts a l = (touchedWords a l.length).map (wordPart a l) := rfl

theorem wordPart_length (below : a ≤ 4 * w + 3) : (wordPart a l w).2.length = min (4 * w + 4) (a + l.length) - max a (4 * w) := by
  simp only [wordPart, List.length_take, List.length_drop, Nat.max_def]
  split <;> omega

theorem wordPart_getD {b : Nat} (inside : b / 4 = w) (low : a ≤ b) (_high : b < a + l.length) :
    (wordPart a l w).2.getD (b - (wordPart a l w).1) 0 = l.getD (b - a) 0 := by
  have lo : Nat.max a (4 * w) ≤ b := Nat.max_le.mpr ⟨low, by omega⟩
  have start : a ≤ Nat.max a (4 * w) := Nat.le_max_left _ _
  simp only [wordPart, List.getD_eq_getElem?_getD]
  rw [List.getElem?_take_of_lt (by omega), List.getElem?_drop]
  congr 2
  omega

theorem mem_fullWords {v n : Nat} (mem : v ∈ fullWords a n) : a ≤ 4 * v ∧ 4 * v + 4 ≤ a + n := by
  obtain ⟨i, -, some⟩ := List.mem_filterMap.mp mem
  dsimp only at some
  split at some
  · next inside => exact Option.some.inj some ▸ inside
  · exact nomatch some

theorem eccOf_filter {t : State} {keep : Nat × Bool → Bool} {v : Nat} (ecc : t.basin.ecc = s.basin.ecc.filter keep)
    (kept : ∀ p, p.1 = v → keep p = true) : t.eccOf v = s.eccOf v := by
  rw [State.eccOf, ecc, List.find?_filter, State.eccOf]
  congr 1
  refine congrArg (List.find? · s.basin.ecc) (funext fun p => ?_)
  by_cases same : p.1 = v
  · simp [same, kept p same]
  · simp [same]

theorem State.memPut_only (a : Nat) (l : List Byte) : s.memPut a l = { s with
    regs := (s.memPut a l).regs, basin := (s.memPut a l).basin, voice := { s.voice with dirtied := (s.memPut a l).voice.dirtied } } := by
  have stale : s.setStale = { s with regs := s.setStale.regs, voice := { s.voice with dirtied := s.setStale.voice.dirtied } } := by
    unfold State.setStale
    dsimp only
    split <;> rfl
  unfold State.memPut
  dsimp only
  split
  · split
    · rw [stale]
    · rfl
  · rfl

theorem State.memPut_basin (fits : a + l.length ≤ basinSize) : (s.memPut a l).basin = { s.basin with
    bytes := putBytes s.basin.bytes a l
    ecc := s.basin.ecc.filter (fun p => !(fullWords a l.length).contains p.1)
    writeback := s.basin.writeback.filter (fun v => !(touchedWords a l.length).contains v) } := by
  rw [State.memPut, if_pos fits]
  dsimp only
  split
  · rw [State.setStale_basin]
  · rfl

/-- Bytes in one word, stored as they stand with the check bits of the whole word. -/
def State.storePart (s : State) (master port a : Nat) (l : List Byte) : State :=
  let t := (s.setGroup ⟨a / 4, s.clk, s.memBytes (4 * (a / 4)) 4, [laneWrite master port a l]⟩).memPut a l
  { t with basin := { t.basin with
    ecc := t.basin.ecc.filter (fun e => e.1 ≠ a / 4), writeback := t.basin.writeback.filter (· ≠ a / 4) } }

theorem State.writePart_storePart {master port : Nat} (alone : ∀ g ∈ s.basin.groups, g.word = a / 4 → g.clk ≠ s.clk)
    (sound : l.length = 4 ∨ s.eccOf (a / 4) = none) :
    s.writePart master port a l = (⟨false, false⟩, s.storePart master port a l) := by
  have checked : (if l.length = 4 then (true, s) else s.checkWords master [a / 4]) = (true, s) := by
    split
    · rfl
    · next short =>
      refine State.checkWords_of_sound (fun v mem => ?_) master
      rw [List.mem_singleton.mp mem]
      exact sound.resolve_left short
  have none : s.basin.groups.find? (fun g => g.open s.clk (a / 4) master && Config.sameCycle s.clk (a / 4) master) = none := by
    refine List.find?_eq_none.mpr fun g mem => ?_
    simp only [WordGroup.open, Bool.and_eq_true, decide_eq_true_eq, not_and]
    exact fun opens => absurd opens.1.2 (alone g mem opens.1.1)
  have put : s.putPart master port a l =
      (false, (s.setGroup ⟨a / 4, s.clk, s.memBytes (4 * (a / 4)) 4, [laneWrite master port a l]⟩).memPut a l) := by
    unfold State.putPart
    simp only [none]
    rfl
  rw [State.writePart, checked]
  simp only [if_true, put]
  rfl

theorem State.storePart_only (master port : Nat) : s.storePart master port a l = { s with
    regs := (s.storePart master port a l).regs, basin := (s.storePart master port a l).basin
    voice := { s.voice with dirtied := (s.storePart master port a l).voice.dirtied } } := by
  unfold State.storePart
  dsimp only
  rw [State.memPut_only]
  rfl

theorem State.storePart_byte (master port b : Nat) (fits : a + l.length ≤ basinSize) :
    (s.storePart master port a l).memByte b = if a ≤ b ∧ b < a + l.length then l.getD (b - a) 0 else s.memByte b := by
  have put := State.memByte_memPut (s.setGroup ⟨a / 4, s.clk, s.memBytes (4 * (a / 4)) 4, [laneWrite master port a l]⟩) a l b
  simp only [fits, true_and] at put
  exact put

theorem State.storePart_groups (master port : Nat) {g : WordGroup} (mem : g ∈ (s.storePart master port a l).basin.groups)
    (fits : a + l.length ≤ basinSize) : g.word = a / 4 ∨ g ∈ s.basin.groups := by
  unfold State.storePart at mem
  dsimp only at mem
  rw [State.memPut_basin fits] at mem
  rcases List.mem_cons.mp mem with rfl | mem
  · exact .inl rfl
  · exact .inr (List.mem_of_mem_filter mem)

theorem State.storePart_ecc (master port : Nat) {v : Nat} (other : v ≠ a / 4) (inWord : l.length ≤ 4 - a % 4)
    (fits : a + l.length ≤ basinSize) : (s.storePart master port a l).eccOf v = s.eccOf v := by
  have put : ((s.setGroup ⟨a / 4, s.clk, s.memBytes (4 * (a / 4)) 4, [laneWrite master port a l]⟩).memPut a l).eccOf v = s.eccOf v := by
    refine eccOf_filter (congrArg Basin.ecc (State.memPut_basin fits)) fun p same => ?_
    rw [Bool.not_eq_true', List.contains_eq_mem, decide_eq_false_iff_not]
    intro mem
    have := mem_fullWords mem
    omega
  exact (eccOf_filter rfl fun p same => by simpa [same] using other).trans put

/-- The part of a store that lies in one word, where no other write of the FCLK cycle reached the word and a word written in part is sound. -/
theorem State.writePart_clear {master port : Nat} (alone : ∀ g ∈ s.basin.groups, g.word = w → g.clk ≠ s.clk)
    (sound : (wordPart a l w).2.length = 4 ∨ s.eccOf w = none) (below : a ≤ 4 * w + 3) (above : 4 * w < a + l.length)
    (fits : a + l.length ≤ basinSize) :
    ∃ t, s.writePart master port (wordPart a l w).1 (wordPart a l w).2 = (⟨false, false⟩, t) ∧ State.Stored a l [w] s t := by
  have len := wordPart_length (l := l) below
  have start : (wordPart a l w).1 = max a (4 * w) := rfl
  have bytes := fun b => wordPart_getD (a := a) (l := l) (w := w) (b := b)
  generalize wordPart a l w = p at *
  have word : p.1 / 4 = w := by omega
  have inside : p.1 + p.2.length ≤ basinSize := by omega
  refine ⟨_, State.writePart_storePart (by rwa [word]) (by rwa [word]), State.storePart_only _ _, fun r other => ?_, fun b => ?_,
    fun g mem => ?_, fun v out => ?_⟩
  · exact State.memPut_reg_other other _ _
  · rw [State.storePart_byte _ _ _ inside]
    by_cases here : b / 4 = w ∧ a ≤ b ∧ b < a + l.length
    · obtain ⟨inWord, low, high⟩ := here
      rw [if_pos (by omega), if_pos (by simp [inWord, low, high]), bytes b inWord low high]
    · rw [if_neg (by omega), if_neg (by simpa using here)]
  · exact (State.storePart_groups _ _ mem inside).imp_left fun same => List.mem_singleton.mpr (same.trans word)
  · exact State.storePart_ecc _ _ (by rw [word]; exact fun same => out (List.mem_singleton.mpr same)) (by omega) inside

/-! ### A store of any length -/

theorem State.Stored.alone {ws : List Nat} (h : State.Stored a l ws s t) (apart : w ∉ ws)
    (alone : ∀ g ∈ s.basin.groups, g.word = w → g.clk ≠ s.clk) : ∀ g ∈ t.basin.groups, g.word = w → g.clk ≠ t.clk := by
  intro g mem word
  rw [h.clk]
  exact alone g ((h.groups g mem).resolve_left fun late => apart (word ▸ late)) word

theorem mem_touchedWords {n : Nat} : w ∈ touchedWords a n ↔ 0 < n ∧ a ≤ 4 * w + 3 ∧ 4 * w < a + n := by
  unfold touchedWords
  split
  · next empty =>
    simp only [List.not_mem_nil, false_iff]
    omega
  · next some =>
    simp only [List.mem_map, List.mem_range]
    constructor
    · rintro ⟨i, hi, rfl⟩
      omega
    · rintro ⟨-, low, high⟩
      have first : a / 4 ≤ w := by omega
      have last : w ≤ (a + n - 1) / 4 := by omega
      exact ⟨w - a / 4, by omega, Nat.sub_add_cancel first⟩

theorem touchedWords_nodup (a n : Nat) : (touchedWords a n).Nodup := by
  unfold touchedWords
  split
  · exact List.nodup_nil
  · exact List.nodup_range.map (fun i j same => Nat.add_right_cancel same)

theorem State.basinWrite_parts {master port : Nat} (ws : List Nat) (once : ws.Nodup) (touched : ∀ w ∈ ws, w ∈ touchedWords a l.length)
    (alone : ∀ g ∈ s.basin.groups, g.word ∈ ws → g.clk ≠ s.clk) (sound : ∀ w ∈ ws, w ∉ fullWords a l.length → s.eccOf w = none)
    (fits : a + l.length ≤ basinSize) :
    ∃ t, (ws.map (wordPart a l)).foldl (fun (p : Written × State) q =>
      let r := p.2.writePart master port q.1 q.2
      (⟨p.1.bad || r.1.bad, p.1.lost || r.1.lost⟩, r.2)) (⟨false, false⟩, s) = (⟨false, false⟩, t) ∧ State.Stored a l ws s t := by
  induction ws generalizing s with
  | nil => exact ⟨s, rfl, .refl a l s⟩
  | cons w ws ih =>
    obtain ⟨out, once⟩ := List.nodup_cons.mp once
    obtain ⟨-, below, above⟩ := mem_touchedWords.mp (touched w List.mem_cons_self)
    have whole : (wordPart a l w).2.length = 4 ∨ s.eccOf w = none := by
      rw [wordPart_length below]
      by_cases full : w ∈ fullWords a l.length
      · have := mem_fullWords full
        exact .inl (by omega)
      · exact .inr (sound w List.mem_cons_self full)
    obtain ⟨u, first, stored⟩ := State.writePart_clear (master := master) (port := port)
      (fun g mem word => alone g mem (word ▸ List.mem_cons_self)) whole below above fits
    obtain ⟨t, rest, later⟩ := ih (s := u) once (fun v mem => touched v (List.mem_cons_of_mem _ mem))
      (fun g mem word => stored.alone (fun same => out (List.mem_singleton.mp same ▸ word))
        (fun g mem word' => alone g mem (word' ▸ List.mem_cons_of_mem _ word)) g mem rfl)
      (fun v mem part => (stored.ecc v fun same => out (List.mem_singleton.mp same ▸ mem)).trans (sound v (List.mem_cons_of_mem _ mem) part))
    refine ⟨t, ?_, stored.trans later⟩
    rw [List.map_cons, List.foldl_cons, first]
    exact rest

/-- A store that nothing stands in the way of (R239, R241). -/
theorem State.basinWrite_clear {master port : Nat} (clear : Claims.clear s a l.length) (fits : a + l.length ≤ basinSize) :
    ∃ t, s.basinWrite master port a l = (⟨false, false⟩, t) ∧ State.Stored a l (touchedWords a l.length) s t :=
  State.basinWrite_parts _ (touchedWords_nodup _ _) (fun _ mem => mem) clear.2 clear.1 fits

theorem State.Stored.byte_all (h : State.Stored a l (touchedWords a l.length) s t) (b : Nat) :
    t.memByte b = if a ≤ b ∧ b < a + l.length then l.getD (b - a) 0 else s.memByte b := by
  rw [h.byte]
  refine ite_congr (propext ⟨fun inside => inside.2, fun inside => ⟨mem_touchedWords.mpr (by omega), inside⟩⟩) (fun _ => rfl) fun _ => rfl

end Sys2Proof.Machine
end

/-!
SUPPORT. The frames of the SPI target (Table HI-2, R457): what a frame that a host builds says, and words as bytes.
-/
section
namespace Sys2Proof.Machine

variable {op a n v : Nat} {d l : List Byte}

/-! ### Bytes and words -/

theorem natLE_leNat (l : List Byte) : natLE l.length (leNat l) = l := by
  induction l with
  | nil => rfl
  | cons b bs ih =>
    have low := b.isLt
    have head : BitVec.ofNat 8 (b.toNat + 256 * leNat bs) = b := by
      refine BitVec.eq_of_toNat_eq ?_
      rw [BitVec.toNat_ofNat]
      omega
    have rest : (b.toNat + 256 * leNat bs) / 256 = leNat bs := by omega
    simp only [List.length_cons, natLE, leNat]
    rw [head, rest, ih]

theorem natLE_one (v : Nat) : natLE 1 v = [BitVec.ofNat 8 v] := rfl

theorem wordsOf_eq (count : d.length = 4 * n) : wordsOf d = (List.range n).map (fun i => leNat ((d.drop (4 * i)).take 4)) := by
  induction n generalizing d with
  | zero => rw [List.length_eq_zero_iff.mp count]; rfl
  | succ n ih =>
    match d, count with
    | w :: x :: y :: z :: t, count =>
      have rest : t.length = 4 * n := by
        simp only [List.length_cons] at count
        omega
      rw [wordsOf, ih rest, List.range_succ_eq_map, List.map_cons, List.map_map]
      rfl

/-- A register of eight bits stays one. -/
theorem crcMsbStep_lt (poly c : Nat) (b : Byte) : crcMsbStep 8 poly c b < 2 ^ 8 := by
  unfold crcMsbStep
  rw [List.range_succ, List.foldl_append]
  simp only [List.foldl_cons, List.foldl_nil]
  generalize List.foldl _ _ (List.range 7) = c
  split
  · exact Nat.mod_lt _ (Nat.two_pow_pos 8)
  · exact Nat.mod_lt _ (Nat.two_pow_pos 8)

theorem crc8_lt (l : List Byte) : crc8 l < 2 ^ 8 := by
  rcases List.eq_nil_or_concat l with rfl | ⟨front, last, rfl⟩
  · decide
  · rw [crc8, List.concat_eq_append, List.foldl_append, List.foldl_cons, List.foldl_nil]
    exact crcMsbStep_lt _ _ _

/-! ### What a frame says -/

/-- The bytes of a frame before CCRC. -/
def Spi.body (op a n : Nat) (d : List Byte) : List Byte := natLE 1 op ++ natLE 4 a ++ natLE 1 n ++ d

theorem Spi.frame_eq (op a n : Nat) (d : List Byte) : Spi.frame op a n d = Spi.body op a n d ++ natLE 1 (crc8 (Spi.body op a n d)) := rfl

theorem Spi.body_length (op a n : Nat) (d : List Byte) : (Spi.body op a n d).length = 6 + d.length := by
  simp only [Spi.body, List.length_append, natLE_length]

theorem Spi.frame_length (op a n : Nat) (d : List Byte) : (Spi.frame op a n d).length = 7 + d.length := by
  rw [Spi.frame_eq, List.length_append, Spi.body_length, natLE_length]
  omega

theorem Spi.op_frame (small : op < 2 ^ 8) : Spi.op (Spi.frame op a n d) = op := Nat.mod_eq_of_lt small

theorem Spi.count_frame (small : n < 2 ^ 8) : Spi.count (Spi.frame op a n d) = n := Nat.mod_eq_of_lt small

theorem Spi.addr_frame (word : a < 2 ^ 32) : Spi.addr (Spi.frame op a n d) = a := by
  have split : Spi.frame op a n d = natLE 1 op ++ natLE 4 a ++ (natLE 1 n ++ d ++ natLE 1 (crc8 (Spi.body op a n d))) := by
    rw [Spi.frame_eq, Spi.body]
    simp only [List.append_assoc]
  rw [Spi.addr, split]
  exact leAt_append _ _ 4 a word

theorem Spi.data_frame (count : d.length = 4 * n) (small : n < 2 ^ 8) : Spi.data (Spi.frame op a n d) = d := by
  have split : Spi.frame op a n d = (natLE 1 op ++ natLE 4 a ++ natLE 1 n) ++ (d ++ natLE 1 (crc8 (Spi.body op a n d))) := by
    rw [Spi.frame_eq, Spi.body]
    simp only [List.append_assoc]
  rw [Spi.data, Spi.count_frame small, split, List.drop_left' (by simp only [List.length_append, natLE_length]), ← count, List.take_left]

/-- What a driver may put in a frame (Table HI-2): DATA with WRITE and SEND, and with no other operation. -/
structure Spi.Sends (op a n : Nat) (d : List Byte) : Prop where
  opByte : op < 2 ^ 8
  addrWord : a < 2 ^ 32
  countByte : n < 2 ^ 8
  data : if (op = 2 ∨ op = 4) ∧ 1 ≤ n ∧ n ≤ 64 then d.length = 4 * n else d = []

theorem Spi.Sends.bodyLen (h : Spi.Sends op a n d) : Spi.bodyLen (Spi.frame op a n d) = (Spi.body op a n d).length := by
  have data := h.data
  rw [Spi.bodyLen, Spi.hasData, Spi.op_frame h.opByte, Spi.count_frame h.countByte, Spi.body_length]
  simp only [Bool.and_eq_true, Bool.or_eq_true, decide_eq_true_eq, and_assoc]
  split at data
  · next has => rw [if_pos has, data]
  · next none => rw [if_neg none, data]; rfl

theorem Spi.Sends.complete (h : Spi.Sends op a n d) : Spi.complete (Spi.frame op a n d) = true := by
  rw [Spi.complete, h.bodyLen, Spi.frame_length, Spi.body_length]
  simp only [Bool.and_eq_true, decide_eq_true_eq]
  omega

theorem Spi.Sends.crcGood (h : Spi.Sends op a n d) : Spi.crcGood (Spi.frame op a n d) = true := by
  have last : byteAt (Spi.frame op a n d) (Spi.body op a n d).length = crc8 (Spi.body op a n d) := by
    rw [byteAt, Spi.frame_eq, List.getD_append_right _ _ _ _ (Nat.le_refl _), Nat.sub_self]
    exact Nat.mod_eq_of_lt (crc8_lt _)
  rw [Spi.crcGood, h.bodyLen, last, Spi.frame_eq, List.take_left, decide_eq_true_eq]

theorem Spi.Sends.headStatus (h : Spi.Sends op a n d) : Spi.headStatus (Spi.frame op a n d) = firstFail [
    (op = 0 || 5 ≤ op, St.unknown),
    ((op = 3 && (a ≠ 0 || n ≠ 0)) || (op = 4 && a ≠ 0), St.reserved),
    (op ≠ 3 && (n = 0 || 64 < n), St.range),
    (a % 4 ≠ 0, St.align)] := by
  rw [Spi.headStatus, h.crcGood, Spi.op_frame h.opByte, Spi.addr_frame h.addrWord, Spi.count_frame h.countByte]
  rfl

end Sys2Proof.Machine
end

/-!
SUPPORT. Words that the host reads and writes in the Basin (R454, R458): sound words are read as they stand, and words that meet no other write of their
FCLK cycle are stored.
-/
section
namespace Sys2Proof.Machine

variable {s t : State} {src : Source} {a n w : Nat} {d : List Byte}

/-! ### Reads -/

theorem State.place_basin (s : State) (core : Option Nat) (inside : a < basinSize) : s.place core a = .basin := by
  unfold State.place
  rw [if_pos inside]

theorem mem_touchedWords_word (aligned : a % 4 = 0) : w ∈ touchedWords a 4 ↔ w = a / 4 := by
  rw [mem_touchedWords]
  omega

theorem State.basinRead_sound (master : Nat) (sound : ∀ w ∈ touchedWords a n, s.eccOf w = none) :
    s.basinRead master a n = (some (s.memBytes a n), s) := by
  rw [State.basinRead, State.checkWords_of_sound sound]
  rfl

theorem State.busRead_basin (inside : a < basinSize) (aligned : a % 4 = 0) (sound : s.eccOf (a / 4) = none) :
    s.busRead a = (0, leNat (s.memBytes a 4), s) := by
  have read := State.basinRead_sound (s := s) (a := a) (n := 4) Master.host fun w mem => (mem_touchedWords_word aligned).mp mem ▸ sound
  unfold State.busRead
  rw [State.place_basin s _ inside]
  simp only [read]

theorem State.busReads_basin (acc : List Nat) (fits : a + 4 * n ≤ basinSize) (aligned : a % 4 = 0)
    (sound : ∀ w, a / 4 ≤ w → w < a / 4 + n → s.eccOf w = none) :
    State.busReads n s a acc = (0, a + 4 * n, acc.reverse ++ (List.range n).map (fun i => leNat (s.memBytes (a + 4 * i) 4)), s) := by
  induction n generalizing a acc with
  | zero => simp [State.busReads]
  | succ n ih =>
    have later := ih (a := a + 4) (leNat (s.memBytes a 4) :: acc) (by omega) (by omega) fun w low high => sound w (by omega) (by omega)
    rw [State.busReads, State.busRead_basin (by omega) aligned (sound _ (Nat.le_refl _) (by omega))]
    simp only [later, List.range_succ_eq_map, List.map_cons, List.map_map, List.reverse_cons, List.append_assoc, List.singleton_append]
    have step : a + 4 + 4 * n = a + 4 * (n + 1) := by omega
    have shift : ((fun i => leNat (s.memBytes (a + 4 * i) 4)) ∘ Nat.succ) = fun i => leNat (s.memBytes (a + 4 + 4 * i) 4) := by
      funext i
      simp only [Function.comp, Nat.succ_eq_add_one]
      congr 2
      omega
    rw [step, shift, Nat.mul_zero]
    rfl

theorem State.readWords_basin (fits : a + 4 * n ≤ basinSize) (aligned : a % 4 = 0)
    (sound : ∀ w, a / 4 ≤ w → w < a / 4 + n → s.eccOf w = none) :
    s.readWords a n = (0, a + 4 * n, (List.range n).map (fun i => leNat (s.memBytes (a + 4 * i) 4)), s) := by
  rw [State.readWords, State.busReads_basin [] fits aligned sound]
  rfl

/-! ### Writes -/

/-- The words of bytes d at a, each with its address, as a write of whole words gives them. -/
def wordWrite (a : Nat) (d : List Byte) (w : Nat) : Nat × Nat := (4 * w, leNat (wordPart a d w).2)

/-- A word of an aligned store lies in it whole. -/
theorem wordPart_whole (aligned : a % 4 = 0) (count : d.length = 4 * n) (touched : w ∈ touchedWords a d.length) :
    (wordPart a d w).1 = 4 * w ∧ (wordPart a d w).2.length = 4 := by
  obtain ⟨-, low, high⟩ := mem_touchedWords.mp touched
  refine ⟨Nat.max_eq_right (by omega), ?_⟩
  rw [wordPart_length low]
  omega

theorem memParts_word (p : Nat) (l : List Byte) (aligned : p % 4 = 0) (whole : l.length = 4) : memParts p l = [(p, l)] := by
  have one : touchedWords p 4 = [p / 4] := by
    rw [touchedWords, if_neg (by decide), show (p + 4 - 1) / 4 - p / 4 + 1 = 1 by omega]
    simp
  have start : Nat.max p (4 * (p / 4)) = p := Nat.max_eq_left (by omega)
  rw [memParts_eq, whole, one, List.map_singleton, wordPart, start, Nat.sub_self, List.drop_zero, List.take_of_length_le (by omega)]

theorem State.basinWrite_word (master port p : Nat) (l : List Byte) (aligned : p % 4 = 0) (whole : l.length = 4) :
    s.basinWrite master port p l = s.writePart master port p l := by
  rw [State.basinWrite, memParts_word p l aligned whole]
  simp

/-- The host's word is stored as the part of the bytes that lies there. -/
theorem State.busWrite1_wordWrite (pass : Bool) (aligned : a % 4 = 0) (count : d.length = 4 * n) (touched : w ∈ touchedWords a d.length)
    (fits : a + d.length ≤ basinSize) : s.busWrite1 src (wordWrite a d w).1 (wordWrite a d w).2 pass =
      (if (s.writePart Master.host 0 (wordPart a d w).1 (wordPart a d w).2).1.lost then St.busy else 0,
        (s.writePart Master.host 0 (wordPart a d w).1 (wordPart a d w).2).2) := by
  obtain ⟨start, whole⟩ := wordPart_whole aligned count touched
  obtain ⟨-, low, high⟩ := mem_touchedWords.mp touched
  have bytes : natLE 4 (leNat (wordPart a d w).2) = (wordPart a d w).2 := by
    conv_lhs => rw [← whole]
    exact natLE_leNat _
  unfold State.busWrite1
  rw [wordWrite, State.place_basin s _ (by omega : 4 * w < basinSize)]
  simp only [bytes, start]
  rw [State.basinWrite_word _ _ _ _ (by omega) whole]

theorem State.pass1_stored (pass : Bool) (ws : List Nat) (once : ws.Nodup) (touched : ∀ w ∈ ws, w ∈ touchedWords a d.length)
    (alone : ∀ g ∈ s.basin.groups, g.word ∈ ws → g.clk ≠ s.clk) (aligned : a % 4 = 0) (count : d.length = 4 * n)
    (fits : a + d.length ≤ basinSize) :
    ∃ t, State.pass1 src pass s (ws.map (wordWrite a d)) = (0, 0, t) ∧ State.Stored a d ws s t := by
  induction ws generalizing s with
  | nil => exact ⟨s, rfl, .refl a d s⟩
  | cons w ws ih =>
    obtain ⟨out, once⟩ := List.nodup_cons.mp once
    have here := touched w List.mem_cons_self
    obtain ⟨-, below, above⟩ := mem_touchedWords.mp here
    obtain ⟨u, first, stored⟩ := State.writePart_clear (master := Master.host) (port := 0)
      (fun g mem word => alone g mem (word ▸ List.mem_cons_self)) (.inl (wordPart_whole aligned count here).2) below above fits
    obtain ⟨t, rest, later⟩ := ih (s := u) once (fun v mem => touched v (List.mem_cons_of_mem _ mem))
      (fun g mem word => stored.alone (fun same => out (List.mem_singleton.mp same ▸ word))
        (fun g mem word' => alone g mem (word' ▸ List.mem_cons_of_mem _ word)) g mem rfl)
    have written := State.busWrite1_wordWrite (s := s) (src := src) pass aligned count here fits
    rw [first] at written
    refine ⟨t, ?_, stored.trans later⟩
    rw [List.map_cons]
    show State.pass1 src pass s (((wordWrite a d w).1, (wordWrite a d w).2) :: _) = _
    rw [State.pass1, written]
    exact rest

theorem writes_wordsOf (aligned : a % 4 = 0) (count : d.length = 4 * n) :
    (List.range (wordsOf d).length).map (fun i => (a + 4 * i, (wordsOf d).getD i 0)) = (touchedWords a d.length).map (wordWrite a d) := by
  have words := wordsOf_eq count
  have length : (wordsOf d).length = n := by rw [words, List.length_map, List.length_range]
  have range : touchedWords a d.length = (List.range n).map (· + a / 4) := by
    rw [touchedWords, count]
    split
    · next none => rw [show n = 0 by omega]; rfl
    · next some => rw [show (a + 4 * n - 1) / 4 - a / 4 + 1 = n by omega]
  rw [length, range, List.map_map]
  refine List.map_congr_left fun i mem => ?_
  have below := List.mem_range.mp mem
  have start : Nat.max a (4 * (i + a / 4)) = 4 * (i + a / 4) := Nat.max_eq_right (by omega)
  have value : (wordsOf d).getD i 0 = leNat ((d.drop (4 * i)).take 4) := by
    rw [words, List.getD_eq_getElem?_getD, List.getElem?_map, List.getElem?_range below]
    rfl
  simp only [Function.comp, wordWrite, wordPart, start, value]
  rw [show 4 * (i + a / 4) - a = 4 * i by omega, show 4 * (i + a / 4) + 4 - 4 * (i + a / 4) = 4 by omega,
    show a + 4 * i = 4 * (i + a / 4) by omega]

/-- No rule over several words concerns the Basin. -/
theorem State.voiceRulesFail_basin {writes : List (Nat × Nat)} (inside : ∀ p ∈ writes, p.1 < basinSize) : s.voiceRulesFail writes = none := by
  unfold State.voiceRulesFail
  dsimp only
  rw [List.flatMap_eq_nil_iff.mpr]
  · rfl
  · intro p mem
    rw [State.place_basin s _ (inside p mem)]

theorem State.rulesFor_basin {writes : List Nat} (inside : ∀ p ∈ writes, p < basinSize) : s.rulesFor writes = [] := by
  have block (b : Nat) : writes.any (fun p => p / 0x1000 = 0x2000 + b) = false := by
    refine List.any_eq_false.mpr fun p mem => ?_
    have below := inside p mem
    rw [basinSize] at below
    simp only [decide_eq_true_eq]
    omega
  unfold State.rulesFor
  simp only [block]
  split <;> rfl

theorem State.joinNewHeld_none (s : State) : s.joinNewHeld s.voice.held.length = s := by
  rw [State.joinNewHeld, List.take_length, List.drop_length]
  simp [joinHeld]

/-- Words that the host or the Trail writes where nothing stands in their way (R241, R458). -/
theorem State.busWrites_basin (pass : Bool) (clear : Claims.clear s a d.length) (aligned : a % 4 = 0) (count : d.length = 4 * n)
    (fits : a + d.length ≤ basinSize) :
    ∃ t, s.busWrites src a (wordsOf d) pass = (0, a, t) ∧ State.Stored a d (touchedWords a d.length) s t := by
  obtain ⟨t, first, stored⟩ := State.pass1_stored (src := src) pass _ (touchedWords_nodup a d.length) (fun _ mem => mem) clear.2 aligned count fits
  have inside : ∀ p ∈ (touchedWords a d.length).map (wordWrite a d), p.1 < basinSize := by
    intro p mem
    obtain ⟨w, touched, rfl⟩ := List.mem_map.mp mem
    have := mem_touchedWords.mp touched
    simp only [wordWrite]
    omega
  have held : s.voice.held.length = t.voice.held.length := by rw [stored.only]
  refine ⟨t, ?_, stored⟩
  unfold State.busWrites
  simp only [writes_wordsOf aligned count, first, State.voiceRulesFail_basin inside,
    State.rulesFor_basin (s := t) (writes := ((touchedWords a d.length).map (wordWrite a d)).map (·.1))
      (fun p mem => by obtain ⟨q, listed, rfl⟩ := List.mem_map.mp mem; exact inside q listed)]
  rw [held, State.joinNewHeld_none, ite_self]
  rfl

end Sys2Proof.Machine
end

/-!
SUPPORT. The frames of the SPI target (R453 to R460): what a frame that a check fails records, and the four operations.
-/
section
namespace Sys2Proof.Machine

variable {s t : State} {f : List Byte} {op a n e : Nat} {d img : List Byte} {words : List Nat}

/-- The response of a frame is driven; nothing else changes. -/
def State.spiAnswered (s : State) (status : Nat) (words : List Nat) : State := { s with host := ⟨spiResponse status words⟩ }

theorem State.spiAnswered_reg (s : State) (e a : Nat) (words : List Nat) : (s.spiAnswered e words).reg a = s.reg a := rfl

theorem State.spiAnswered_regsOnly (regs : s.RegsOnly t) (e : Nat) (words : List Nat) :
    t.spiAnswered e words = State.spiAnswered { s with regs := (t.spiAnswered e words).regs } e words :=
  congrArg (·.spiAnswered e words) regs

theorem State.spiAnswer_ok (s : State) (f : List Byte) (at_ : Nat) (words : List Nat) : s.spiAnswer f 0 at_ words = s.spiAnswered 0 words := rfl

/-! ### A frame that is refused (R455, R456) -/

/-- The rows of the SPI target, which share one operation. -/
theorem exec_spi {row : Instr} (listed : row ∈ [Instr.spiRead f, .spiWrite f, .spiTime f, .spiSend f, .spiAbort f]) :
    exec row s = s.run (·.spi f) := by
  simp only [List.mem_cons, List.not_mem_nil, or_false] at listed
  rcases listed with rfl | rfl | rfl | rfl | rfl <;> rfl

theorem exec_spi_next {row : Instr} (listed : row ∈ [Instr.spiRead f, .spiWrite f, .spiTime f, .spiSend f, .spiAbort f]) (effect : s.spi f = t)
    (queue : t.pending = s.pending) : exec row s = .next t := by
  rw [exec_spi listed]
  exact State.run_keeping effect queue

/-- What the node is after a frame that ended with a status other than OK: the response, the two error registers, and a count where the CRC was wrong. -/
structure State.SpiRecorded (s : State) (f : List Byte) (e : Nat) (t : State) : Prop where
  only : t = State.spiAnswered { s with regs := t.regs } e []
  err : t.reg Adr.HOST_ERR = e + 256 * Spi.op f
  address : t.reg Adr.HOST_ERRADR = 0
  other : ∀ a, a ≠ Adr.HOST_ERR → a ≠ Adr.HOST_ERRADR → a ≠ Adr.HOST_CRCERR → t.reg a = s.reg a
  counted : s.reg Adr.HOST_CRCERR < 2 ^ 31 - 1 →
    t.reg Adr.HOST_CRCERR = s.reg Adr.HOST_CRCERR + if crc8 (f.take (Spi.bodyLen f)) ≠ byteAt f (Spi.bodyLen f) then 1 else 0

theorem Spi.op_lt (f : List Byte) : Spi.op f < 2 ^ 8 := (f.getD 0 0).isLt

/-- The answer to a frame that was not executed, where the count of bad CRCs is already right. -/
theorem State.spiAnswer_recorded {u : State} (regs : s.RegsOnly u) (same : ∀ a, a ≠ Adr.HOST_CRCERR → u.reg a = s.reg a)
    (counted : s.reg Adr.HOST_CRCERR < 2 ^ 31 - 1 →
      u.reg Adr.HOST_CRCERR = s.reg Adr.HOST_CRCERR + if crc8 (f.take (Spi.bodyLen f)) ≠ byteAt f (Spi.bodyLen f) then 1 else 0)
    (bad : e ≠ 0) (code : e < 2 ^ 8) : s.SpiRecorded f e (u.spiAnswer f e 0 []) := by
  have answer : u.spiAnswer f e 0 [] = ((u.setReg Adr.HOST_ERR (e + 256 * Spi.op f)).setReg Adr.HOST_ERRADR 0).spiAnswered e [] := by
    rw [State.spiAnswer, if_neg bad]
    rfl
  have reg (a : Nat) : (u.spiAnswer f e 0 []).reg a = ((u.setReg Adr.HOST_ERR (e + 256 * Spi.op f)).setReg Adr.HOST_ERRADR 0).reg a := by
    rw [answer, State.spiAnswered_reg]
  have op := Spi.op_lt f
  refine ⟨?_, ?_, ?_, fun a notErr notAdr notCrc => ?_, fun room => ?_⟩
  · rw [answer]
    exact State.spiAnswered_regsOnly ((regs.setReg _ _).setReg _ _) e []
  · rw [reg, State.reg_setReg_other _ (by decide), State.reg_setReg_same, Nat.mod_eq_of_lt (by omega)]
  · rw [reg, State.reg_setReg_same, Nat.zero_mod]
  · rw [reg, State.reg_setReg_other _ notAdr, State.reg_setReg_other _ notErr, same a notCrc]
  · rw [reg, State.reg_setReg_other _ (by decide), State.reg_setReg_other _ (by decide), counted room]

theorem Spi.crcGood_iff (f : List Byte) : Spi.crcGood f = true ↔ crc8 (f.take (Spi.bodyLen f)) = byteAt f (Spi.bodyLen f) := decide_eq_true_iff

/-- A frame with a wrong CRC is counted and answered E_CRC. -/
theorem State.spi_bad_crc (served : s.spiServed = true) (whole : Spi.complete f = true)
    (bad : crc8 (f.take (Spi.bodyLen f)) ≠ byteAt f (Spi.bodyLen f)) : s.SpiRecorded f St.crc (s.spi f) := by
  have wrong : Spi.crcGood f = false := Bool.eq_false_iff.mpr fun good => bad ((Spi.crcGood_iff f).mp good)
  have status : Spi.headStatus f = St.crc := by simp [Spi.headStatus, firstFail, wrong]
  have answer : s.spi f = (s.count Adr.HOST_CRCERR).spiAnswer f St.crc 0 [] := by
    unfold State.spi
    simp [served, whole, status, St.crc]
  rw [answer]
  refine State.spiAnswer_recorded ?_ (fun a other => s.reg_count_other other) (fun room => ?_) (by decide) (by decide)
  · rw [State.count, State.countBy_eq_setReg]
    exact (State.RegsOnly.refl s).setReg _ _
  · rw [s.reg_count room, if_pos bad]

/-- A frame that another check fails is answered with its status. -/
theorem State.spi_refused (served : s.spiServed = true) (whole : Spi.complete f = true)
    (good : ¬ crc8 (f.take (Spi.bodyLen f)) ≠ byteAt f (Spi.bodyLen f)) (status : Spi.headStatus f = e) (bad : e ≠ 0) (other : e ≠ St.crc)
    (code : e < 2 ^ 8) : s.SpiRecorded f e (s.spi f) := by
  have answer : s.spi f = s.spiAnswer f e 0 [] := by
    unfold State.spi
    simp [served, whole, status, bad, other]
  rw [answer]
  exact State.spiAnswer_recorded (.refl s) (fun _ _ => rfl) (fun _ => by rw [if_neg good, Nat.add_zero]) bad code

/-- During boot all but a READ of HOST or PWR is answered E_BUSY (R453). -/
theorem State.spi_booting (served : s.spiServed = true) (whole : Spi.complete f = true) (accepted : Spi.headStatus f = 0)
    (boot : s.booting = true) (other : Spi.bootRead f = false) : s.SpiRecorded f St.busy (s.spi f) := by
  have good : Spi.crcGood f = true := by
    by_contra wrong
    rw [Spi.headStatus, Bool.eq_false_iff.mpr wrong] at accepted
    exact absurd accepted (by simp [firstFail, St.crc])
  have answer : s.spi f = s.spiAnswer f St.busy 0 [] := by
    unfold State.spi State.spiOperate
    simp [served, whole, accepted, boot, other]
  rw [answer]
  exact State.spiAnswer_recorded (.refl s) (fun _ _ => rfl)
    (fun _ => by rw [if_neg (not_not.mpr ((Spi.crcGood_iff f).mp good)), Nat.add_zero]) (by decide) (by decide)

theorem Spi.headStatus_good (good : ¬ crc8 (f.take (Spi.bodyLen f)) ≠ byteAt f (Spi.bodyLen f)) : Spi.headStatus f = firstFail [
    (Spi.op f = 0 || 5 ≤ Spi.op f, St.unknown),
    ((Spi.op f = 3 && (Spi.addr f ≠ 0 || Spi.count f ≠ 0)) || (Spi.op f = 4 && Spi.addr f ≠ 0), St.reserved),
    (Spi.op f ≠ 3 && (Spi.count f = 0 || 64 < Spi.count f), St.range),
    (Spi.addr f % 4 ≠ 0, St.align)] := by
  rw [Spi.headStatus, (Spi.crcGood_iff f).mpr (not_not.mp good)]
  rfl

/-! ### A frame that is executed (R454) -/

/-- A frame of a driver that passes the checks has the effect of its operation. -/
theorem State.spi_frame (served : s.spiServed = true) (sends : Spi.Sends op a n d) (known : 1 ≤ op ∧ op ≤ 4)
    (fields : if op = 3 then a = 0 ∧ n = 0 else 1 ≤ n ∧ n ≤ 64) (place : a % 4 = 0 ∧ (op = 4 → a = 0)) :
    s.spi (Spi.frame op a n d) = (s.spiOperate (Spi.frame op a n d)).2.2.2.spiAnswer (Spi.frame op a n d) (s.spiOperate (Spi.frame op a n d)).1
      (s.spiOperate (Spi.frame op a n d)).2.1 (s.spiOperate (Spi.frame op a n d)).2.2.1 := by
  have accepted : Spi.headStatus (Spi.frame op a n d) = 0 := by
    rw [sends.headStatus]
    obtain ⟨aligned, noAddr⟩ := place
    split at fields
    · next time =>
      obtain ⟨rfl, rfl⟩ := fields
      simp [firstFail, time]
    · next other =>
      have named : (op = 0 || 5 ≤ op) = false := by simp; omega
      have counted : (n = 0 || 64 < n) = false := by simp; omega
      have reserved : (op = 4 && a ≠ 0) = false := by simpa using noAddr
      rw [named, counted, reserved]
      simp [firstFail, other, aligned]
  unfold State.spi
  simp [served, sends.complete, accepted]

theorem State.spi_read (served : s.spiServed = true) (booted : s.booting = false) (some : 1 ≤ n) (atMost : n ≤ 64) (aligned : a % 4 = 0)
    (fits : a + 4 * n ≤ basinSize) (sound : ∀ w, a / 4 ≤ w → w < a / 4 + n → s.eccOf w = none) :
    s.spi (Spi.frame 1 a n []) = s.spiAnswered 0 ((List.range n).map (fun i => leNat (s.memBytes (a + 4 * i) 4))) := by
  have sends : Spi.Sends 1 a n [] := ⟨by decide, by rw [basinSize] at fits; omega, by omega, by simp⟩
  have effect : s.spiOperate (Spi.frame 1 a n []) = (0, 0, (List.range n).map (fun i => leNat (s.memBytes (a + 4 * i) 4)), s) := by
    unfold State.spiOperate
    simp [Spi.op_frame sends.opByte, Spi.addr_frame sends.addrWord, Spi.count_frame sends.countByte, booted,
      State.readWords_basin fits aligned sound]
  rw [State.spi_frame served sends (by decide) (by simp [some, atMost]) ⟨aligned, by simp⟩, effect]
  rfl

theorem State.spi_write (served : s.spiServed = true) (booted : s.booting = false) (some : 1 ≤ n) (atMost : n ≤ 64) (aligned : a % 4 = 0)
    (count : d.length = 4 * n) (fits : a + 4 * n ≤ basinSize) (clear : Claims.clear s a (4 * n)) :
    ∃ t, s.spi (Spi.frame 2 a n d) = t.spiAnswered 0 [] ∧ State.Stored a d (touchedWords a d.length) { s with fresh := s.fresh + 1 } t := by
  have sends : Spi.Sends 2 a n d := ⟨by decide, by rw [basinSize] at fits; omega, by omega, by simp [some, atMost, count]⟩
  rw [← count] at fits clear
  obtain ⟨t, written, stored⟩ := State.busWrites_basin (s := { s with fresh := s.fresh + 1 }) (src := .host) (s.draw.1 % 2 = 1) clear aligned count fits
  have effect : s.spiOperate (Spi.frame 2 a n d) = (0, 0, [], t) := by
    have drawn : s.draw.2 = { s with fresh := s.fresh + 1 } := rfl
    unfold State.spiOperate
    simp [Spi.op_frame sends.opByte, Spi.addr_frame sends.addrWord, Spi.data_frame count sends.countByte, booted, drawn, written]
  refine ⟨t, ?_, stored⟩
  rw [State.spi_frame served sends (by decide) (by simp [some, atMost]) ⟨aligned, by simp⟩, effect]
  rfl

theorem State.spi_time (served : s.spiServed = true) (booted : s.booting = false) :
    s.spi (Spi.frame 3 0 0 []) = s.spiAnswered 0 [s.time % 2 ^ 32, s.time / 2 ^ 32 % 2 ^ 32] := by
  have sends : Spi.Sends 3 0 0 [] := ⟨by decide, by decide, by decide, by simp⟩
  have effect : s.spiOperate (Spi.frame 3 0 0 []) = (0, 0, [s.time % 2 ^ 32, s.time / 2 ^ 32 % 2 ^ 32], s) := by
    unfold State.spiOperate
    simp [Spi.op_frame sends.opByte, booted]
  rw [State.spi_frame served sends (by decide) (by simp) ⟨by decide, by simp⟩, effect]
  rfl

/-! ### SEND (R460) -/

theorem firstFail_cons_ok {c : Bool} {l : List (Bool × Nat)} (bad : e ≠ 0) : firstFail ((c, e) :: l) = 0 ↔ c = false ∧ firstFail l = 0 := by
  cases c <;> simp [firstFail, bad]

/-- An image that is accepted holds its header and address. -/
theorem State.sendStatus_length (fine : s.sendStatus img = 0) : 14 ≤ img.length := by
  rw [State.sendStatus] at fine
  obtain ⟨-, fine⟩ := (firstFail_cons_ok (by decide)).mp fine
  obtain ⟨-, fine⟩ := (firstFail_cons_ok (by decide)).mp fine
  obtain ⟨inRange, -⟩ := (firstFail_cons_ok (by decide)).mp fine
  simp only [Bool.or_eq_false_iff, decide_eq_false_iff_not] at inRange
  omega

/-- The bytes that an image goes out as: numbered, with the node's number as its source. -/
def State.numbered (s : State) (img : List Byte) : List Byte :=
  natLE 1 img.length ++ (img.drop 1).take 1 ++ natLE 2 (putBits (leAt img 2 2) 10 0 (if s.admitted then s.nodeNo else 0)) ++ natLE 2 s.trail.seq ++
    img.drop 6

theorem State.numbered_length (long : 14 ≤ img.length) : (s.numbered img).length = img.length := by
  simp only [State.numbered, List.length_append, natLE_length, List.length_take, List.length_drop]
  omega

theorem State.numbered_type (long : 14 ≤ img.length) : Msg.type (s.numbered img) = Msg.type img := by
  match img, long with
  | x :: y :: rest, _ => rfl

theorem State.numbered_fields (long : 14 ≤ img.length) :
    leAt (s.numbered img) 2 2 = putBits (leAt img 2 2) 10 0 (if s.admitted then s.nodeNo else 0) := by
  have low : leAt img 2 2 < 2 ^ 16 := Nat.lt_of_lt_of_le (leNat_lt _) (Nat.pow_le_pow_right (by decide) (by simp; omega))
  have start : (natLE 1 img.length ++ (img.drop 1).take 1).length = 2 := by
    simp only [List.length_append, natLE_length, List.length_take, List.length_drop]
    omega
  have field := leAt_append (natLE 1 img.length ++ (img.drop 1).take 1) (natLE 2 s.trail.seq ++ img.drop 6) 2 _
    (putBits_lt (v := if s.admitted then s.nodeNo else 0) low (by decide) (by decide : 0 ≤ 10))
  rw [start] at field
  rw [← field, State.numbered]
  simp only [List.append_assoc]

theorem State.numbered_src (long : 14 ≤ img.length) : Msg.src (s.numbered img) = if s.admitted then s.nodeNo else 0 := by
  rw [Msg.src, State.numbered_fields long]
  refine putBits_low ?_ (by decide)
  split
  · exact Nat.mod_lt _ (by decide)
  · decide

theorem State.numbered_auth (long : 14 ≤ img.length) : Msg.auth (s.numbered img) = Msg.auth img := by
  rw [Msg.auth, State.numbered_fields long, bit_putBits_above (by decide) (by decide), Msg.auth]

theorem State.numbered_seq (long : 14 ≤ img.length) : Msg.seq (s.numbered img) = s.trail.seq % 65536 := by
  have start : (natLE 1 img.length ++ (img.drop 1).take 1 ++ natLE 2 (putBits (leAt img 2 2) 10 0 (if s.admitted then s.nodeNo else 0))).length = 4 := by
    simp only [List.length_append, natLE_length, List.length_take, List.length_drop]
    omega
  rw [Msg.seq, leAt, State.numbered, List.append_assoc, List.drop_left' start, List.take_left' (natLE_length 2 _), leNat_natLE]
  rfl

theorem State.numbered_drop (long : 14 ≤ img.length) : (s.numbered img).drop 6 = img.drop 6 := by
  refine List.drop_left' ?_
  simp only [List.length_append, natLE_length, List.length_take, List.length_drop]
  omega

theorem State.enqueue_unsigned (unsigned : s.flag Adr.TRAIL_AUTHCTL 1 = false) (long : 14 ≤ img.length) (plain : Msg.auth img = false) :
    s.enqueue img false true = { s with trail := { s.trail with
      seq := (s.trail.seq + 1) % 65536, txq := s.trail.txq ++ [⟨s.numbered img, false, false, true⟩] } } := by
  have tagless := (State.numbered_auth (s := s) long).trans plain
  have source : (if s.admitted = true then s.nodeNo else 0) = if (false || !s.admitted) = true then 0 else s.nodeNo := by
    cases s.admitted <;> rfl
  rw [State.numbered, source] at tagless ⊢
  unfold State.enqueue State.enqueueSigned
  simp only [unsigned, Bool.false_and, Bool.false_eq_true, if_false, tagless]
  rfl

theorem State.spi_send (served : s.spiServed = true) (booted : s.booting = false) (unsigned : s.flag Adr.TRAIL_AUTHCTL 1 = false)
    (fine : s.sendStatus img = 0) (len : Msg.len img = img.length) (event : Msg.isCommand (Msg.type img) = false) (plain : Msg.auth img = false) :
    s.spi (Spi.frame 4 0 ((img.length + 3) / 4) (img ++ List.replicate (4 * ((img.length + 3) / 4) - img.length) 0)) =
      State.spiAnswered { s with trail := { s.trail with
        seq := (s.trail.seq + 1) % 65536, txq := s.trail.txq ++ [⟨s.numbered img, false, false, true⟩] } } 0 [s.trail.seq] := by
  have long := State.sendStatus_length fine
  have short : img.length < 256 := by
    rw [← len]
    exact (img.getD 0 0).isLt
  generalize words : (img.length + 3) / 4 = n
  generalize padding : List.replicate (4 * n - img.length) (0 : Byte) = pad
  have count : (img ++ pad).length = 4 * n := by
    rw [List.length_append, ← padding, List.length_replicate]
    omega
  have atMost : 1 ≤ n ∧ n ≤ 64 := by omega
  have sends : Spi.Sends 4 0 n (img ++ pad) := ⟨by decide, by decide, by omega, by rw [if_pos ⟨.inr rfl, atMost⟩]; exact count⟩
  have first : Msg.len (img ++ pad) = img.length := by
    rw [← len, Msg.len, byteAt, List.getD_append _ _ _ _ (by omega), Msg.len, byteAt]
  have zeros : pad.any (· ≠ 0) = false := by
    rw [← padding, List.any_replicate]
    simp
  have sent : s.spiSend (Spi.frame 4 0 n (img ++ pad)) = (0, [s.trail.seq], s.enqueue img false true) := by
    unfold State.spiSend State.sendImage State.nextSeq
    simp only [Spi.data_frame count sends.countByte, Spi.count_frame sends.countByte, first, words, List.drop_left, List.take_left, zeros, fine, event]
    simp [firstFail]
  have effect : s.spiOperate (Spi.frame 4 0 n (img ++ pad)) = (0, 0, [s.trail.seq], s.enqueue img false true) := by
    unfold State.spiOperate
    simp [Spi.op_frame sends.opByte, booted, sent]
  rw [State.spi_frame served sends (by decide) (by rw [if_neg (by decide)]; exact atMost) ⟨by decide, fun _ => rfl⟩, effect,
    State.enqueue_unsigned unsigned long plain]
  rfl

/-! ### The obligation -/

section
variable (served : s.spiServed = true) (whole : Spi.complete f = true) (good : ¬ crc8 (f.take (Spi.bodyLen f)) ≠ byteAt f (Spi.bodyLen f))
include served whole good

theorem State.spi_unknown (unknown : Spi.op f = 0 ∨ 5 ≤ Spi.op f) : s.SpiRecorded f St.unknown (s.spi f) := by
  refine State.spi_refused served whole good ((Spi.headStatus_good good).trans ?_) (by decide) (by decide) (by decide)
  simp [firstFail, unknown]

theorem State.spi_reserved (reserved : (Spi.op f = 3 ∧ (Spi.addr f ≠ 0 ∨ Spi.count f ≠ 0)) ∨ (Spi.op f = 4 ∧ Spi.addr f ≠ 0)) :
    s.SpiRecorded f St.reserved (s.spi f) := by
  refine State.spi_refused served whole good ((Spi.headStatus_good good).trans ?_) (by decide) (by decide) (by decide)
  have known : ¬ (Spi.op f = 0 ∨ 5 ≤ Spi.op f) := by omega
  simp [firstFail, known, reserved]

theorem State.spi_range (access : Spi.op f = 1 ∨ Spi.op f = 2) (range : Spi.count f = 0 ∨ 64 < Spi.count f) :
    s.SpiRecorded f St.range (s.spi f) := by
  refine State.spi_refused served whole good ((Spi.headStatus_good good).trans ?_) (by decide) (by decide) (by decide)
  have known : ¬ (Spi.op f = 0 ∨ 5 ≤ Spi.op f) := by omega
  have words : Spi.op f ≠ 3 ∧ Spi.op f ≠ 4 := by omega
  simp [firstFail, known, words, range]

theorem State.spi_misaligned (access : Spi.op f = 1 ∨ Spi.op f = 2) (some : 1 ≤ Spi.count f) (atMost : Spi.count f ≤ 64)
    (misaligned : Spi.addr f % 4 ≠ 0) : s.SpiRecorded f St.align (s.spi f) := by
  refine State.spi_refused served whole good ((Spi.headStatus_good good).trans ?_) (by decide) (by decide) (by decide)
  have known : ¬ (Spi.op f = 0 ∨ 5 ≤ Spi.op f) := by omega
  have words : Spi.op f ≠ 3 ∧ Spi.op f ≠ 4 := by omega
  have inRange : ¬ (Spi.count f = 0 ∨ 64 < Spi.count f) := by omega
  simp [firstFail, known, words, inRange, misaligned]

end

/-- Settles O56: each frame by the checks of R455 in order, then by its operation. -/
theorem spiFramesAreAnswered : Obligations.SpiFramesAreAnswered := by
  unfold Obligations.SpiFramesAreAnswered
  intro s served
  refine ⟨fun f row listed => ⟨fun short => ?_, fun whole => ?_⟩, fun booted a n some atMost aligned => ⟨fun fits sound => ?_, fun d count fits clear => ?_⟩,
    fun booted => ?_, fun booted unsigned img fine len event plain => ?_⟩
  · refine exec_spi_next listed ?_ ?_
    · unfold State.spi
      simp [served, short]
    · rw [State.count, State.countBy_eq_setReg, State.setReg_pending]
  · intro crcBad recorded
    have keeps {e : Nat} (h : s.SpiRecorded f e (s.spi f)) : recorded e :=
      ⟨_, exec_spi_next listed rfl (by rw [h.only]; rfl), h.only, h.err, h.address, h.other, h.counted⟩
    exact ⟨fun bad => keeps (State.spi_bad_crc served whole bad), fun good unknown => keeps (State.spi_unknown served whole good unknown),
      fun good reserved => keeps (State.spi_reserved served whole good reserved), fun good access range => keeps (State.spi_range served whole good access range),
      fun good access some atMost misaligned => keeps (State.spi_misaligned served whole good access some atMost misaligned),
      fun accepted boot other => keeps (State.spi_booting served whole accepted boot other)⟩
  · exact exec_spi_next (by simp) (State.spi_read served booted some atMost aligned fits sound) rfl
  · obtain ⟨t, effect, stored⟩ := State.spi_write served booted some atMost aligned count fits clear
    refine ⟨_, exec_spi_next (by simp) effect (by rw [stored.only]; rfl), fun x => ?_, ?_, fun r other => stored.reg r other⟩
    · rw [← count]
      exact stored.byte_all x
    · exact congrArg (·.spiAnswered 0 []) stored.only
  · exact exec_spi_next (by simp) (State.spi_time served booted) rfl
  · have long := State.sendStatus_length fine
    exact ⟨s.numbered img, exec_spi_next (by simp) (State.spi_send served booted unsigned fine len event plain) rfl, State.numbered_length long,
      State.numbered_type long, State.numbered_src long, State.numbered_seq long, State.numbered_drop long⟩

end Sys2Proof.Machine
end

/-!
SUPPORT. Fields that lie apart in one register, and the bytes of the flash (R421, R432): programming and erasing, byte by byte.
-/
section
namespace Sys2Proof.Machine

variable {s : State} {a b i m n hi lo hi' lo' v : Nat} {l : List Byte}

/-! ### Fields of one register -/

theorem bit_putBits_below (below : i < lo) (order : lo ≤ hi) (v : Nat) : bit (putBits n hi lo v) i = bit n i := by
  have low : putBits n hi lo v % 2 ^ lo = n % 2 ^ lo := by
    have high : 2 ^ (hi + 1) = 2 ^ lo * 2 ^ (hi + 1 - lo) := by rw [← Nat.pow_add]; congr 1; omega
    unfold putBits
    simp only [Nat.shiftLeft_eq, high]
    rw [show n >>> (hi + 1) * (2 ^ lo * 2 ^ (hi + 1 - lo)) + v % 2 ^ (hi + 1 - lo) * 2 ^ lo + n % 2 ^ lo =
      n % 2 ^ lo + 2 ^ lo * (n >>> (hi + 1) * 2 ^ (hi + 1 - lo) + v % 2 ^ (hi + 1 - lo)) by ring, Nat.add_mul_mod_self_left, Nat.mod_mod]
  have read (k : Nat) : bit k i = (k % 2 ^ lo).testBit i := by rw [Nat.testBit_mod_two_pow, decide_eq_true below, Bool.true_and, bit]
  rw [read, read, low]

theorem State.flag_setFld_apart (order : lo ≤ hi) (fits : hi < 32) (apart : i < lo ∨ hi < i) (v : Nat) :
    (s.setFld a hi lo v).flag a i = s.flag a i := by
  have small : putBits (s.reg a) hi lo v < 2 ^ 32 := putBits_lt (s.reg_lt a) fits order
  rw [State.flag, State.setFld, State.reg_setReg_same, Nat.mod_eq_of_lt small, State.flag]
  rcases apart with below | above
  · exact bit_putBits_below below order v
  · exact bit_putBits_above order above v

theorem bits_congr_inside (same : ∀ j, lo ≤ j → j ≤ hi → bit n j = bit m j) : bits n hi lo = bits m hi lo := by
  unfold bits
  refine Nat.eq_of_testBit_eq fun j => ?_
  rw [Nat.testBit_mod_two_pow, Nat.testBit_mod_two_pow, Nat.testBit_shiftRight, Nat.testBit_shiftRight]
  by_cases inside : j < hi + 1 - lo
  · rw [show n.testBit (lo + j) = m.testBit (lo + j) from same _ (by omega) (by omega)]
  · simp [inside]

theorem State.fld_setFld_apart (order : lo ≤ hi) (fits : hi < 32) (apart : hi' < lo ∨ hi < lo') (v : Nat) :
    (s.setFld a hi lo v).fld a hi' lo' = s.fld a hi' lo' :=
  bits_congr_inside fun j _ _ => State.flag_setFld_apart order fits (by omega) v

theorem State.fld_eq_of_reg {t : State} (same : t.reg a = s.reg a) : t.fld a hi lo = s.fld a hi lo := by rw [State.fld, same, State.fld]

theorem State.flag_eq_of_reg {t : State} (same : t.reg a = s.reg a) : t.flag a i = s.flag a i := by rw [State.flag, same, State.flag]

/-! ### The flash -/

/-- Entries whose keys a test drops read as if never listed. -/
theorem Sp.get_filter {α : Type} (dflt : Nat → α) (l : List (Nat × α)) (keep : Nat → Bool) (k : Nat) :
    Sp.get dflt (l.filter (fun c => keep c.1)) k = if keep k then Sp.get dflt l k else dflt k := by
  induction l with
  | nil => simp [Sp.get]
  | cons c t ih =>
    obtain ⟨j, x⟩ := c
    by_cases kept : keep j = true <;> by_cases same : j = k
    · simp [Sp.get, same ▸ kept, same]
    · simp [kept, Sp.get, same, ih]
    · subst same
      simp [kept, ih]
    · simp [kept, Sp.get, same, ih]

theorem get_flashPut (f : List Host.Cell) (a : Nat) (l : List Byte) (b : Nat) :
    Sp.get (fun _ => (0xFF : Byte)) (flashPut f a l) b =
      if a ≤ b ∧ b < a + l.length then l.getD (b - a) 0 else Sp.get (fun _ => (0xFF : Byte)) f b := by
  induction l generalizing f a with
  | nil =>
    rw [if_neg (by simp only [List.length_nil]; omega)]
    rfl
  | cons x t ih =>
    rw [flashPut, ih, List.length_cons]
    by_cases first : b = a
    · subst first
      rw [if_neg (by omega), Sp.get_put_same, if_pos (by omega), Nat.sub_self, List.getD_cons_zero]
    · rw [Sp.get_put_other _ _ first]
      by_cases inside : a ≤ b ∧ b < a + (t.length + 1)
      · rw [if_pos (by omega), if_pos inside, show b - a = (b - (a + 1)) + 1 by omega, List.getD_cons_succ]
      · rw [if_neg (by omega), if_neg inside]

theorem State.flashByte_setPack {f : Pack → Pack} (same : (f s.pack).flash = s.pack.flash) (b : Nat) : (s.setPack f).flashByte b = s.flashByte b := by
  rw [State.flashByte, State.setPack, same, State.flashByte]

theorem State.flashByte_erase (a n b : Nat) : (s.erase a n).flashByte b = if a ≤ b ∧ b < a + n then 0xFF else s.flashByte b := by
  have filtered := Sp.get_filter (fun _ => (0xFF : Byte)) s.pack.flash (fun k => !(a ≤ k && k < a + n)) b
  unfold State.flashByte State.erase State.setPack
  refine filtered.trans ?_
  by_cases inside : a ≤ b ∧ b < a + n
  · rw [if_pos inside, if_neg (by simp [inside])]
  · rw [if_neg inside, if_pos (by simp; omega)]

theorem State.flashByte_program (a : Nat) (l : List Byte) (b : Nat) :
    (s.program a l).flashByte b = if a ≤ b ∧ b < a + l.length then l.getD (b - a) 0 &&& s.flashByte b else s.flashByte b := by
  have whole : (s.flashBytes a l.length).length = l.length := by rw [State.flashBytes, List.length_map, List.length_range]
  rw [State.flashByte, State.program, State.setPack]
  simp only [get_flashPut, List.length_zipWith, whole, Nat.min_self]
  by_cases inside : a ≤ b ∧ b < a + l.length
  · have below : b - a < l.length := by omega
    have old : (s.flashBytes a l.length)[b - a]? = some (s.flashByte b) := by
      rw [State.flashBytes, List.getElem?_map, List.getElem?_range below, Option.map_some, Nat.add_sub_cancel' inside.1]
    rw [if_pos inside, if_pos inside, List.getD_eq_getElem?_getD, List.getElem?_zipWith, old, List.getD_eq_getElem?_getD,
      List.getElem?_eq_getElem below]
    rfl
  · rw [if_neg inside, if_neg inside]
    rfl

end Sys2Proof.Machine
end

/-!
SUPPORT. The update operations (R432, R434): the steps that they are made of, what each leaves in PACK_USTAT, and their status by the state of the session.
-/
section
namespace Sys2Proof.Machine

variable {s t u : State} {src : Source} {a b x bank ofs count : Nat} {o : Option Source} {data : List Byte}

/-! ### Changes of the pack block -/

section
variable (s) (f : Pack → Pack) (c v : Nat) (i hi lo : Nat)
@[simp] theorem State.reg_setPack : (s.setPack f).reg a = s.reg a := rfl
@[simp] theorem State.fld_setPack : (s.setPack f).fld a hi lo = s.fld a hi lo := rfl
@[simp] theorem State.flag_setPack : (s.setPack f).flag a i = s.flag a i := rfl
@[simp] theorem State.ustate_setPack : (s.setPack f).ustate = s.ustate := rfl
@[simp] theorem State.packCode_pack : (s.packCode c).pack = s.pack := s.setFld_pack _ _ _ _
@[simp] theorem State.packCode_pending : (s.packCode c).pending = s.pending := s.setFld_pending _ _ _ _
@[simp] theorem State.flashBytes_packCode (n : Nat) : (s.packCode c).flashBytes a n = s.flashBytes a n := by
  unfold State.flashBytes State.flashByte
  rw [State.packCode_pack]
@[simp] theorem State.bankBase_packCode : (s.packCode c).bankBase b = s.bankBase b := by
  rw [State.bankBase, State.bankSize, State.flashSize, State.packCode_pack, State.bankBase, State.bankSize, State.flashSize]
@[simp] theorem State.flashByte_packCode : (s.packCode c).flashByte b = s.flashByte b := by
  rw [State.flashByte, State.packCode_pack, State.flashByte]
theorem State.ustate_setReg (other : a ≠ Adr.PACK_USTAT) : (s.setReg a v).ustate = s.ustate :=
  State.fld_eq_of_reg (s.reg_setReg_other (Ne.symm other) v)
end

/-! ### What the steps of an operation leave alone -/

/-- The registers that an update operation moves. -/
abbrev updateRegs : List Nat := [Adr.PACK_USTAT, Adr.PACK_UNEXT, Adr.PACK_STAT, Adr.PACK_SEQ0, Adr.PACK_SEQ1]

/-- State t is s but for the pack block and the registers of the update, the fuses and the queued log records standing. -/
structure State.Updates (s t : State) : Prop where
  only : t = { s with regs := t.regs, pack := t.pack }
  fuses : t.pack.fuses = s.pack.fuses
  logq : t.pack.logq = s.pack.logq
  reg : ∀ a, a ∉ updateRegs → a ≠ Adr.HOST_IRQ → t.reg a = s.reg a

namespace State.Updates

theorem refl (s : State) : s.Updates s := ⟨rfl, rfl, rfl, fun _ _ _ => rfl⟩

theorem setReg {v : Nat} (h : s.Updates t) (listed : a ∈ Adr.HOST_IRQ :: updateRegs) : s.Updates (t.setReg a v) := by
  obtain ⟨only, fuses, logq, reg⟩ := h
  refine ⟨?_, fuses, logq, fun b out notIrq => ?_⟩
  · have same : t.setReg a v = { t with regs := (t.setReg a v).regs } := rfl
    rw [same, only]
  · refine (State.reg_setReg_other t ?_ v).trans (reg b out notIrq)
    rintro rfl
    exact (List.mem_cons.mp listed).elim notIrq out

theorem setPack {f : Pack → Pack} (h : s.Updates t) (fuses : (f t.pack).fuses = t.pack.fuses) (logq : (f t.pack).logq = t.pack.logq) :
    s.Updates (t.setPack f) := by
  refine ⟨?_, fuses.trans h.fuses, logq.trans h.logq, h.reg⟩
  have same : t.setPack f = { t with pack := f t.pack } := rfl
  rw [same, h.only]

theorem setWork {g : Pack → FlashWork} (h : s.Updates t) : s.Updates (t.setPack fun p => { p with work := g p }) := h.setPack rfl rfl

theorem packCode (h : s.Updates t) (c : Nat) : s.Updates (t.packCode c) := h.setReg (by decide)

theorem setUstate (h : s.Updates t) (x : Nat) : s.Updates (t.setUstate x) := by
  unfold State.setUstate
  split
  · exact h
  · exact (h.setReg (by decide)).setReg (by decide)

theorem setOwner (h : s.Updates t) (o : Option Source) : s.Updates (t.setOwner o) := (h.setPack rfl rfl).setReg (by decide)

theorem showCandidates (h : s.Updates t) : s.Updates t.showCandidates :=
  ((h.setReg (by decide)).setReg (by decide)).setReg (by decide)

theorem erase (h : s.Updates t) (a n : Nat) : s.Updates (t.erase a n) := h.setPack rfl rfl

theorem program (h : s.Updates t) (a : Nat) (l : List Byte) : s.Updates (t.program a l) := h.setPack rfl rfl

end State.Updates

/-! ### PACK_USTAT -/

theorem State.packCode_code (c : Nat) : (s.packCode c).fld Adr.PACK_USTAT 23 16 = c % 2 ^ 8 := State.fld_setFld_mod (by decide) (by decide) c

theorem State.packCode_zero : (s.packCode 0).fld Adr.PACK_USTAT 23 16 = 0 := State.packCode_code 0

theorem State.packCode_ustate (c : Nat) : (s.packCode c).ustate = s.ustate := State.fld_setFld_apart (by decide) (by decide) (.inl (by decide)) c

theorem State.packCode_reg (other : a ≠ Adr.PACK_USTAT) (c : Nat) : (s.packCode c).reg a = s.reg a := s.reg_setFld_other other _ _ _

theorem State.setUstate_ustate (small : x < 2 ^ 3) : (s.setUstate x).ustate = x := by
  unfold State.setUstate
  split
  · next same => exact same
  · refine (State.fld_eq_of_reg (State.reg_raise_other _ (by decide) _)).trans ?_
    rw [State.fld_setFld_mod (by decide) (by decide)]
    exact Nat.mod_eq_of_lt small

theorem State.setUstate_code : (s.setUstate x).fld Adr.PACK_USTAT 23 16 = s.fld Adr.PACK_USTAT 23 16 := by
  unfold State.setUstate
  split
  · rfl
  · exact (State.fld_eq_of_reg (State.reg_raise_other _ (by decide) _)).trans (State.fld_setFld_apart (by decide) (by decide) (.inr (by decide)) x)

/-- A change of the state of the session is an interrupt cause. -/
theorem State.setUstate_irq (changed : s.ustate ≠ x) : (s.setUstate x).flag Adr.HOST_IRQ 7 = true := by
  rw [State.setUstate, if_neg changed]
  exact State.flag_setFlag _ _ _ _ (by decide)

theorem State.setUstate_pack : (s.setUstate x).pack = s.pack := by
  unfold State.setUstate
  split
  · rfl
  · rw [State.raise, State.setFlag_pack, State.setFld_pack]

theorem State.setOwner_pack : (s.setOwner o).pack = { s.pack with owner := o } := by
  unfold State.setOwner
  dsimp only
  rw [State.setFld_pack, State.setPack_pack]

theorem State.setOwner_code : (s.setOwner o).fld Adr.PACK_USTAT 23 16 = s.fld Adr.PACK_USTAT 23 16 :=
  State.fld_setFld_apart (by decide) (by decide) (.inr (by decide)) _

theorem State.setOwner_ustate : (s.setOwner o).ustate = s.ustate :=
  State.fld_setFld_apart (by decide) (by decide) (.inl (by decide)) _

theorem State.showCandidates_reg (notStat : a ≠ Adr.PACK_STAT) (notSeq0 : a ≠ Adr.PACK_SEQ0) (notSeq1 : a ≠ Adr.PACK_SEQ1) :
    s.showCandidates.reg a = s.reg a := by
  rw [State.showCandidates, State.reg_setReg_other _ notSeq1, State.reg_setReg_other _ notSeq0, State.reg_setFld_other _ notStat]

theorem State.showCandidates_pack : s.showCandidates.pack = s.pack := by
  rw [State.showCandidates, State.setReg_pack, State.setReg_pack, State.setFld_pack]

theorem State.targetBank_packCode (c : Nat) : (s.packCode c).targetBank = s.targetBank := by
  have stat := State.packCode_reg (s := s) (a := Adr.PACK_STAT) (by decide) c
  rw [State.targetBank, State.flag_eq_of_reg stat, State.fld_eq_of_reg stat, State.packCode_reg (by decide), State.packCode_reg (by decide),
    State.targetBank]

/-! ### The status of an operation (Table PK-6) -/

/-- A source that may not work on the session of another. -/
def State.stranger (s : State) (src : Source) : Bool := s.pack.owner.isSome && s.pack.owner ≠ some (ownerOf src)

theorem State.stranger_eq_false : s.stranger src = false ↔ s.pack.owner = none ∨ s.pack.owner = some (ownerOf src) := by
  rw [State.stranger]
  cases s.pack.owner <;> simp

section
variable (s src ofs count)

theorem State.packStatus_begin : s.packStatus src 1 0 ofs count = firstFail [
    (s.stranger src, St.locked), (!s.flashReach, St.busy), (s.ustate ≠ 0 && s.ustate ≠ 5, St.busy)] := by
  simp [State.packStatus, firstFail, State.stranger]

theorem State.packStatus_write : s.packStatus src 2 0 ofs count = firstFail [
    (s.stranger src, St.locked), (!s.flashReach, St.busy),
    (s.ustate = 1 || s.ustate = 3 || s.ustate = 6 || s.pack.work = .page, St.busy), (s.ustate ≠ 2, St.mode),
    (ofs ≠ s.reg Adr.PACK_UNEXT, St.seq), (s.bankSize - 0x1000 < ofs + count, St.range)] := by
  simp [State.packStatus, firstFail, State.stranger]

theorem State.packStatus_verify : s.packStatus src 3 0 ofs count = firstFail [
    (s.stranger src, St.locked), (!s.flashReach, St.busy), (s.ustate ≠ 2, St.busy)] := by
  simp [State.packStatus, firstFail, State.stranger]

theorem State.packStatus_commit : s.packStatus src 4 0 ofs count = firstFail [
    (s.stranger src, St.locked), (!s.flashReach, St.busy), (s.ustate ≠ 4, St.mode)] := by
  simp [State.packStatus, firstFail, State.stranger]

theorem State.packStatus_abort : s.packStatus src 5 0 ofs count = firstFail [
    (s.stranger src && src ≠ .host, St.locked), (s.ustate = 0, St.mode), (s.ustate = 6, St.busy)] := by
  simp [State.packStatus, firstFail, State.stranger]

theorem State.packStatus_reload (notAll : bank ≠ 3) : s.packStatus src 6 bank ofs count = firstFail [
    (s.stranger src, St.locked), (s.ustate ≠ 0, St.busy), (bank ≠ 0 && !s.flag Adr.PACK_STAT bank, St.pack)] := by
  simp [State.packStatus, firstFail, State.stranger, notAll]

theorem State.packStatus_reserved (op : Nat) : s.packStatus src op 3 ofs count = St.reserved := by
  simp [State.packStatus, firstFail]

theorem State.packStatus_read : s.packStatus src 7 0 ofs count = firstFail [
    (!s.flashReach, St.busy), (s.flashSize < ofs + count, St.range)] := by
  simp [State.packStatus, firstFail]

theorem State.packStatus_fuse : s.packStatus src 8 0 ofs count = firstFail [
    (s.stranger src, St.locked), (src ≠ .host, St.role), (s.mode ≠ 4, St.mode), (s.fused, St.locked), (s.ustate ≠ 0, St.busy)] := by
  simp [State.packStatus, firstFail, State.stranger]

end

/-! ### What an operation does -/

/-- An operation that is refused leaves its status in CODE and changes nothing else. -/
theorem State.packOp_refused {op e : Nat} (status : s.packStatus src op bank ofs (if op = 2 then data.length else count) = e) (bad : e ≠ 0) :
    s.packOp src op bank ofs data count = (e, [], s.packCode e) := by
  rw [State.packOp]
  dsimp only
  rw [status, if_pos bad]

theorem State.packOp_begin (fine : s.packStatus src 1 bank ofs count = 0) :
    (s.packOp src 1 bank ofs data count).2.2 = (s.packCode 0).packBegin src := by
  simp [State.packOp, fine]

theorem State.packOp_write (fine : s.packStatus src 2 bank ofs data.length = 0) :
    (s.packOp src 2 bank ofs data count).2.2 = (s.packCode 0).packProgram ofs data := by
  simp [State.packOp, fine]

theorem State.packOp_verify (fine : s.packStatus src 3 bank ofs count = 0) :
    (s.packOp src 3 bank ofs data count).2.2 = ((s.packCode 0).setUstate 3).setPack (fun p => { p with work := .verify }) := by
  simp [State.packOp, fine]

theorem State.packOp_commit (fine : s.packStatus src 4 bank ofs count = 0) :
    (s.packOp src 4 bank ofs data count).2.2 = ((s.packCode 0).setUstate 6).setPack (fun p => { p with work := .commit }) := by
  simp [State.packOp, fine]

theorem State.packOp_abort (fine : s.packStatus src 5 bank ofs count = 0) :
    (s.packOp src 5 bank ofs data count).2.2 = (s.packCode 0).packAbort := by
  simp [State.packOp, fine]

theorem State.packOp_reload (fine : s.packStatus src 6 bank ofs count = 0) :
    (s.packOp src 6 bank ofs data count).2.2 = (s.packCode 0).packReload src bank := by
  simp [State.packOp, fine]

theorem State.packOp_read (fine : s.packStatus src 7 bank ofs count = 0) :
    s.packOp src 7 bank ofs data count = (0, (s.packCode 0).flashBytes ofs count, s.packCode 0) := by
  simp [State.packOp, fine]

theorem State.packOp_fuse (fine : s.packStatus src 8 bank ofs count = 0) :
    s.packOp src 8 bank ofs data count = (0, [], (s.packCode 0).packFuse data) := by
  simp [State.packOp, fine]

/-- A row that is one operation of a source that reaches the node. -/
theorem State.run_packBy {op : Nat} (reach : s.reaches src = true) (effect : (s.packOp src op bank ofs data count).2.2 = t)
    (queue : t.pending = s.pending) : (s.run fun s => (s.packBy src op bank ofs data count).2.2) = .next t := by
  refine State.run_keeping ?_ queue
  rw [State.packBy, if_pos reach, effect]

theorem State.run_packBy_refused {op e : Nat} (reach : s.reaches src = true) (bad : e ≠ 0)
    (status : s.packStatus src op bank ofs (if op = 2 then data.length else count) = e) :
    (s.run fun s => (s.packBy src op bank ofs data count).2.2) = .next (s.packCode e) :=
  State.run_packBy reach (by rw [State.packOp_refused status bad]) rfl

end Sys2Proof.Machine
end

/-!
SUPPORT. What each update operation does where the session allows it (R432, R434, R435).
-/
section
namespace Sys2Proof.Machine

variable {s t u : State} {src : Source} {a b x bank ofs count : Nat} {o : Option Source} {w : FlashWork} {data : List Byte}

/-! ### BEGIN, WRITE, VERIFY, COMMIT, ABORT -/

theorem State.Updates.regsBut (h : s.Updates t) : Claims.regsBut s t updateRegs := fun a out notIrq _ _ _ => h.reg a out notIrq

/-- What an update operation of a session keeps. -/
structure State.UpdateFrame (s t : State) : Prop where
  updates : s.Updates t
  code : t.fld Adr.PACK_USTAT 23 16 = 0

/-- The session moves on; no byte of the flash changes. -/
structure State.SessionMoves (s : State) (x : Nat) (w : FlashWork) (o : Option Source) (t : State) : Prop extends s.UpdateFrame t where
  ustate : t.ustate = x
  work : t.pack.work = w
  owner : t.pack.owner = o
  irq : t.flag Adr.HOST_IRQ 7 = true
  flash : t.pack.flash = s.pack.flash

/-- VERIFY and COMMIT: the state of the session and the work of the flash change. -/
theorem State.setUstate_moves (changes : s.ustate ≠ x) (small : x < 2 ^ 3) :
    s.SessionMoves x w s.pack.owner (((s.packCode 0).setUstate x).setPack (fun p => { p with work := w })) where
  updates := (((State.Updates.refl s).packCode 0).setUstate x).setWork
  code := by rw [State.fld_setPack, State.setUstate_code, State.packCode_zero]
  ustate := by rw [State.ustate_setPack, State.setUstate_ustate small]
  work := by rw [State.setPack_pack]
  owner := by rw [State.setPack_pack, State.setUstate_pack, State.packCode_pack]
  irq := by rw [State.flag_setPack, State.setUstate_irq (by rwa [State.packCode_ustate])]
  flash := by rw [State.setPack_pack, State.setUstate_pack, State.packCode_pack]

theorem State.packAbort_moves (open_ : s.ustate ≠ 0) :
    s.SessionMoves 0 (if s.pack.work = .page then .page else .idle) none (s.packCode 0).packAbort := by
  unfold State.packAbort
  exact {
    updates := ((((State.Updates.refl s).packCode 0).setOwner none).setUstate 0).setWork
    code := by rw [State.fld_setPack, State.setUstate_code, State.setOwner_code, State.packCode_zero]
    ustate := by rw [State.ustate_setPack, State.setUstate_ustate (by decide)]
    work := by rw [State.setPack_pack, State.setUstate_pack, State.setOwner_pack, State.packCode_pack]
    owner := by rw [State.setPack_pack, State.setUstate_pack, State.setOwner_pack]
    irq := by rw [State.flag_setPack, State.setUstate_irq (by rwa [State.setOwner_ustate, State.packCode_ustate])]
    flash := by rw [State.setPack_pack, State.setUstate_pack, State.setOwner_pack, State.packCode_pack] }

/-- BEGIN: the session is the source's, and the target's commit sector is being erased. -/
structure State.SessionBegins (s : State) (src : Source) (t : State) : Prop extends s.UpdateFrame t where
  ustate : t.ustate = 1
  next : t.reg Adr.PACK_UNEXT = 0
  owner : t.pack.owner = some (ownerOf src)
  work : t.pack.work = .erase
  flash : ∀ a, t.flashByte a = if s.bankBase s.targetBank ≤ a ∧ a < s.bankBase s.targetBank + 0x1000 then 0xFF else s.flashByte a

theorem State.packBegin_begins (src : Source) : s.SessionBegins src ((s.packCode 0).packBegin src) := by
  unfold State.packBegin
  dsimp only
  rw [State.targetBank_packCode, State.bankBase_packCode]
  exact {
    updates := ((((((State.Updates.refl s).packCode 0).erase _ _).showCandidates.setOwner _).setUstate 1).setReg (by decide)).setWork
    code := by
      rw [State.fld_setPack, State.fld_eq_of_reg (State.reg_setReg_other _ (by decide) _), State.setUstate_code, State.setOwner_code,
        State.fld_eq_of_reg (State.showCandidates_reg (by decide) (by decide) (by decide)), State.erase, State.fld_setPack, State.packCode_zero]
    ustate := by rw [State.ustate_setPack, State.ustate_setReg _ _ (by decide), State.setUstate_ustate (by decide)]
    next := by rw [State.reg_setPack, State.reg_setReg_same, Nat.zero_mod]
    owner := by rw [State.setPack_pack, State.setReg_pack, State.setUstate_pack, State.setOwner_pack]
    work := by rw [State.setPack_pack]
    flash := fun a => by
      rw [State.flashByte, State.setPack_pack, State.setReg_pack, State.setUstate_pack, State.setOwner_pack, State.showCandidates_pack]
      exact (State.flashByte_erase _ _ a).trans (by rw [State.flashByte_packCode]) }

/-- WRITE: the data are programmed at their place in the target bank. -/
structure State.Programs (s : State) (ofs : Nat) (data : List Byte) (t : State) : Prop extends s.UpdateFrame t where
  ustate : t.ustate = s.ustate
  owner : t.pack.owner = s.pack.owner
  work : t.pack.work = if data = [] then s.pack.work else .page
  next : t.reg Adr.PACK_UNEXT = (ofs + data.length) % 2 ^ 32
  flash : ∀ a, t.flashByte a = if s.bankBase s.targetBank + 0x1000 + ofs ≤ a ∧ a < s.bankBase s.targetBank + 0x1000 + ofs + data.length
    then data.getD (a - (s.bankBase s.targetBank + 0x1000 + ofs)) 0 &&& s.flashByte a else s.flashByte a

theorem State.packProgram_programs (ofs : Nat) (data : List Byte) : s.Programs ofs data ((s.packCode 0).packProgram ofs data) := by
  unfold State.packProgram
  dsimp only
  rw [State.targetBank_packCode, State.bankBase_packCode]
  exact {
    updates := ((((State.Updates.refl s).packCode 0).program _ _).setReg (by decide)).setWork
    code := by rw [State.fld_setPack, State.fld_eq_of_reg (State.reg_setReg_other _ (by decide) _), State.program, State.fld_setPack, State.packCode_zero]
    ustate := by rw [State.ustate_setPack, State.ustate_setReg _ _ (by decide), State.program, State.ustate_setPack, State.packCode_ustate]
    owner := by rw [State.setPack_pack, State.setReg_pack, State.program, State.setPack_pack, State.packCode_pack]
    work := by
      rw [State.setPack_pack, State.setReg_pack, State.program, State.setPack_pack, State.packCode_pack]
      cases data <;> rfl
    next := by rw [State.reg_setPack, State.reg_setReg_same]
    flash := fun a => by
      rw [State.flashByte, State.setPack_pack, State.setReg_pack]
      exact (State.flashByte_program _ _ a).trans (by rw [State.flashByte_packCode]) }

end Sys2Proof.Machine
end

/-!
SUPPORT. RELOAD, PACK_READ and FUSE (R432, R434, R435): the logged reset, the bytes put in the Basin, and the command register that FUSE is written to.
-/
section
namespace Sys2Proof.Machine

variable {s t u : State} {src : Source} {a n c bank ofs count : Nat} {data : List Byte}

/-! ### RELOAD -/

/-- The record that a fault leaves in the log (Table PK-8). -/
def State.faultRecord (s : State) (type engine status arg0 arg1 arg2 : Nat) : List Byte :=
  natLE 1 type ++ natLE 1 engine ++ natLE 1 status ++ natLE 1 (b2n (s.lock = 2)) ++ natLE 4 0 ++ natLE 8 (if s.lock = 2 then s.time else 0) ++
    natLE 4 arg0 ++ natLE 4 arg1 ++ natLE 4 arg2 ++ natLE 2 (s.nodeNo + (if s.admitted then 0x8000 else 0)) ++ [0]

theorem State.faultRecord_type (type engine status arg0 arg1 arg2 : Nat) :
    byteAt (s.faultRecord type engine status arg0 arg1 arg2) 0 = type % 2 ^ 8 := rfl

theorem State.faultRecord_arg0 {arg0 : Nat} (type engine status arg1 arg2 : Nat) (word : arg0 < 2 ^ 32) :
    leAt (s.faultRecord type engine status arg0 arg1 arg2) 16 4 = arg0 := by
  have field := leAt_append (natLE 1 type ++ natLE 1 engine ++ natLE 1 status ++ natLE 1 (b2n (s.lock = 2)) ++ natLE 4 0 ++
    natLE 8 (if s.lock = 2 then s.time else 0)) (natLE 4 arg1 ++ natLE 4 arg2 ++ natLE 2 (s.nodeNo + (if s.admitted then 0x8000 else 0)) ++ [0]) 4 arg0 word
  have start : (natLE 1 type ++ natLE 1 engine ++ natLE 1 status ++ natLE 1 (b2n (s.lock = 2)) ++ natLE 4 0 ++
      natLE 8 (if s.lock = 2 then s.time else 0)).length = 16 := by simp only [List.length_append, natLE_length]
  rw [start] at field
  refine (congrArg (leAt · 16 4) ?_).trans field
  rw [State.faultRecord]
  simp only [List.append_assoc]

theorem State.RegsOnly.logq (h : s.RegsOnly t) : t = { s with regs := t.regs, pack := { s.pack with logq := t.pack.logq } } := by
  rw [h]

/-- A fault is queued for the log, or counted as lost. -/
theorem State.logFault_only (type engine status arg0 arg1 arg2 : Nat) : s.logFault type engine status arg0 arg1 arg2 = { s with
    regs := (s.logFault type engine status arg0 arg1 arg2).regs
    pack := { s.pack with logq := (s.logFault type engine status arg0 arg1 arg2).pack.logq } } := by
  unfold State.logFault
  dsimp only
  split
  · rfl
  · rw [State.count, State.countBy_eq_setReg]
    exact ((State.RegsOnly.refl s).setReg _ _).logq

theorem State.logFault_logq (room : s.pack.logq.length < 16) (type engine status arg0 arg1 arg2 : Nat) :
    (s.logFault type engine status arg0 arg1 arg2).pack.logq = s.pack.logq ++ [s.faultRecord type engine status arg0 arg1 arg2] := by
  rw [State.logFault]
  dsimp only
  rw [if_pos room]
  rfl

/-- The power stage once RELOAD was accepted: the reset 10 µs later, or after a trail cycle without inserts where the node is on the Trail. -/
def State.reloadPower (s : State) (bank : Nat) : Power :=
  if s.inserted = true ∧ s.power.bypassN = true then { s.power with reloadQuiet := 1, reloadBank := bank }
  else { s.power with reloadQuiet := 3, resetAt := some (s.clk + s.usTicks 10), reloadBank := bank }

/-- The state that RELOAD leaves is the logged one with the power stage set. -/
theorem State.packReload_eq (src : Source) (bank : Nat) : s.packReload src bank =
    { (s.drawStatus.2.logFault 0x05 0 s.drawStatus.1 bank 0 (updater (some src))) with
      power := (s.drawStatus.2.logFault 0x05 0 s.drawStatus.1 bank 0 (updater (some src))).reloadPower bank } := by
  unfold State.packReload State.reloadPower
  dsimp only
  simp only [Bool.and_eq_true]
  split <;> rfl

theorem State.reloadPower_congr (mode : t.mode = s.mode) (power : t.power = s.power) (clk : t.clk = s.clk)
    (rate : t.reg Adr.CLK_RATE = s.reg Adr.CLK_RATE) (bank : Nat) : t.reloadPower bank = s.reloadPower bank := by
  have ticks : t.usTicks 10 = s.usTicks 10 := by
    rw [State.usTicks, State.baseHz, State.fam44, State.flag_eq_of_reg rate, State.usTicks, State.baseHz, State.fam44]
  rw [State.reloadPower, State.inserted, mode, power, clk, ticks, State.reloadPower, State.inserted]

/-- RELOAD was accepted: a reset is asked for, and a record of it queued for the log. -/
structure State.Reloads (s : State) (bank : Nat) (t : State) : Prop where
  power : t.power = s.reloadPower bank
  log : s.pack.logq.length < 16 → ∃ r, t.pack.logq = s.pack.logq ++ [r] ∧ byteAt r 0 = 0x05 ∧ leAt r 16 4 = bank
  only : t = { s with regs := t.regs, fresh := t.fresh, power := t.power, pack := { s.pack with logq := t.pack.logq } }
  code : t.fld Adr.PACK_USTAT 23 16 = 0
  reg : ∀ a, a ≠ Adr.PACK_USTAT → a ≠ Adr.PACK_LOGLOST → t.reg a = s.reg a

theorem State.packReload_reloads (src : Source) (word : bank < 2 ^ 32) : s.Reloads bank ((s.packCode 0).packReload src bank) := by
  have regs : s.RegsOnly (s.packCode 0) := (State.RegsOnly.refl s).setReg _ _
  have same (a : Nat) (notStat : a ≠ Adr.PACK_USTAT) := State.packCode_reg (s := s) notStat 0
  have zero := State.packCode_zero (s := s)
  rw [State.packReload_eq]
  generalize s.packCode 0 = u at *
  have drawn : u.drawStatus.2 = { u with fresh := u.fresh + 1 } := rfl
  rw [drawn]
  generalize u.drawStatus.1 = status
  generalize updater (some src) = who
  have room := State.logFault_logq (s := { u with fresh := u.fresh + 1 }) (type := 0x05) (engine := 0) (status := status) (arg0 := bank) (arg1 := 0)
    (arg2 := who)
  have logged := State.logFault_only (s := { u with fresh := u.fresh + 1 }) 0x05 0 status bank 0 who
  have kept (a : Nat) (notLost : a ≠ Adr.PACK_LOGLOST) := State.reg_logFault_other (s := { u with fresh := u.fresh + 1 })
    notLost 0x05 0 status bank 0 who
  generalize State.logFault { u with fresh := u.fresh + 1 } 0x05 0 status bank 0 who = v at *
  have other (a : Nat) (notStat : a ≠ Adr.PACK_USTAT) (notLost : a ≠ Adr.PACK_LOGLOST) : v.reg a = s.reg a := (kept a notLost).trans (same a notStat)
  have power : v.reloadPower bank = s.reloadPower bank :=
    State.reloadPower_congr (State.fld_eq_of_reg (other _ (by decide) (by decide))) (by rw [logged, regs]) (by rw [logged, regs])
      (other _ (by decide) (by decide)) bank
  exact {
    power := power
    log := fun h => ⟨_, (room (by rw [regs]; exact h)).trans (by rw [regs]), State.faultRecord_type _ _ _ _ _ _, State.faultRecord_arg0 _ _ _ _ _ word⟩
    only := by rw [power, logged, regs]
    code := (State.fld_eq_of_reg (kept _ (by decide))).trans zero
    reg := other }

/-! ### PACK_READ -/

theorem packSized_iff : packSized src n = true ↔
    n % 4 = 0 ∧ ((∃ k, src = .trail k) → n ≤ 192) ∧ (¬ (∃ k, src = .trail k) → 4 ≤ n ∧ n ≤ 4096) := by
  unfold packSized
  cases src <;> simp

theorem State.unloadData_nil (adr : Nat) : s.unloadData adr [] = (0, s) := by
  have none : memParts adr [] = [] := by rw [memParts_eq, touchedWords, if_pos List.length_nil]; rfl
  rw [State.unloadData, State.basinWrite, none]
  rfl

section
variable (reach : s.reaches src = true) (sized : packSized src count = true)
include reach sized

/-- The data of a Trail read travel in its REPLY. -/
theorem exec_packRead_trail (trail : ∃ k, src = .trail k) (offset : Word) : exec (.packRead src offset count) s =
    s.run fun s => (s.packOp src 7 0 offset.toNat [] count).2.2 := by
  obtain ⟨k, rfl⟩ := trail
  have row : exec (.packRead (.trail k) offset count) s = execPackRead (.trail k) offset count s := rfl
  rw [row, execPackRead, State.run, State.run, State.packBy, if_pos reach]
  simp only [sized, Bool.not_true, Bool.false_eq_true, if_false]

/-- Those of a read on the node go to the Basin. -/
theorem exec_packRead_local (local_ : ¬ ∃ k, src = .trail k) (offset : Word) : exec (.packRead src offset count) s =
    s.run fun s => if inBasin (s.reg Adr.PACK_UADR) count then
      ((s.packOp src 7 0 offset.toNat [] count).2.2.unloadData (s.reg Adr.PACK_UADR) (s.packOp src 7 0 offset.toNat [] count).2.1).2
      else s.packCode St.range := by
  have row : exec (.packRead src offset count) s = execPackRead src offset count s := rfl
  rw [row, execPackRead, State.run, State.run, State.packBy, if_pos reach]
  cases src with
  | trail k => exact absurd ⟨k, rfl⟩ local_
  | host | core k | boot =>
    simp only [sized, reach, Bool.not_true, Bool.false_eq_true, if_false]
    cases inBasin (s.reg Adr.PACK_UADR) count <;> rfl

end

/-- The flash bytes that a read asked for are in the Basin. -/
structure State.Unloads (s : State) (adr : Nat) (l : List Byte) (t : State) : Prop where
  only : t = { s with regs := t.regs, basin := t.basin, voice := { s.voice with dirtied := t.voice.dirtied } }
  byte : ∀ a, t.memByte a = if adr ≤ a ∧ a < adr + l.length then l.getD (a - adr) 0 else s.memByte a
  code : t.fld Adr.PACK_USTAT 23 16 = 0
  reg : ∀ a, a ≠ Adr.PACK_USTAT → a ≠ Adr.VOICE_HASHCTL → t.reg a = s.reg a

theorem State.unloadData_unloads {adr : Nat} {l : List Byte} (clear : Claims.clear s adr l.length) (fits : adr + l.length ≤ basinSize) :
    s.Unloads adr l ((s.packCode 0).unloadData adr l).2 := by
  have regs : s.RegsOnly (s.packCode 0) := (State.RegsOnly.refl s).setReg _ _
  have same (a : Nat) (notStat : a ≠ Adr.PACK_USTAT) := State.packCode_reg (s := s) notStat 0
  have zero := State.packCode_zero (s := s)
  generalize s.packCode 0 = u at *
  obtain ⟨t, written, stored⟩ := State.basinWrite_clear (s := u) (master := Master.host) (port := 0) (by rw [regs]; exact clear) fits
  have operation : (u.unloadData adr l).2 = t := by
    rw [State.unloadData, written]
    rfl
  rw [operation]
  exact {
    only := by
      have only := stored.only
      rw [regs] at only
      exact only
    byte := fun a => (stored.byte_all a).trans (by rw [regs]; rfl)
    code := (State.fld_eq_of_reg (stored.reg _ (by decide))).trans zero
    reg := fun a notStat notHash => (stored.reg a notHash).trans (same a notStat) }

/-! ### FUSE -/

theorem Sp.ins_ins {α : Type} (l : List (Nat × α)) (k : Nat) (x : α) : Sp.ins (Sp.ins l k x) k x = Sp.ins l k x := by
  induction l with
  | nil => simp [Sp.ins]
  | cons p t ih =>
    obtain ⟨j, v⟩ := p
    by_cases same : j = k
    · simp [Sp.ins, same]
    · by_cases below : k < j
      · simp [Sp.ins, same, below]
      · simp [Sp.ins, same, below, ih]

theorem Sp.del_del {α : Type} (l : List (Nat × α)) (k : Nat) : Sp.del (Sp.del l k) k = Sp.del l k := by
  induction l with
  | nil => rfl
  | cons p t ih =>
    obtain ⟨j, v⟩ := p
    by_cases same : j = k
    · simp [Sp.del, same, ih]
    · simp [Sp.del, same, ih]

/-- A field put twice stands as put once. -/
theorem putBits_putBits {m hi lo v : Nat} (order : lo ≤ hi) : putBits (putBits m hi lo v) hi lo v = putBits m hi lo v := by
  refine Nat.eq_of_testBit_eq fun i => ?_
  by_cases inside : lo ≤ i ∧ i ≤ hi
  · have field (k : Nat) : (putBits k hi lo v).testBit i = (bits (putBits k hi lo v) hi lo).testBit (i - lo) := by
      rw [bits, Nat.testBit_mod_two_pow, Nat.testBit_shiftRight, decide_eq_true (by omega), Bool.true_and, Nat.add_sub_cancel' inside.1]
    have low (k : Nat) : putBits k hi lo v = putBits k hi lo (v % 2 ^ (hi + 1 - lo)) := by simp only [putBits, Nat.mod_mod]
    have small := Nat.mod_lt v (Nat.two_pow_pos (hi + 1 - lo))
    rw [field, field, low, low m, putBits_low small order, putBits_low small order]
  · rcases Nat.lt_or_ge i lo with below | above
    · exact bit_putBits_below below order v
    · exact bit_putBits_above order (by omega) v

/-- The status of a refused command, written to CODE by the command and by the register, stands once. -/
theorem State.packCode_packCode (c : Nat) : (s.packCode c).packCode c = s.packCode c := by
  have small : putBits (s.reg Adr.PACK_USTAT) 23 16 c < 2 ^ 32 := putBits_lt (s.reg_lt _) (by decide) (by decide)
  have value : putBits ((s.packCode c).reg Adr.PACK_USTAT) 23 16 c = putBits (s.reg Adr.PACK_USTAT) 23 16 c := by
    rw [State.packCode, State.setFld, State.reg_setReg_same, Nat.mod_eq_of_lt small, putBits_putBits (by decide)]
  have twice (v : Nat) : (s.setReg Adr.PACK_USTAT v).setReg Adr.PACK_USTAT v = s.setReg Adr.PACK_USTAT v := by
    rw [State.setReg, State.setReg]
    simp only [Sp.put]
    split
    · rw [Sp.del_del]
    · rw [Sp.ins_ins]
  calc (s.packCode c).packCode c
    _ = (s.packCode c).setReg Adr.PACK_USTAT (putBits (s.reg Adr.PACK_USTAT) 23 16 c) := by rw [← value]; rfl
    _ = s.packCode c := twice _

theorem State.regStatus_fuse : s.regStatus src Adr.PACK_UCMD 8 = 0 := by
  have row : regRow Adr.PACK_UCMD = some ⟨0x0200D010, 0x4, 1, 0, 1, 0, 0, 0, 0x3f, 0, 0⟩ := by decide +kernel
  rw [State.regStatus_own row (by decide) rfl rfl rfl (by decide)]
  rfl

theorem State.regBy_fuse (reach : s.reaches src = true) :
    s.regBy src Adr.PACK_UCMD 8 = (s.packLocal src 8 0).2.packCode (s.packLocal src 8 0).1 := by
  rw [State.regBy, State.writeBy_command true (by decide) (by decide) rfl reach (.inr (by decide)),
    State.regWrite1_command true rfl State.regStatus_fuse]
  rfl

/-- FUSE is refused before its data are read, or for them. -/
theorem exec_fuse_refused {e : Nat} (reach : s.reaches src = true) (refused : s.packLocal src 8 0 = (e, s.packCode e)) :
    exec (.fuse src) s = .next (s.packCode e) := by
  have row : exec (.fuse src) s = s.run fun s => s.regBy src Adr.PACK_UCMD 8 := rfl
  rw [row]
  refine State.run_keeping ?_ rfl
  rw [State.regBy_fuse reach, refused, State.packCode_packCode]

section
variable {e : Nat} (status : s.packStatus src 8 0 (s.reg Adr.PACK_UOFS) 32 = e)
include status

theorem State.packLocal_fuse_first (first : e = St.reserved ∨ e = St.locked ∨ e = St.role) : s.packLocal src 8 0 = (e, s.packCode e) := by
  have listed : (e = St.reserved || e = St.locked || e = St.role) = true := by simpa [or_assoc] using first
  unfold State.packLocal
  simp only [if_true, status]
  rw [if_pos listed]

variable (later : ¬ (e = St.reserved ∨ e = St.locked ∨ e = St.role))
include later

theorem State.packLocal_fuse_outside (outside : inBasin (s.reg Adr.PACK_UADR) 32 = false) :
    s.packLocal src 8 0 = (St.range, s.packCode St.range) := by
  have listed : ¬ (e = St.reserved || e = St.locked || e = St.role) = true := by simpa [or_assoc] using later
  unfold State.packLocal
  simp only [if_true, status]
  rw [if_neg listed]
  simp [outside]

theorem State.packLocal_fuse_read (inside : inBasin (s.reg Adr.PACK_UADR) 32 = true)
    (sound : ∀ w ∈ touchedWords (s.reg Adr.PACK_UADR) 32, s.eccOf w = none) : s.packLocal src 8 0 =
      ((s.packOp src 8 0 (s.reg Adr.PACK_UOFS) (s.memBytes (s.reg Adr.PACK_UADR) 32) 32).1,
        (s.packOp src 8 0 (s.reg Adr.PACK_UOFS) (s.memBytes (s.reg Adr.PACK_UADR) 32) 32).2.2) := by
  have listed : ¬ (e = St.reserved || e = St.locked || e = St.role) = true := by simpa [or_assoc] using later
  unfold State.packLocal
  simp only [if_true, status]
  rw [if_neg listed]
  simp [inside, State.basinRead_sound Master.host sound]

end

/-- The fuses hold the hash, and FUSED shows it. -/
structure State.Fuses (s : State) (hash : List Byte) (t : State) : Prop where
  only : t = { s with regs := t.regs, pack := { s.pack with fuses := hash } }
  fused : t.flag Adr.PACK_STAT 5 = true
  code : t.fld Adr.PACK_USTAT 23 16 = 0
  reg : ∀ a, a ≠ Adr.PACK_STAT → a ≠ Adr.PACK_USTAT → t.reg a = s.reg a

theorem State.packFuse_fuses (hash : List Byte) : s.Fuses hash (((s.packCode 0).packFuse hash).packCode 0) where
  only := by
    have regs : ({ s with pack := { s.pack with fuses := hash } } : State).RegsOnly (((s.packCode 0).packFuse hash).packCode 0) := by
      have first : s.RegsOnly (s.packCode 0) := (State.RegsOnly.refl s).setReg _ _
      unfold State.packFuse
      refine State.RegsOnly.setReg (State.RegsOnly.setFlag ?_ _ _ _) _ _
      generalize s.packCode 0 = u at *
      rw [first]
      rfl
    exact regs
  fused := by
    rw [State.packCode, State.flag_eq_of_reg (State.reg_setFld_other _ (by decide) _ _ _), State.packFuse, State.flag_setFlag _ _ _ _ (by decide)]
  code := State.packCode_zero
  reg := fun a notStat notUstat => by
    rw [State.packCode_reg notUstat, State.packFuse, State.reg_setFlag_other _ notStat, State.reg_setPack, State.packCode_reg notUstat]

end Sys2Proof.Machine
end

/-!
SUPPORT. The update operations, row by row, by the state of the session (R432, R434, R435).
-/
section
namespace Sys2Proof.Machine

variable {s t : State} {src : Source} {e op bank ofs count : Nat} {data : List Byte}

/-- The session is free, or the source's own. -/
abbrev State.Mine (s : State) (src : Source) : Prop := s.pack.owner = none ∨ s.pack.owner = some (ownerOf src)

theorem State.Mine.notStranger (mine : s.Mine src) : s.stranger src = false := State.stranger_eq_false.mpr mine

theorem State.stranger_of_not_mine (other : ¬ s.Mine src) : s.stranger src = true := by
  rw [← Bool.not_eq_false, State.stranger_eq_false]
  exact other

/-! ### Rows -/

theorem exec_packWrite (sized : packSized src data.length = true) (offset : Word) : exec (.packWrite src offset data) s =
    s.run fun s => (s.packBy src 2 0 offset.toNat data data.length).2.2 := by
  have row : exec (.packWrite src offset data) s = execPackWrite src offset data s := rfl
  rw [row, execPackWrite, State.run, State.run, if_pos sized]

theorem exec_packWrite_unsized (unsized : packSized src data.length = false) (offset : Word) : exec (.packWrite src offset data) s = .next s := by
  have row : exec (.packWrite src offset data) s = execPackWrite src offset data s := rfl
  rw [row]
  exact State.run_same (if_neg (Bool.eq_false_iff.mp unsized))

theorem exec_packRead_unsized (unsized : packSized src count = false) (offset : Word) : exec (.packRead src offset count) s = .next s := by
  have row : exec (.packRead src offset count) s = execPackRead src offset count s := rfl
  rw [row]
  exact State.run_same (if_pos (by rw [unsized]; rfl))

section
variable (reach : s.reaches src = true)
include reach

theorem exec_packStatus : exec (.packStatus src) s = .next s := by
  have status : s.packStatus src 0 0 0 0 = 0 := by simp [State.packStatus, firstFail]
  exact State.run_packBy reach (by simp [State.packOp, status]) rfl

theorem packBegin_refused (status : s.packStatus src 1 0 0 0 = e) (bad : e ≠ 0) : exec (.packBegin src) s = .next (s.packCode e) :=
  State.run_packBy_refused reach bad status

theorem verify_refused (status : s.packStatus src 3 0 0 0 = e) (bad : e ≠ 0) : exec (.verify src) s = .next (s.packCode e) :=
  State.run_packBy_refused reach bad status

theorem commit_refused (status : s.packStatus src 4 0 0 0 = e) (bad : e ≠ 0) : exec (.commit src) s = .next (s.packCode e) :=
  State.run_packBy_refused reach bad status

theorem abort_refused (status : s.packStatus src 5 0 0 0 = e) (bad : e ≠ 0) : exec (.abort src) s = .next (s.packCode e) :=
  State.run_packBy_refused reach bad status

theorem reload_refused {bank : BitVec 2} (status : s.packStatus src 6 bank.toNat 0 0 = e) (bad : e ≠ 0) :
    exec (.reload src bank) s = .next (s.packCode e) :=
  State.run_packBy_refused reach bad status

theorem packWrite_refused {offset : Word} (sized : packSized src data.length = true)
    (status : s.packStatus src 2 0 offset.toNat data.length = e) (bad : e ≠ 0) : exec (.packWrite src offset data) s = .next (s.packCode e) :=
  (exec_packWrite sized offset).trans (State.run_packBy_refused reach bad status)

theorem fuse_refused_first (status : s.packStatus src 8 0 (s.reg Adr.PACK_UOFS) 32 = e)
    (first : e = St.reserved ∨ e = St.locked ∨ e = St.role) : exec (.fuse src) s = .next (s.packCode e) :=
  exec_fuse_refused reach (State.packLocal_fuse_first status first)

end

theorem State.Updates.pending (h : s.Updates t) : t.pending = s.pending := by rw [h.only]

theorem State.flashBytes_length (s : State) (a n : Nat) : (s.flashBytes a n).length = n := by rw [State.flashBytes, List.length_map, List.length_range]

theorem State.Fuses.pending (h : s.Fuses data t) : t.pending = s.pending := by rw [h.only]

/-- A read that is refused puts nothing in the Basin. -/
theorem packRead_refused {offset : Word} (reach : s.reaches src = true) (sized : packSized src count = true)
    (fits : (∃ k, src = .trail k) ∨ s.reg Adr.PACK_UADR + count ≤ 0xC00000) (status : s.packStatus src 7 0 offset.toNat count = e) (bad : e ≠ 0) :
    exec (.packRead src offset count) s = .next (s.packCode e) := by
  have refused : s.packOp src 7 0 offset.toNat [] count = (e, [], s.packCode e) := State.packOp_refused status bad
  by_cases trail : ∃ k, src = .trail k
  · exact (exec_packRead_trail reach sized trail offset).trans (State.run_keeping (by rw [refused]) (s.packCode_pending _))
  · refine (exec_packRead_local reach sized trail offset).trans (State.run_keeping (t := s.packCode e) ?_ (s.packCode_pending _))
    have inside : inBasin (s.reg Adr.PACK_UADR) count = true := decide_eq_true (fits.resolve_left trail)
    rw [if_pos inside, refused, State.unloadData_nil]

/-- FUSE by a source that may write the fuses, in a wrong mode or state. -/
theorem fuse_refused_read (reach : s.reaches src = true) (status : ∀ {ofs count : Nat}, s.packStatus src 8 0 ofs count = e)
    (later : e ≠ 0 ∧ ¬ (e = St.reserved ∨ e = St.locked ∨ e = St.role)) (inside : s.reg Adr.PACK_UADR + 32 ≤ 0xC00000)
    (sound : ∀ w ∈ touchedWords (s.reg Adr.PACK_UADR) 32, s.eccOf w = none) : exec (.fuse src) s = .next (s.packCode e) := by
  refine exec_fuse_refused reach ?_
  rw [State.packLocal_fuse_read status later.2 (decide_eq_true inside) sound, State.packOp_refused status later.1]

theorem exec_fuse_fused (reach : s.reaches src = true) (fine : ∀ ofs count : Nat, s.packStatus src 8 0 ofs count = 0)
    (inside : s.reg Adr.PACK_UADR + 32 ≤ 0xC00000) (sound : ∀ w ∈ touchedWords (s.reg Adr.PACK_UADR) 32, s.eccOf w = none) :
    exec (.fuse src) s = .next (((s.packCode 0).packFuse (s.memBytes (s.reg Adr.PACK_UADR) 32)).packCode 0) := by
  have row : exec (.fuse src) s = s.run fun s => s.regBy src Adr.PACK_UCMD 8 := rfl
  rw [row]
  refine State.run_keeping ?_ (State.packFuse_fuses _).pending
  rw [State.regBy_fuse reach, State.packLocal_fuse_read (fine _ _) (by decide) (decide_eq_true inside) sound, State.packOp_fuse (fine _ _)]

/-- Settles O52: each operation by the status that Table PK-6 gives it, then by what it does where none fails. -/
theorem updateOperationsFollowTheState : Obligations.UpdateOperationsFollowTheState := by
  unfold Obligations.UpdateOperationsFollowTheState
  intro s src reach st mine flash trail page code fails sized base frame moves
  have size (n : Nat) : sized n ↔ packSized src n = true := packSized_iff.symm
  have framed {t : State} (h : s.UpdateFrame t) : frame t := ⟨h.updates.only, h.updates.fuses, h.updates.logq, h.code, h.updates.regsBut⟩
  have moved {i : Instr} {x : Nat} {w : FlashWork} {o : Option Source} {t : State} (run : exec i s = .next t) (h : s.SessionMoves x w o t) :
      moves i x w o := ⟨t, run, framed h.toUpdateFrame, h.ustate, h.work, h.owner, h.irq, h.flash⟩
  have reached : flash → s.flashReach = true := id
  have unreached (lost : ¬ flash) : s.flashReach = false := Bool.eq_false_iff.mpr lost
  refine ⟨exec_packStatus reach, fun other => ?_, fun owned lost => ?_, fun owned able => ?_, fun offset data unsized => ?_, fun owned => ?_,
    fun bank => ⟨fun all => ?_, fun owned notAll => ⟨fun idle candidate => ?_, fun idle some none => ?_, fun busy => ?_⟩⟩, fun offset count => ?_, fun owned => ?_⟩
  · have stranger := State.stranger_of_not_mine other
    refine ⟨packBegin_refused reach ?_ (by decide), verify_refused reach ?_ (by decide), commit_refused reach ?_ (by decide),
      fuse_refused_first reach ?_ (.inr (.inl rfl)), fun notHost => abort_refused reach ?_ (by decide),
      fun bank notAll => reload_refused reach ?_ (by decide), fun offset data wide => packWrite_refused reach ((size _).mp wide) ?_ (by decide)⟩
    · simp [State.packStatus_begin, firstFail, stranger, St.locked]
    · simp [State.packStatus_verify, firstFail, stranger, St.locked]
    · simp [State.packStatus_commit, firstFail, stranger, St.locked]
    · simp [State.packStatus_fuse, firstFail, stranger, St.locked]
    · simp [State.packStatus_abort, firstFail, stranger, notHost, St.locked]
    · simp [State.packStatus_reload s src 0 0 notAll, firstFail, stranger, St.locked]
    · simp [State.packStatus_write, firstFail, stranger, St.locked]
  · have known := State.Mine.notStranger owned
    have away := unreached lost
    refine ⟨packBegin_refused reach ?_ (by decide), verify_refused reach ?_ (by decide), commit_refused reach ?_ (by decide),
      fun offset data wide => packWrite_refused reach ((size _).mp wide) ?_ (by decide)⟩
    · simp [State.packStatus_begin, firstFail, known, away, St.busy]
    · simp [State.packStatus_verify, firstFail, known, away, St.busy]
    · simp [State.packStatus_commit, firstFail, known, away, St.busy]
    · simp [State.packStatus_write, firstFail, known, away, St.busy]
  · have known := State.Mine.notStranger owned
    have near := reached able
    refine ⟨fun closed => ?_, fun notIdle notFailed => packBegin_refused reach ?_ (by decide), fun offset data wide => ?_,
      fun writing => ?_, fun notWriting => verify_refused reach ?_ (by decide), fun verified => ?_,
      fun notVerified => commit_refused reach ?_ (by decide)⟩
    · have begins := s.packBegin_begins src
      have fine : s.packStatus src 1 0 0 0 = 0 := by
        have allowed : ¬ (s.ustate ≠ 0 ∧ s.ustate ≠ 5) := by omega
        simpa [State.packStatus_begin, firstFail, known, near] using fun notIdle notFailed => absurd ⟨notIdle, notFailed⟩ allowed
      exact ⟨_, State.run_packBy reach (State.packOp_begin fine) begins.updates.pending, framed begins.toUpdateFrame, begins.ustate, begins.next,
        begins.owner, begins.work, begins.flash⟩
    · simp [State.packStatus_begin, firstFail, known, near, show s.ustate ≠ 0 from notIdle, show s.ustate ≠ 5 from notFailed, St.busy]
    · have sizedData := (size _).mp wide
      refine ⟨fun writing free next fits => ?_, fun busy => packWrite_refused reach sizedData ?_ (by decide),
        fun wrong free => packWrite_refused reach sizedData ?_ (by decide), fun writing free skipped => packWrite_refused reach sizedData ?_ (by decide),
        fun writing free next long => packWrite_refused reach sizedData ?_ (by decide)⟩
      · have programs := s.packProgram_programs offset.toNat data
        have state : s.ustate = 2 := writing
        have fine : s.packStatus src 2 0 offset.toNat data.length = 0 := by
          have inPlace : offset.toNat = s.reg Adr.PACK_UNEXT := next
          have inBank : ¬ s.bankSize - 0x1000 < s.reg Adr.PACK_UNEXT + data.length := Nat.not_lt.mpr fits
          simp [State.packStatus_write, firstFail, known, near, state, show s.pack.work ≠ .page from free, inPlace, inBank]
        refine ⟨_, (exec_packWrite sizedData offset).trans (State.run_packBy reach (State.packOp_write fine) programs.updates.pending),
          framed programs.toUpdateFrame, programs.ustate.trans state, programs.owner, programs.work, ?_, fun a => ?_⟩
        · rw [programs.next, next]
        · rw [programs.flash, next]
      · have late : (s.ustate = 1 || s.ustate = 3 || s.ustate = 6 || s.pack.work = .page) = true := by simpa [or_assoc] using busy
        simp only [State.packStatus_write, firstFail, known, near, late]
        rfl
      · have state : s.ustate = 0 ∨ s.ustate = 4 ∨ s.ustate = 5 := wrong
        have notWriting : s.ustate ≠ 2 := by omega
        have early : (s.ustate = 1 || s.ustate = 3 || s.ustate = 6 || s.pack.work = .page) = false := by
          simp only [Bool.or_eq_false_iff, decide_eq_false_iff_not]
          exact ⟨⟨⟨by omega, by omega⟩, by omega⟩, free⟩
        simp [State.packStatus_write, firstFail, known, near, early, notWriting, St.mode]
      · have state : s.ustate = 2 := writing
        simp [State.packStatus_write, firstFail, known, near, state, show s.pack.work ≠ .page from free,
          show offset.toNat ≠ s.reg Adr.PACK_UNEXT from skipped, St.seq]
      · have state : s.ustate = 2 := writing
        simp [State.packStatus_write, firstFail, known, near, state, show s.pack.work ≠ .page from free,
          show offset.toNat = s.reg Adr.PACK_UNEXT from next, show s.bankSize - 0x1000 < s.reg Adr.PACK_UNEXT + data.length from long, St.range]
    · have state : s.ustate = 2 := writing
      have moves := State.setUstate_moves (s := s) (x := 3) (w := .verify) (by omega) (by decide)
      have fine : s.packStatus src 3 0 0 0 = 0 := by simp [State.packStatus_verify, firstFail, known, near, state]
      exact moved (State.run_packBy reach (State.packOp_verify fine) moves.updates.pending) moves
    · simp [State.packStatus_verify, firstFail, known, near, show s.ustate ≠ 2 from notWriting, St.busy]
    · have state : s.ustate = 4 := verified
      have moves := State.setUstate_moves (s := s) (x := 6) (w := .commit) (by omega) (by decide)
      have fine : s.packStatus src 4 0 0 0 = 0 := by simp [State.packStatus_commit, firstFail, known, near, state]
      exact moved (State.run_packBy reach (State.packOp_commit fine) moves.updates.pending) moves
    · simp [State.packStatus_commit, firstFail, known, near, show s.ustate ≠ 4 from notVerified, St.mode]
  · exact exec_packWrite_unsized (Bool.eq_false_iff.mpr fun wide => unsized ((size _).mpr wide)) offset
  · have allowed : (s.stranger src && src ≠ .host) = false := by
      rcases owned with owned | host
      · simp [State.Mine.notStranger owned]
      · simp [host]
    refine ⟨fun notIdle notCommitting => ?_, fun idle => abort_refused reach ?_ (by decide), fun committing => abort_refused reach ?_ (by decide)⟩
    · have fine : s.packStatus src 5 0 0 0 = 0 := by
        rw [State.packStatus_abort, allowed]
        simp [firstFail, show s.ustate ≠ 0 from notIdle, show s.ustate ≠ 6 from notCommitting]
      have moves := State.packAbort_moves (s := s) notIdle
      exact moved (State.run_packBy reach (State.packOp_abort fine) moves.updates.pending) moves
    · rw [State.packStatus_abort, allowed]
      simp [firstFail, show s.ustate = 0 from idle, St.mode]
    · rw [State.packStatus_abort, allowed]
      simp [firstFail, show s.ustate = 6 from committing, St.busy]
  · exact reload_refused reach (by rw [all, State.packStatus_reserved]; rfl) (by decide)
  · have state : s.ustate = 0 := idle
    have reloads := s.packReload_reloads src (bank := bank.toNat) (by omega)
    have fine : s.packStatus src 6 bank.toNat 0 0 = 0 := by
      rw [State.packStatus_reload s src 0 0 notAll]
      rcases candidate with zero | candidate
      · simp [firstFail, State.Mine.notStranger owned, state, zero]
      · simp [firstFail, State.Mine.notStranger owned, state, candidate]
    exact ⟨_, State.run_packBy reach (State.packOp_reload fine) (by rw [reloads.only]), reloads.power, reloads.log, reloads.only, reloads.code,
      fun a out _ _ _ _ => by
        obtain ⟨notStat, notLost⟩ := by simpa using out
        exact reloads.reg a notStat notLost⟩
  · refine reload_refused reach ?_ (by decide)
    simp [State.packStatus_reload s src 0 0 notAll, firstFail, State.Mine.notStranger owned, show s.ustate = 0 from idle, some, none, St.pack]
  · refine reload_refused reach ?_ (by decide)
    simp [State.packStatus_reload s src 0 0 notAll, firstFail, State.Mine.notStranger owned, show s.ustate ≠ 0 from busy, St.busy]
  · intro adr bytes row fits
    refine ⟨fun unsized => exec_packRead_unsized (Bool.eq_false_iff.mpr fun wide => unsized ((size _).mpr wide)) offset,
      fun wide outside => ?_, fun wide inside lost => ?_, fun wide inside able beyond => ?_, fun wide able within => ⟨fun toTrail => ?_, fun local_ inside clear => ?_⟩⟩
    · obtain ⟨local_, beyond⟩ := not_or.mp outside
      refine (exec_packRead_local reach ((size _).mp wide) local_ offset).trans (State.run_keeping (if_neg ?_) (s.packCode_pending _))
      rw [inBasin, decide_eq_true_eq]
      exact beyond
    · refine packRead_refused reach ((size _).mp wide) inside ?_ (by decide)
      simp [State.packStatus_read, firstFail, unreached lost, St.busy]
    · refine packRead_refused reach ((size _).mp wide) inside ?_ (by decide)
      simp [State.packStatus_read, firstFail, reached able, beyond, St.range]
    · have fine : s.packStatus src 7 0 offset.toNat count = 0 := by simp [State.packStatus_read, firstFail, reached able, Nat.not_lt.mpr within]
      exact (exec_packRead_trail reach ((size _).mp wide) toTrail offset).trans (State.run_keeping (congrArg (·.2.2) (State.packOp_read fine)) (s.packCode_pending _))
    · have fine : s.packStatus src 7 0 offset.toNat count = 0 := by simp [State.packStatus_read, firstFail, reached able, Nat.not_lt.mpr within]
      have fitting : adr + count ≤ basinSize := inside.resolve_left local_
      have length : bytes.length = count := by rw [State.flashBytes_length]
      have unloads := State.unloadData_unloads (s := s) (adr := adr) (l := bytes) (by rwa [length]) (by rwa [length])
      refine ⟨_, (exec_packRead_local reach ((size _).mp wide) local_ offset).trans (State.run_keeping (t := ((s.packCode 0).unloadData adr bytes).2) ?_
        (by rw [unloads.only])), unloads.only, fun a => ?_, unloads.code, unloads.reg⟩
      · rw [if_pos (show inBasin (s.reg Adr.PACK_UADR) count = true from decide_eq_true fitting), State.packOp_read fine, State.flashBytes_packCode]
      · rw [unloads.byte, length]
  · intro adr sound
    have known := State.Mine.notStranger owned
    refine ⟨fun notHost => fuse_refused_first reach ?_ (.inr (.inr rfl)), fun host inside whole => ⟨fun outOfService => ?_, fun service fused => ?_,
      fun service blank busy => ?_, fun service blank idle => ?_⟩, fun host service blank outside => ?_⟩
    · simp [State.packStatus_fuse, firstFail, known, notHost, St.role]
    · subst host
      exact fuse_refused_read reach (by simp [State.packStatus_fuse, firstFail, known, outOfService, St.mode]) (by decide) inside whole
    · subst host
      refine fuse_refused_first reach ?_ (.inr (.inl rfl))
      simp [State.packStatus_fuse, firstFail, service, fused, St.locked]
    · subst host
      exact fuse_refused_read reach (by simp [State.packStatus_fuse, firstFail, known, service, blank, show s.ustate ≠ 0 from busy, St.busy])
        (by decide) inside whole
    · subst host
      have fine (ofs count : Nat) : s.packStatus .host 8 0 ofs count = 0 := by
        simp [State.packStatus_fuse, firstFail, known, service, blank, show s.ustate = 0 from idle]
      have fuses := s.packFuse_fuses (s.memBytes adr 32)
      exact ⟨_, exec_fuse_fused reach fine inside whole, fuses.only, fuses.fused, fuses.code, fuses.reg⟩
    · subst host
      refine exec_fuse_refused reach (State.packLocal_fuse_outside rfl ?_ (decide_eq_false (Nat.not_le.mpr outside)))
      by_cases idle : s.ustate = 0
      · simp [State.packStatus_fuse, firstFail, known, service, blank, idle, St.reserved, St.locked, St.role]
      · simp [State.packStatus_fuse, firstFail, known, service, blank, idle, St.reserved, St.locked, St.role, St.busy]

end Sys2Proof.Machine
end

/-!
SUPPORT. What the work of taking a unit out, or back in, leaves alone (R443 to R446): the SPE, the flash, the local RAM, the cores, the running test, the bits of
FAULT_RETIRED and the result bits of FAULT_CMDRES.
-/
section
namespace Sys2Proof.Machine

/-- A register that is no part of the units' record. -/
abbrev BesideUnits (a : Nat) : Prop := a ≠ Adr.FAULT_RETIRED0 ∧ a ≠ Adr.FAULT_RETIRED1 ∧ a ≠ Adr.FAULT_CMDRES

/-- State s holds the units' record of s₀. Of FAULT_CMDRES, bit 6 of CODE lies where a dropped write of a port beyond the eighth would be told. -/
structure State.Aside (s₀ s : State) : Prop where
  queue : s.pending = s₀.pending
  spe : s.spe = s₀.spe
  flash : s.pack.flash = s₀.pack.flash
  lram : s.lram = s₀.lram
  cores : s.cores = s₀.cores
  test : s.flt.testUnit = s₀.flt.testUnit
  retired : ∀ k, s.retired k = s₀.retired k
  result : ∀ i, i ≠ 6 → s.flag Adr.FAULT_CMDRES i = s₀.flag Adr.FAULT_CMDRES i

namespace State.Aside
variable {s₀ s t : State}

theorem refl (s : State) : s.Aside s := ⟨rfl, rfl, rfl, rfl, rfl, rfl, fun _ => rfl, fun _ _ => rfl⟩

theorem trans (h : s₀.Aside s) (g : s.Aside t) : s₀.Aside t :=
  ⟨g.queue.trans h.queue, g.spe.trans h.spe, g.flash.trans h.flash, g.lram.trans h.lram, g.cores.trans h.cores, g.test.trans h.test,
    fun k => (g.retired k).trans (h.retired k), fun i bit => (g.result i bit).trans (h.result i bit)⟩

theorem ite {c : Prop} [Decidable c] (h : s₀.Aside s) (g : s₀.Aside t) : s₀.Aside (if c then s else t) := by
  split <;> assumption

theorem ite_snd {α : Type} {x y : α × State} {c : Prop} [Decidable c] (h : s₀.Aside x.2) (g : s₀.Aside y.2) :
    s₀.Aside (if c then x else y).2 := by
  split <;> assumption

theorem foldl {α : Type} {f : State → α → State} {l : List α} (h : s₀.Aside s) (step : ∀ {t x}, s₀.Aside t → s₀.Aside (f t x)) :
    s₀.Aside (l.foldl f s) := by
  induction l generalizing s with
  | nil => exact h
  | cons x l ih => exact ih (step h)

theorem foldl_snd {α β : Type} {f : β × State → α → β × State} {l : List α} {p : β × State} (h : s₀.Aside p.2)
    (step : ∀ {p x}, s₀.Aside p.2 → s₀.Aside (f p x).2) : s₀.Aside (l.foldl f p).2 := by
  induction l generalizing p with
  | nil => exact h
  | cons x l ih => exact ih (step h)

/-- What the record of the units is no part of. -/
theorem beside {f t b c p m d e v a o n r u w x} (h : s₀.Aside s) : s₀.Aside { s with
    fresh := f, time := t, sub := b, clk := c, phase := p, basin := m, disp := d, lramEcc := e, voice := v, trail := a, aports := o,
    ana := n, ser := r, tmr := u, power := w, host := x } := ⟨h.queue, h.spe, h.flash, h.lram, h.cores, h.test, h.retired, h.result⟩

theorem setLogq {l : List (List Byte)} (h : s₀.Aside s) : s₀.Aside { s with pack := { s.pack with logq := l } } :=
  ⟨h.queue, h.spe, h.flash, h.lram, h.cores, h.test, h.retired, h.result⟩

theorem setTimes {l : List (Nat × List Nat)} (h : s₀.Aside s) : s₀.Aside { s with flt := { s.flt with times := l } } :=
  ⟨h.queue, h.spe, h.flash, h.lram, h.cores, h.test, h.retired, h.result⟩

/-! ### Registers -/

theorem setReg {a v} (apart : BesideUnits a) (h : s₀.Aside s) : s₀.Aside (s.setReg a v) := by
  obtain ⟨not0, not1, notResult⟩ := apart
  refine ⟨h.queue, h.spe, h.flash, h.lram, h.cores, h.test, fun k => ?_, fun i bit => ?_⟩
  · rw [← h.retired, State.retired, State.retired, State.flag_eq_of_reg (s.reg_setReg_other not0.symm v),
      State.flag_eq_of_reg (s.reg_setReg_other not1.symm v)]
  · rw [State.flag_eq_of_reg (s.reg_setReg_other notResult.symm v), h.result i bit]

theorem setFld {a hi lo v} (apart : BesideUnits a) (h : s₀.Aside s) : s₀.Aside (s.setFld a hi lo v) := h.setReg apart

theorem setFlag {a i b} (apart : BesideUnits a) (h : s₀.Aside s) : s₀.Aside (s.setFlag a i b) := h.setReg apart

theorem count {a} (apart : BesideUnits a) (h : s₀.Aside s) : s₀.Aside (s.count a) := by
  unfold State.count State.countBy
  exact ite (h.setReg apart) (h.setReg apart)

theorem raise {i} (h : s₀.Aside s) : s₀.Aside (s.raise i) := h.setFlag (by decide)

theorem drawStatus (h : s₀.Aside s) : s₀.Aside s.drawStatus.2 := h.beside

/-- The bit of a dropped write in a port's status. -/
theorem setTold {p x} (h : s₀.Aside s) : s₀.Aside (s.setFlag (Adr.APORT_STAT p) 6 x) := by
  have not0 : Adr.FAULT_RETIRED0 ≠ Adr.APORT_STAT p := by unfold Adr.FAULT_RETIRED0 Adr.APORT_STAT; omega
  have not1 : Adr.FAULT_RETIRED1 ≠ Adr.APORT_STAT p := by unfold Adr.FAULT_RETIRED1 Adr.APORT_STAT; omega
  by_cases same : Adr.FAULT_CMDRES = Adr.APORT_STAT p
  · refine ⟨h.queue, h.spe, h.flash, h.lram, h.cores, h.test, fun k => ?_, fun i bit => ?_⟩
    · rw [← h.retired, State.retired, State.retired, State.flag_eq_of_reg (s.reg_setFlag_other not0 _ _),
        State.flag_eq_of_reg (s.reg_setFlag_other not1 _ _)]
    · rw [← same, s.flag_setFlag_other bit (by decide), h.result i bit]
  · exact h.setFlag ⟨not0.symm, not1.symm, fun e => same e.symm⟩

/-! ### Records on source rings -/

theorem setStale (h : s₀.Aside s) : s₀.Aside s.setStale := by
  unfold State.setStale
  exact ite (h.setFlag (by decide)).beside (h.setFlag (by decide))

theorem memPut {a l} (h : s₀.Aside s) : s₀.Aside (s.memPut a l) := by
  unfold State.memPut
  exact ite (ite h.setStale h).beside h

theorem tellLost {x} (h : s₀.Aside s) : s₀.Aside (s.tellLost x) := by
  unfold State.tellLost
  exact ite (h.setFlag (by decide)).setTold (h.setFlag (by decide))

theorem putPart {master port a l} (h : s₀.Aside s) : s₀.Aside (s.putPart master port a l).2 := by
  unfold State.putPart State.setGroup
  dsimp only
  split
  · exact h.beside.memPut
  · exact h.beside.memPut.foldl fun h => h.tellLost

theorem basinPut {master port a l} (h : s₀.Aside s) : s₀.Aside (s.basinPut master port a l).2 := by
  unfold State.basinPut
  exact h.foldl_snd fun h => h.putPart

theorem setRing {q r} (h : s₀.Aside s) : s₀.Aside (s.setRing q r) := h.beside

theorem loseEvent {q} (source : q < 12) (h : s₀.Aside s) : s₀.Aside (s.loseEvent q) := by
  unfold State.loseEvent
  exact h.setRing.count (by unfold BesideUnits Adr.DSP_SRCLOST Adr.FAULT_RETIRED0 Adr.FAULT_RETIRED1 Adr.FAULT_CMDRES; omega)

theorem post {q record} (source : q < 12) (h : s₀.Aside s) : s₀.Aside (s.post q record) := by
  unfold State.post State.offer State.writeEntry
  exact ite_snd (h.loseEvent source) (ite_snd (h.loseEvent source) h.basinPut.setRing.setRing)

theorem postFault {code engine status cause arg} (h : s₀.Aside s) : s₀.Aside (s.postFault code engine status cause arg) := by
  unfold State.postFault
  exact h.raise.post (by decide)

theorem logFault {type engine status arg0 arg1 arg2} (h : s₀.Aside s) : s₀.Aside (s.logFault type engine status arg0 arg1 arg2) := by
  unfold State.logFault
  exact ite h.setLogq (h.count (by decide))

theorem tstat {code detail status value} (h : s₀.Aside s) : s₀.Aside (s.tstat code detail status value) := h.post (by decide)

theorem anaPost {code channel status value} (h : s₀.Aside s) : s₀.Aside (s.anaPost code channel status value) := h.post (by decide)

theorem apPost {code port status dir value} (h : s₀.Aside s) : s₀.Aside (s.apPost code port status dir value) := h.post (by decide)

/-! ### Trail ports (R264, R292) -/

theorem setPort {p f} (h : s₀.Aside s) : s₀.Aside (s.setPort p f) := h.beside

theorem cutCopy {p} (h : s₀.Aside s) : s₀.Aside (s.cutCopy p) := by
  unfold State.cutCopy State.sentBad
  split
  · split
    · exact ite h.setPort.setPort.setPort h.setPort.setPort
    · exact h.setPort
  · exact h

theorem besideUnits_pstat (p : Port) : BesideUnits (Adr.TRAIL_PSTAT (portIx p)) := by
  cases p <;> decide

theorem setLink {p x} (h : s₀.Aside s) : s₀.Aside (s.setLink p x) := by
  unfold State.setLink
  exact ite h (h.setFld (besideUnits_pstat p)).tstat

theorem setTrailFlag {i b code} (h : s₀.Aside s) : s₀.Aside (s.setTrailFlag i b code) := by
  unfold State.setTrailFlag
  exact ite h (h.setFlag (by decide)).raise.tstat

theorem judgeArmed (h : s₀.Aside s) : s₀.Aside s.judgeArmed := by
  unfold State.judgeArmed State.setRole
  exact ite h (h.setFlag (by decide)).tstat

theorem portDown {p x} (h : s₀.Aside s) : s₀.Aside (s.portDown p x) := by
  unfold State.portDown
  exact (h.cutCopy.setPort.setFlag (besideUnits_pstat p)).setLink.setTrailFlag.judgeArmed

/-! ### Work items (R219, R222) -/

theorem freeItem {i} (h : s₀.Aside s) : s₀.Aside (s.freeItem i) := by
  unfold State.freeItem
  exact beside (ite h.beside.setRing h.beside)

theorem endOne {i endCode status pc core cause cycles} (h : s₀.Aside s) : s₀.Aside (s.endOne i endCode status pc core cause cycles).2 := by
  unfold State.endOne
  exact h.freeItem.beside

theorem cascadeList {n l} (h : s₀.Aside s) : s₀.Aside (State.cascadeList n s l) := by
  induction n generalizing s l with
  | zero => exact h
  | succ n ih =>
    cases l with
    | nil => exact h
    | cons j l => exact ite (ih h.endOne) (ih h)

theorem writeRec {r} (h : s₀.Aside s) : s₀.Aside (s.writeRec r) := by
  unfold State.writeRec
  exact (h.basinPut.setFld (by decide)).raise

theorem writeRecs {l} (h : s₀.Aside s) : s₀.Aside (s.writeRecs l).2 := by
  induction l generalizing s with
  | nil => exact h
  | cons r l ih =>
    rw [State.writeRecs]
    exact ite_snd (ih (ite h.writeRec h)) h

theorem cancelItem {i cause} (h : s₀.Aside s) : s₀.Aside (s.cancelItem i cause) := by
  unfold State.cancelItem State.flushRecs
  exact h.endOne.cascadeList.writeRecs.beside

theorem cancelNoCore (h : s₀.Aside s) : s₀.Aside s.cancelNoCore := by
  unfold State.cancelNoCore
  exact h.foldl fun h => ite h.cancelItem h

/-! ### Units (R444, R446) -/

theorem besideUnits_aport {i : Nat} (port : i < 8) : BesideUnits (Adr.APORT_STAT i) ∧ BesideUnits (Adr.APORT_CTL i) := by
  unfold BesideUnits Adr.APORT_STAT Adr.APORT_CTL Adr.FAULT_RETIRED0 Adr.FAULT_RETIRED1 Adr.FAULT_CMDRES
  omega

theorem besideUnits_cout {i : Nat} (channel : i < 8) : BesideUnits (Adr.COUT_STAT i) ∧ BesideUnits (Adr.COUT_CTL i) := by
  unfold BesideUnits Adr.COUT_STAT Adr.COUT_CTL Adr.FAULT_RETIRED0 Adr.FAULT_RETIRED1 Adr.FAULT_CMDRES
  omega

theorem besideUnits_err (u : Nat) (unit : u < 22) : BesideUnits (Adr.FAULT_ERR u) := by
  unfold BesideUnits Adr.FAULT_ERR Adr.FAULT_RETIRED0 Adr.FAULT_RETIRED1 Adr.FAULT_CMDRES
  omega

theorem unitOf_aport {u : Nat} (low : ¬ u < 2) (high : u < 10) : (unitOf u).2 < 8 := by
  rw [unitOf, if_neg low, if_pos high]
  show u - 2 < 8
  omega

theorem unitOf_cout {u : Nat} (low : ¬ u < 14) (high : u < 22) : (unitOf u).2 < 8 := by
  rw [unitOf, if_neg (by omega), if_neg (by omega), if_neg low, if_pos high]
  show u - 14 < 8
  omega

theorem setSliceStat {k b} (h : s₀.Aside s) : s₀.Aside (s.setSliceStat k b) := by
  unfold State.setSliceStat
  exact ite (h.setFlag (by decide)) (h.setFlag (by decide))

/-- What a unit's own chapter does at its retirement touches the unit alone. -/
theorem takeOut {u} (h : s₀.Aside s) : s₀.Aside (s.takeOut u) := by
  unfold State.takeOut
  dsimp only
  split
  · exact ite h.portDown.beside h.portDown
  split
  · next low high =>
    obtain ⟨stat, -⟩ := besideUnits_aport (unitOf_aport low high)
    exact ((h.beside.setFlag stat).setFlag stat).raise.apPost
  split
  · exact h.beside.raise.anaPost
  split
  · next low high =>
    obtain ⟨stat, -⟩ := besideUnits_cout (unitOf_cout low high)
    exact (h.beside.setFlag stat).raise.anaPost
  · exact ite h.setSliceStat h.cancelNoCore

theorem putBack {u} (h : s₀.Aside s) : s₀.Aside (s.putBack u) := by
  unfold State.putBack
  dsimp only
  split
  · exact ite h.setPort.setLink h.setPort.setLink.beside
  split
  · next low high =>
    obtain ⟨stat, ctl⟩ := besideUnits_aport (unitOf_aport low high)
    exact ((h.setFlag ctl).setFlag stat).raise
  split
  · exact h.setFlag (by decide)
  split
  · next low high => exact h.setFld (besideUnits_cout (unitOf_cout low high)).2
  · exact ite h.setSliceStat h

end State.Aside
end Sys2Proof.Machine
end

/-!
SUPPORT. TEST, RETIRE and READMIT of a unit, and the end of a test (R443 to R446).
-/
section
namespace Sys2Proof.Machine

variable {s t : State} {src : Source} {k n op cause : Nat} {pass b : Bool}

/-! ### FAULT_CMD -/

theorem State.regStatus_faultCmd (role : s.roleStatus src Adr.FAULT_CMD 0 = 0) (known : op < 4) (unit : n < 64) :
    s.regStatus src Adr.FAULT_CMD (op + 2 ^ 8 * n) = 0 := by
  have row : regRow Adr.FAULT_CMD = some ⟨0x0200E004, 0x4, 1, 0, 1, 0, 0, 0, 0x3f03, 0, 0⟩ := by decide +kernel
  have defined : ∀ o : Fin 4, ∀ u : Fin 64, (o.val + 2 ^ 8 * u.val) &&& (0xFFFFFFFF - 0x3f03) = 0 := by decide +kernel
  have same : s.roleStatus src Adr.FAULT_CMD (op + 2 ^ 8 * n) = s.roleStatus src Adr.FAULT_CMD 0 := rfl
  rw [State.regStatus_own row (by decide) (same.trans role) rfl rfl (defined ⟨op, known⟩ ⟨n, unit⟩)]
  rfl

/-- FAULT_CMD written by a source of the right role: the command, and its status in CODE. -/
theorem State.writeBy_faultCmd (reach : s.reaches src = true) (role : s.roleStatus src Adr.FAULT_CMD 0 = 0) (known : op < 4) (unit : n < 64) :
    s.writeBy src Adr.FAULT_CMD (op + 2 ^ 8 * n) pass = (s.faultCmd op n pass).2.setFld Adr.FAULT_CMDRES 7 0 (s.faultCmd op n pass).1 := by
  have command : bits (op + 2 ^ 8 * n) 1 0 = op := by
    simp only [bits, Nat.shiftRight_eq_div_pow]
    omega
  have field : bits (op + 2 ^ 8 * n) 13 8 = n := by
    simp only [bits, Nat.shiftRight_eq_div_pow]
    omega
  rw [State.writeBy_command pass (by decide) (by decide) rfl reach (.inr (by decide)),
    State.regWrite1_command pass rfl (State.regStatus_faultCmd role known unit)]
  have carried : s.command src Adr.FAULT_CMD (op + 2 ^ 8 * n) pass = s.faultCmd op n pass := by
    rw [← congrArg₂ (s.faultCmd · · pass) command field]
    rfl
  rw [carried]
  rfl

section
variable (reach : s.reaches src = true) (role : s.roleStatus src Adr.FAULT_CMD 0 = 0) (u : BitVec 6)
include reach role

theorem exec_test : exec (.test src u) s =
    s.run fun s => (s.faultCmd 1 u.toNat true).2.setFld Adr.FAULT_CMDRES 7 0 (s.faultCmd 1 u.toNat true).1 := by
  have row : exec (.test src u) s = s.run fun s => s.writeBy src Adr.FAULT_CMD (1 + 2 ^ 8 * u.toNat) true := rfl
  rw [row, State.run, State.run, State.writeBy_faultCmd reach role (by decide) u.isLt]

theorem exec_retire : exec (.retire src u) s = s.run fun s => (s.retireUnit u.toNat 4).setFld Adr.FAULT_CMDRES 7 0 0 := by
  have row : exec (.retire src u) s = s.run fun s => s.writeBy src Adr.FAULT_CMD (2 + 2 ^ 8 * u.toNat) true := rfl
  rw [row, State.run, State.run, State.writeBy_faultCmd reach role (by decide) u.isLt]
  rfl

theorem exec_readmit : exec (.readmit src u pass) s =
    s.run fun s => (s.readmitOn u.toNat pass).2.setFld Adr.FAULT_CMDRES 7 0 (s.readmitOn u.toNat pass).1 := by
  have row : exec (.readmit src u pass) s = s.run fun s => s.writeBy src Adr.FAULT_CMD (3 + 2 ^ 8 * u.toNat) pass := rfl
  rw [row, State.run, State.run, State.writeBy_faultCmd reach role (by decide) u.isLt]
  rfl

end

/-! ### The bits of FAULT_RETIRED -/

theorem State.retired_setRetired (unit : n < 64) (other : k < 64) (b : Bool) : (s.setRetired n b).retired k = if k = n then b else s.retired k := by
  by_cases same : k = n
  · subst same
    rw [if_pos rfl, State.setRetired, State.retired]
    split
    · next low => rw [State.flag_setFlag _ _ _ _ (by omega)]
    · next high => rw [State.flag_setFlag _ _ _ _ (by omega)]
  · rw [if_neg same, State.setRetired, State.retired, State.retired]
    have not01 : Adr.FAULT_RETIRED0 ≠ Adr.FAULT_RETIRED1 := by decide
    split <;> split
    · rw [State.flag_setFlag_other _ same (by omega)]
    · rw [State.flag_eq_of_reg (State.reg_setFlag_other _ not01 _ _)]
    · rw [State.flag_eq_of_reg (State.reg_setFlag_other _ not01.symm _ _)]
    · rw [State.flag_setFlag_other _ (by omega) (by omega)]

theorem State.retired_setResult (hi lo v : Nat) : (s.setFld Adr.FAULT_CMDRES hi lo v).retired k = s.retired k := by
  rw [State.retired, State.retired, State.flag_eq_of_reg (s.reg_setFld_other (by decide) _ _ _), State.flag_eq_of_reg (s.reg_setFld_other (by decide) _ _ _)]

/-- A retirement that takes effect leaves the rest of the units' record as it was. -/
theorem State.retireNow_aside (notLast : ¬ (56 ≤ n ∧ s.liveCores = [n - 56])) : (s.setRetired n true).Aside (s.retireNow n cause) := by
  rw [State.retireNow]
  dsimp only
  rw [if_neg (by simpa using notLast)]
  exact (State.Aside.refl _).takeOut.drawStatus.logFault.drawStatus.postFault

theorem State.retireUnit_now (sound : s.retired n = false) (idle : 56 ≤ n → (s.coreAt (n - 56)).item = none) :
    s.retireUnit n cause = s.retireNow n cause := by
  rw [State.retireUnit, if_neg (ne_true_of_eq_false sound), if_neg]
  rw [Bool.and_eq_true, decide_eq_true_eq]
  rintro ⟨core, running⟩
  rw [idle core] at running
  exact absurd running (by decide)

end Sys2Proof.Machine
end

/-!
SUPPORT. The effects of TEST, RETIRE, READMIT and the end of a test on the units' record (R443 to R446).
-/
section
namespace Sys2Proof.Machine

variable {s t u v w : State} {src : Source} {k n c cause : Nat} {pass b : Bool}

/-! ### A unit marked in FAULT_RETIRED -/

/-- In t, unit n is marked b and CODE is c; no other unit, no core and no memory is touched. -/
structure State.Marks (s : State) (n : Nat) (b : Bool) (c : Nat) (t : State) : Prop where
  queue : t.pending = s.pending
  marked : t.retired n = b
  code : t.fld Adr.FAULT_CMDRES 7 0 = c
  others : ∀ k, k < 64 → k ≠ n → t.retired k = s.retired k
  spe : t.spe = s.spe
  flash : t.pack.flash = s.pack.flash
  lram : t.lram = s.lram
  cores : t.cores = s.cores

theorem State.setRetired_regsOnly (s : State) (n : Nat) (b : Bool) : s.RegsOnly (s.setRetired n b) := by
  unfold State.setRetired
  split
  · exact (State.RegsOnly.refl s).setFlag _ _ _
  · exact (State.RegsOnly.refl s).setFlag _ _ _

/-- The status in CODE is written last. -/
theorem State.Aside.marks (base : s.Aside w) (unit : n < 64) (h : (w.setRetired n b).Aside v) (small : c < 2 ^ 8) :
    s.Marks n b c (v.setFld Adr.FAULT_CMDRES 7 0 c) := by
  have marked : w.RegsOnly (w.setRetired n b) := w.setRetired_regsOnly n b
  exact {
    queue := by rw [State.setFld_pending, h.queue, marked, ← base.queue]
    marked := by rw [State.retired_setResult, h.retired, State.retired_setRetired unit unit, if_pos rfl]
    code := by rw [State.fld_setFld_mod (by decide) (by decide), Nat.mod_eq_of_lt small]
    others := fun k other apart => by
      rw [State.retired_setResult, h.retired, State.retired_setRetired unit other, if_neg apart, base.retired]
    spe := by rw [State.setFld_spe, h.spe, marked, ← base.spe]
    flash := by rw [State.setFld_pack, h.flash, marked, ← base.flash]
    lram := by rw [State.setFld_lram, h.lram, marked, ← base.lram]
    cores := by rw [State.setFld_cores, h.cores, marked, ← base.cores] }

theorem State.Aside.marks_kept (h : s.Aside v) (marked : s.retired n = b) (small : c < 2 ^ 8) : s.Marks n b c (v.setFld Adr.FAULT_CMDRES 7 0 c) where
  queue := by rw [State.setFld_pending, h.queue]
  marked := by rw [State.retired_setResult, h.retired, marked]
  code := by rw [State.fld_setFld_mod (by decide) (by decide), Nat.mod_eq_of_lt small]
  others := fun k _ _ => by rw [State.retired_setResult, h.retired]
  spe := by rw [State.setFld_spe, h.spe]
  flash := by rw [State.setFld_pack, h.flash]
  lram := by rw [State.setFld_lram, h.lram]
  cores := by rw [State.setFld_cores, h.cores]

/-! ### RETIRE -/

theorem State.retireNow_marks (unit : n < 64) (notLast : ¬ (56 ≤ n ∧ s.liveCores = [n - 56])) (cause : Nat) :
    s.Marks n true 0 ((s.retireNow n cause).setFld Adr.FAULT_CMDRES 7 0 0) :=
  (State.Aside.refl s).marks unit (State.retireNow_aside notLast) (by decide)

/-- The last core is never retired: the fault is logged. -/
theorem State.retireNow_last (core : 56 ≤ n) (last : s.liveCores = [n - 56]) (cause : Nat) : s.Aside (s.retireNow n cause) := by
  rw [State.retireNow]
  dsimp only
  rw [if_pos (by simp [core, last])]
  exact (State.Aside.refl s).logFault

/-! ### READMIT -/

/-- The result bit of a test that READMIT runs. -/
theorem State.Marks.of_result (h : (s.drawStatus.2.setFlag Adr.FAULT_CMDRES 9 pass).Marks n b c t) : s.Marks n b c t := by
  have retired (k : Nat) : (s.drawStatus.2.setFlag Adr.FAULT_CMDRES 9 pass).retired k = s.retired k := State.retired_setResult (s := s.drawStatus.2) 9 9 _
  exact {
    queue := h.queue
    marked := h.marked
    code := h.code
    others := fun k unit apart => (h.others k unit apart).trans (retired k)
    spe := h.spe
    flash := h.flash
    lram := h.lram
    cores := h.cores }

theorem State.readmitOn_sound (sound : s.retired n = false) (pass : Bool) : s.readmitOn n pass = (0, s) := by
  have status : s.readmitStatus n = 0 := by simp [State.readmitStatus, sound]
  rw [State.readmitOn]
  simp [status, sound]

section
variable (retired : s.retired n = true) (unit : n < 64)
include retired unit

/-- A Trail port has no test: it comes back. -/
theorem State.readmitOn_port (port : n < 2) (inserted : s.inserted = true) (pass : Bool) :
    s.Marks n false 0 ((s.readmitOn n pass).2.setFld Adr.FAULT_CMDRES 7 0 (s.readmitOn n pass).1) := by
  have status : s.readmitStatus n = 0 := by simp [State.readmitStatus, retired, port, inserted]
  have untested : hasTest n = false := by simp [hasTest]; omega
  have effect : (s.readmitOn n pass).1 = 0 ∧ (s.setRetired n false).Aside (s.readmitOn n pass).2 := by
    rw [State.readmitOn]
    simp only [status, retired, untested, ne_eq, not_true_eq_false, if_false, Bool.not_true, Bool.false_and, Bool.false_eq_true]
    exact ⟨trivial, (State.Aside.refl _).setTimes.putBack.drawStatus.logFault.drawStatus.postFault⟩
  rw [effect.1]
  exact (State.Aside.refl s).marks unit effect.2 (by decide)

/-- A unit with a test comes back where the test passes, and stays retired where it fails. -/
theorem State.readmitOn_tested (tested : 2 ≤ n) (service : s.mode = 4) (free : s.flt.testUnit = none) (pass : Bool) :
    s.Marks n (!pass) (if pass = false then 0x09 else 0x00) ((s.readmitOn n pass).2.setFld Adr.FAULT_CMDRES 7 0 (s.readmitOn n pass).1) := by
  have status : s.readmitStatus n = 0 := by
    have notPort : ¬ n < 2 := by omega
    simp [State.readmitStatus, retired, notPort, firstFail, service, free]
  have test : hasTest n = true := decide_eq_true tested
  have record := (State.Aside.refl (s.drawStatus.2.setFlag Adr.FAULT_CMDRES 9 pass)).postFault (code := 0x07) (engine := (unitOf n).1)
    (status := s.drawStatus.1) (cause := 0) (arg := (unitOf n).2)
  refine State.Marks.of_result (pass := pass) ?_
  cases pass with
  | false =>
    have effect : s.readmitOn n false = (St.retired, (s.drawStatus.2.setFlag Adr.FAULT_CMDRES 9 false).testRecord n s.drawStatus.1) := by
      rw [State.readmitOn]
      simp [status, retired, test]
    rw [effect]
    exact record.marks_kept ((State.retired_setResult (s := s.drawStatus.2) 9 9 _).trans retired) (by decide)
  | true =>
    have effect : (s.readmitOn n true).1 = 0 ∧
        (((s.drawStatus.2.setFlag Adr.FAULT_CMDRES 9 true).testRecord n s.drawStatus.1).setRetired n false).Aside (s.readmitOn n true).2 := by
      rw [State.readmitOn]
      simp only [status, retired, test, ne_eq, not_true_eq_false, if_false, Bool.not_true, Bool.and_false, Bool.false_eq_true, if_true]
      exact ⟨trivial, (State.Aside.refl _).setTimes.putBack.drawStatus.logFault.drawStatus.postFault⟩
    rw [effect.1]
    exact record.marks unit effect.2 (by decide)

end

/-! ### TEST and its end -/

/-- The test of unit n runs. -/
structure State.Tests (s : State) (n : Nat) (t : State) : Prop where
  flt : t.flt = { s.flt with testUnit := some n }
  running : t.flag Adr.FAULT_CMDRES 8 = true
  code : t.fld Adr.FAULT_CMDRES 7 0 = 0
  core : 56 ≤ n → (t.coreAt (n - 56)).testing = true
  only : t = { s with regs := t.regs, cores := t.cores, flt := t.flt }
  reg : ∀ a, a ≠ Adr.FAULT_CMDRES → t.reg a = s.reg a

theorem State.coreAt_setCore {j : Nat} (inside : j < s.cores.length) (x : Core) : (s.setCore j x).coreAt j = x := by
  simp [State.coreAt, State.setCore, inside]

/-- The cores when a test of unit n begins or ends: a core takes no item while its test runs. -/
def State.coresTesting (s : State) (n : Nat) (x : Bool) : List Core :=
  if 56 ≤ n then s.cores.set (n - 56) { s.coreAt (n - 56) with testing := x } else s.cores

theorem State.coreAt_coresTesting (core : 56 ≤ n) (inside : n - 56 < s.cores.length) (cores : t.cores = s.coresTesting n b) :
    t.coreAt (n - 56) = { s.coreAt (n - 56) with testing := b } := by
  rw [State.coreAt, cores, State.coresTesting, if_pos core]
  simp [inside]

theorem State.testStart_eq (s : State) (n : Nat) : s.testStart n =
    { s.setFlag Adr.FAULT_CMDRES 8 true with flt := { s.flt with testUnit := some n }, cores := s.coresTesting n true } := by
  have cores := s.setFlag_cores Adr.FAULT_CMDRES 8 true
  rw [State.testStart, State.coresTesting]
  generalize s.setFlag Adr.FAULT_CMDRES 8 true = u at *
  dsimp only
  split
  · rw [← cores, State.setCore, State.coreAt, State.coreAt, cores]
  · rw [← cores]

/-- A change of registers, cores and the unit tests alone. -/
theorem State.RegsOnly.only_cores_flt {c : List Core} {f : FaultRt} (h : s.RegsOnly u) (g : ({ u with flt := f, cores := c } : State).RegsOnly t) :
    t = { s with regs := t.regs, cores := t.cores, flt := t.flt } := by
  rw [g, h]

theorem State.testStart_tests (unit : n < 64) (units : s.cores.length = 8) : s.Tests n ((s.testStart n).setFld Adr.FAULT_CMDRES 7 0 0) := by
  have regs : s.RegsOnly (s.setFlag Adr.FAULT_CMDRES 8 true) := (State.RegsOnly.refl s).setFlag _ _ _
  have flag := s.flag_setFlag Adr.FAULT_CMDRES 8 true (by decide)
  have other (a : Nat) (apart : a ≠ Adr.FAULT_CMDRES) := s.reg_setFlag_other apart 8 true
  rw [State.testStart_eq]
  generalize s.setFlag Adr.FAULT_CMDRES 8 true = u at *
  exact {
    flt := by rw [State.setFld_flt]
    running := by
      rw [State.flag_setFld_apart (by decide) (by decide) (.inr (by decide))]
      exact flag
    code := State.fld_setFld_mod (by decide) (by decide) 0
    core := fun core => by
      rw [State.coreAt_coresTesting (s := s) (b := true) core (by omega) (State.setFld_cores _ _ _ _ _)]
    only := regs.only_cores_flt ((State.RegsOnly.refl _).setReg _ _)
    reg := fun a apart => (State.reg_setFld_other _ apart _ _ _).trans (other a apart) }

/-- The test of unit k has ended. -/
structure State.TestEnded (s : State) (k : Nat) (pass : Bool) (t : State) : Prop where
  queue : t.pending = s.pending
  test : t.flt.testUnit = none
  stopped : t.flag Adr.FAULT_CMDRES 8 = false
  result : t.flag Adr.FAULT_CMDRES 9 = pass
  cores : t.cores = s.coresTesting k false

theorem State.TestEnded.aside (h : s.TestEnded k pass t) (g : t.Aside u) : s.TestEnded k pass u :=
  ⟨g.queue.trans h.queue, g.test.trans h.test, (g.result 8 (by decide)).trans h.stopped, (g.result 9 (by decide)).trans h.result,
    g.cores.trans h.cores⟩

theorem State.TestEnded.setRetired (h : s.TestEnded k pass t) (n : Nat) (b : Bool) : s.TestEnded k pass (t.setRetired n b) := by
  have marked := t.setRetired_regsOnly n b
  have reg : (t.setRetired n b).reg Adr.FAULT_CMDRES = t.reg Adr.FAULT_CMDRES := by
    unfold State.setRetired
    split
    · exact State.reg_setFlag_other _ (by decide) _ _
    · exact State.reg_setFlag_other _ (by decide) _ _
  exact ⟨by rw [marked, ← h.queue], by rw [marked, ← h.test], (State.flag_eq_of_reg reg).trans h.stopped,
    (State.flag_eq_of_reg reg).trans h.result, by rw [marked, ← h.cores]⟩

/-- The test is over, its result shown, the core free to take items. -/
def State.testStopped (s : State) (k : Nat) (pass : Bool) : State :=
  let t := ({ s.setFlag Adr.FAULT_CMDRES 8 false with flt := { s.flt with testUnit := none } } : State).setFlag Adr.FAULT_CMDRES 9 pass
  if 56 ≤ k then t.setCore (k - 56) { t.coreAt (k - 56) with testing := false } else t

/-- The end of a test up to its record. -/
def State.testOver (s : State) (k : Nat) (pass : Bool) : State :=
  let t := s.testStopped k pass
  (t.drawStatus.2.setFld Adr.FAULT_CMDRES 7 0 t.drawStatus.1).testRecord k t.drawStatus.1

theorem State.setFlag_with_flt (f : FaultRt) (a i : Nat) (b : Bool) :
    ({ u with flt := f } : State).setFlag a i b = { u.setFlag a i b with flt := f } := rfl

theorem State.testStopped_eq (s : State) (k : Nat) (pass : Bool) : s.testStopped k pass =
    { (s.setFlag Adr.FAULT_CMDRES 8 false).setFlag Adr.FAULT_CMDRES 9 pass with
      flt := { s.flt with testUnit := none }, cores := s.coresTesting k false } := by
  have cores := s.setFlag_cores Adr.FAULT_CMDRES 8 false
  rw [State.testStopped, State.coresTesting]
  generalize s.setFlag Adr.FAULT_CMDRES 8 false = u at *
  dsimp only
  have kept := u.setFlag_cores Adr.FAULT_CMDRES 9 pass
  rw [State.setFlag_with_flt]
  generalize u.setFlag Adr.FAULT_CMDRES 9 pass = v at *
  split
  · rw [← cores, ← kept, State.setCore, State.coreAt, State.coreAt, ← cores, ← kept]
  · rw [← cores, ← kept]

theorem State.testEnd_eq (running : s.flt.testUnit = some k) (idle : 56 ≤ k → (s.coreAt (k - 56)).item = none) (pass : Bool) :
    s.testEnd pass = if pass then s.testOver k pass else ((s.testOver k pass).chargeTest k).retireUnit k 2 := by
  have free : ¬ (56 ≤ k && (s.coreAt (k - 56)).item.isSome) = true := by
    rw [Bool.and_eq_true, decide_eq_true_eq]
    rintro ⟨core, busy⟩
    rw [idle core] at busy
    exact absurd busy (by decide)
  rw [State.testEnd, running]
  dsimp only
  rw [if_neg free]
  rfl

theorem State.testStopped_reg {a : Nat} : (s.testStopped k pass).reg a =
    ((s.setFlag Adr.FAULT_CMDRES 8 false).setFlag Adr.FAULT_CMDRES 9 pass).reg a := by
  rw [State.testStopped_eq]
  generalize (s.setFlag Adr.FAULT_CMDRES 8 false).setFlag Adr.FAULT_CMDRES 9 pass = u
  rfl

theorem State.testStopped_ended (s : State) (k : Nat) (pass : Bool) : s.TestEnded k pass (s.testStopped k pass) where
  queue := by rw [State.testStopped_eq, State.setFlag_pending, State.setFlag_pending]
  test := by rw [State.testStopped_eq]
  stopped := by
    rw [State.flag_eq_of_reg State.testStopped_reg, State.flag_setFlag_other _ (by decide) (by decide), State.flag_setFlag _ _ _ _ (by decide)]
  result := by rw [State.flag_eq_of_reg State.testStopped_reg, State.flag_setFlag _ _ _ _ (by decide)]
  cores := by rw [State.testStopped_eq]

theorem State.testStopped_retired (s : State) (k n : Nat) (pass : Bool) : (s.testStopped k pass).retired n = s.retired n := by
  have kept : ∀ a, a ≠ Adr.FAULT_CMDRES → (s.testStopped k pass).reg a = s.reg a := fun a apart => by
    rw [State.testStopped_reg, State.reg_setFlag_other _ apart, State.reg_setFlag_other _ apart]
  rw [State.retired, State.retired, State.flag_eq_of_reg (kept _ (by decide)), State.flag_eq_of_reg (kept _ (by decide))]

/-- The status of the test, a free value, is shown in CODE and told. -/
theorem State.testOver_aside (s : State) (k : Nat) (pass : Bool) :
    ((s.testStopped k pass).drawStatus.2.setFld Adr.FAULT_CMDRES 7 0 (s.testStopped k pass).drawStatus.1).Aside (s.testOver k pass) :=
  (State.Aside.refl _).postFault

theorem State.testOver_retired (s : State) (k n : Nat) (pass : Bool) : (s.testOver k pass).retired n = s.retired n :=
  ((s.testOver_aside k pass).retired n).trans ((State.retired_setResult 7 0 _).trans (s.testStopped_retired k n pass))

theorem State.testOver_ended (s : State) (k : Nat) (pass : Bool) : s.TestEnded k pass (s.testOver k pass) := by
  have ended := s.testStopped_ended k pass
  have above (t : State) (i v : Nat) (apart : 7 < i) : (t.setFld Adr.FAULT_CMDRES 7 0 v).flag Adr.FAULT_CMDRES i = t.flag Adr.FAULT_CMDRES i :=
    State.flag_setFld_apart (by decide) (by decide) (.inr apart) v
  refine State.TestEnded.aside ⟨?_, ?_, ?_, ?_, ?_⟩ (s.testOver_aside k pass)
  · rw [State.setFld_pending, ← ended.queue]
    rfl
  · rw [State.setFld_flt, ← ended.test]
    rfl
  · exact (above _ 8 _ (by decide)).trans ended.stopped
  · exact (above _ 9 _ (by decide)).trans ended.result
  · rw [State.setFld_cores, ← ended.cores]
    rfl

theorem State.chargeTest_aside (u : Nat) : s.Aside (s.chargeTest u) := by
  unfold State.chargeTest
  split
  · next charged =>
    have port : u < 22 := by
      rw [Bool.and_eq_true, decide_eq_true_eq] at charged
      exact charged.1
    exact (State.Aside.refl s).count (State.Aside.besideUnits_err u port)
  · exact .refl s

theorem State.liveCores_congr (same : ∀ j, t.retired j = s.retired j) : t.liveCores = s.liveCores := by
  have core (u : State) (j : Nat) : u.coreRetired j = u.retired (56 + j) := by
    rw [State.coreRetired, State.retired, if_neg (by omega), show 56 + j - 32 = 24 + j by omega]
  unfold State.liveCores
  refine List.filter_congr fun j _ => ?_
  rw [core, core, same]

/-- The end of the running test: its result, and the retirement of a unit that failed. -/
theorem State.testEnd_ended (running : s.flt.testUnit = some k) (unit : k < 64) (units : s.cores.length = 8)
    (idle : 56 ≤ k → (s.coreAt (k - 56)).item = none ∧ s.liveCores ≠ [k - 56]) (pass : Bool) :
    s.TestEnded k pass (s.testEnd pass) ∧ ((s.testEnd pass).retired k = true ↔ s.retired k = true ∨ pass = false) := by
  have told := s.testOver_ended k pass
  rw [State.testEnd_eq running (fun core => (idle core).1)]
  cases pass with
  | true => simp [told, State.testOver_retired]
  | false =>
    simp only [Bool.false_eq_true, if_false, or_true, iff_true]
    have charged := State.chargeTest_aside (s := s.testOver k false) k
    have same (j : Nat) : ((s.testOver k false).chargeTest k).retired j = s.retired j := (charged.retired j).trans (s.testOver_retired k j false)
    have ended := told.aside charged
    generalize (s.testOver k false).chargeTest k = w at *
    by_cases gone : w.retired k = true
    · rw [State.retireUnit, if_pos gone]
      exact ⟨ended, gone⟩
    · have free : 56 ≤ k → (w.coreAt (k - 56)).item = none := fun core => by
        rw [State.coreAt_coresTesting core (by omega) ended.cores]
        exact (idle core).1
      have notLast : ¬ (56 ≤ k ∧ w.liveCores = [k - 56]) := by
        rw [State.liveCores_congr same]
        exact fun last => (idle last.1).2 last.2
      have retired := State.retireNow_aside (cause := 2) notLast
      rw [State.retireUnit_now (Bool.eq_false_iff.mpr gone) free]
      refine ⟨(ended.setRetired k true).aside retired, ?_⟩
      rw [retired.retired, State.retired_setRetired unit unit, if_pos rfl]

end Sys2Proof.Machine
end

/-!
SUPPORT. TEST, RETIRE, READMIT and TEST_DONE by the unit and its state (R443 to R446).
-/
section
namespace Sys2Proof.Machine

variable {s t : State} {src : Source} {n c : Nat} {pass : Bool}

theorem State.cores_of_shaped (shaped : s.shaped = true) : s.cores.length = 8 := by
  obtain ⟨cores, -⟩ := State.shaped_iff.mp shaped
  exact cores

theorem State.Tests.pending (h : s.Tests n t) : t.pending = s.pending := by rw [h.only]

theorem State.faultCmd_test_refused (status : s.testStatus n = c) (bad : c ≠ 0) : s.faultCmd 1 n pass = (c, s) := by
  rw [State.faultCmd, if_pos rfl]
  dsimp only
  rw [status, if_pos bad]

theorem State.faultCmd_test (fine : s.testStatus n = 0) : s.faultCmd 1 n pass = (0, s.testStart n) := by
  rw [State.faultCmd, if_pos rfl]
  dsimp only
  rw [fine]
  rfl

theorem exec_testDone (s : State) (pass : Bool) : exec (.testDone pass) s = s.run fun s => s.testEnd pass := rfl

theorem State.testEnd_idle (none : s.flt.testUnit = none) : s.testEnd pass = s := by
  unfold State.testEnd
  rw [none]

/-- Settles O54: each row by the unit's state; what a retirement or a readmission leaves alone is State.Aside. -/
theorem unitsAreTestedAndRetired : Obligations.UnitsAreTestedAndRetired := by
  unfold Obligations.UnitsAreTestedAndRetired
  intro s src u reach role shaped n code idle
  have unit : n < 64 := u.isLt
  have units := State.cores_of_shaped shaped
  have testRefused {c : Nat} (status : s.testStatus n = c) (bad : c ≠ 0) : exec (.test src u) s = .next (code s c) := by
    rw [exec_test reach role]
    exact State.run_keeping (by rw [State.faultCmd_test_refused status bad]) (s.setFld_pending _ _ _ _)
  have retire {t : State} (effect : (s.retireUnit n 4).setFld Adr.FAULT_CMDRES 7 0 0 = t) (queue : t.pending = s.pending) :
      exec (.retire src u) s = .next t := by
    rw [exec_retire reach role]
    exact State.run_keeping effect queue
  refine ⟨fun port => testRefused ?_ (by decide), fun other away => testRefused ?_ (by decide), fun other service busy => testRefused ?_ (by decide),
    fun other service free => ?_, fun retired => ?_, fun sound apart => ?_, fun sound core busy => ?_, fun sound core idle last => ?_, fun pass sound => ?_,
    fun pass retired allowed => ?_, fun pass none => ?_, fun pass k running unit idle => ?_⟩
  · have untested : hasTest n = false := decide_eq_false (by omega)
    simp [State.testStatus, firstFail, untested, St.range]
  · have test : hasTest n = true := decide_eq_true other
    simp [State.testStatus, firstFail, test, away, St.mode]
  · have test : hasTest n = true := decide_eq_true other
    simp [State.testStatus, firstFail, test, service, busy, Option.isSome_iff_ne_none, St.busy]
  · have test : hasTest n = true := decide_eq_true other
    have fine : s.testStatus n = 0 := by simp [State.testStatus, firstFail, test, service, free]
    have tests := State.testStart_tests unit units
    refine ⟨_, ?_, tests.flt, tests.running, tests.code, tests.core, tests.only, tests.reg⟩
    rw [exec_test reach role]
    exact State.run_keeping (by rw [State.faultCmd_test fine]) tests.pending
  · exact retire (by rw [State.retireUnit, if_pos retired]) (s.setFld_pending _ _ _ _)
  · have free (core : 56 ≤ n) : (s.coreAt (n - 56)).item = none := (apart.resolve_left (by omega)).1
    have notLast : ¬ (56 ≤ n ∧ s.liveCores = [n - 56]) := fun ⟨core, last⟩ => (apart.resolve_left (by omega)).2 last
    have marks := State.retireNow_marks unit notLast 4
    exact ⟨_, retire (by rw [State.retireUnit_now sound free]) marks.queue, marks.marked, marks.code, marks.others, marks.spe, marks.flash, marks.lram⟩
  · refine retire ?_ ?_
    · have running : (56 ≤ n && (s.coreAt (n - 56)).item.isSome) = true := by
        rw [Bool.and_eq_true, decide_eq_true_eq]
        exact ⟨core, Option.isSome_iff_ne_none.mpr busy⟩
      rw [State.retireUnit, if_neg (ne_true_of_eq_false sound), if_pos running]
      rfl
    · exact State.setFld_pending _ _ _ _ _
  · have kept := State.retireNow_last core last 4
    have marks := kept.marks_kept (c := 0) sound (by decide)
    exact ⟨_, retire (by rw [State.retireUnit_now sound fun _ => idle]) marks.queue, marks.marked⟩
  · rw [exec_readmit reach role]
    exact State.run_keeping (by rw [State.readmitOn_sound sound]) (s.setFld_pending _ _ _ _)
  · rw [exec_readmit reach role]
    split at allowed
    · next port =>
      have marks := State.readmitOn_port retired unit port allowed pass
      have notTested : ¬ (2 ≤ n ∧ pass = false) := by omega
      refine ⟨_, State.run_keeping rfl marks.queue, ?_, ?_, marks.others, marks.spe, marks.flash, marks.lram, marks.cores⟩
      · rw [marks.marked]
        simp [notTested]
      · rw [marks.code, if_neg notTested]
    · next tested =>
      have marks := State.readmitOn_tested retired unit (by omega) allowed.1 allowed.2 pass
      have twoUp : 2 ≤ n := by omega
      refine ⟨_, State.run_keeping rfl marks.queue, ?_, ?_, marks.others, marks.spe, marks.flash, marks.lram, marks.cores⟩
      · rw [marks.marked]
        simp [twoUp]
      · rw [marks.code]
        simp [twoUp]
  · rw [exec_testDone]
    exact State.run_same (State.testEnd_idle none)
  · obtain ⟨ended, marked⟩ := State.testEnd_ended running unit units idle pass
    refine ⟨_, (exec_testDone s pass).trans (State.run_keeping rfl ended.queue), ended.test, ended.stopped, ended.result, marked, fun core => ?_⟩
    rw [State.coreAt_coresTesting core (by omega) ended.cores]

end Sys2Proof.Machine
end

/-!
SUPPORT. What passes beside the timers (R384 to R396): records, errors of the Basin, the sweep, the control outputs' steps and the watchdog leave the channels, the
control and status of each channel, and the time alone.
-/
section
namespace Sys2Proof.Machine

/-- A register that is neither the control nor the status of a timer channel. -/
abbrev BesideTimers (a : Nat) : Prop := a % 32 = 8 ∨ a < 0x0200C000 ∨ 0x0200C200 ≤ a

theorem BesideTimers.ne_ctl {a n : Nat} (beside : BesideTimers a) (channel : n < 16) : Adr.TMR_CTL n ≠ a := by
  unfold BesideTimers at beside
  unfold Adr.TMR_CTL
  omega

theorem BesideTimers.ne_stat {a n : Nat} (beside : BesideTimers a) (channel : n < 16) : Adr.TMR_STAT n ≠ a := by
  unfold BesideTimers at beside
  unfold Adr.TMR_STAT
  omega

/-- In s the time and the timers stand as in s₀. -/
structure State.TimersStand (s₀ s : State) : Prop where
  time : s.time = s₀.time
  clk : s.clk = s₀.clk
  tmr : s.tmr = s₀.tmr
  ctl : ∀ n, n < 16 → s.reg (Adr.TMR_CTL n) = s₀.reg (Adr.TMR_CTL n)
  stat : ∀ n, n < 16 → s.reg (Adr.TMR_STAT n) = s₀.reg (Adr.TMR_STAT n)

namespace State.TimersStand
variable {s₀ s t : State}

theorem refl (s : State) : s.TimersStand s := ⟨rfl, rfl, rfl, fun _ _ => rfl, fun _ _ => rfl⟩

theorem trans (h : s₀.TimersStand s) (g : s.TimersStand t) : s₀.TimersStand t :=
  ⟨g.time.trans h.time, g.clk.trans h.clk, g.tmr.trans h.tmr, fun n channel => (g.ctl n channel).trans (h.ctl n channel),
    fun n channel => (g.stat n channel).trans (h.stat n channel)⟩

theorem ite {c : Prop} [Decidable c] (h : s₀.TimersStand s) (g : s₀.TimersStand t) : s₀.TimersStand (if c then s else t) := by
  split <;> assumption

theorem ite_snd {α : Type} {x y : α × State} {c : Prop} [Decidable c] (h : s₀.TimersStand x.2) (g : s₀.TimersStand y.2) :
    s₀.TimersStand (if c then x else y).2 := by
  split <;> assumption

theorem foldl {α : Type} {f : State → α → State} {l : List α} (h : s₀.TimersStand s) (step : ∀ {t x}, s₀.TimersStand t → s₀.TimersStand (f t x)) :
    s₀.TimersStand (l.foldl f s) :=
  List.foldlRecOn (motive := fun t : State => s₀.TimersStand t) _ _ h fun _ stands _ _ => step stands

/-- What the timers are no part of. -/
theorem beside {q f b p m d c l e v x a o n r w k y z} (h : s₀.TimersStand s) : s₀.TimersStand { s with
    pending := q, fresh := f, sub := b, phase := p, basin := m, disp := d, cores := c, lram := l, lramEcc := e, voice := v, spe := x, trail := a,
    aports := o, ana := n, ser := r, power := w, pack := k, flt := y, host := z } := ⟨h.time, h.clk, h.tmr, h.ctl, h.stat⟩

theorem setReg {a v} (apart : BesideTimers a) (h : s₀.TimersStand s) : s₀.TimersStand (s.setReg a v) :=
  ⟨h.time, h.clk, h.tmr, fun n channel => (s.reg_setReg_other (apart.ne_ctl channel) v).trans (h.ctl n channel),
    fun n channel => (s.reg_setReg_other (apart.ne_stat channel) v).trans (h.stat n channel)⟩

theorem setFld {a hi lo v} (apart : BesideTimers a) (h : s₀.TimersStand s) : s₀.TimersStand (s.setFld a hi lo v) := h.setReg apart

theorem setFlag {a i b} (apart : BesideTimers a) (h : s₀.TimersStand s) : s₀.TimersStand (s.setFlag a i b) := h.setReg apart

theorem count {a} (apart : BesideTimers a) (h : s₀.TimersStand s) : s₀.TimersStand (s.count a) := by
  rw [State.count, State.countBy_eq_setReg]
  exact h.setReg apart

theorem raise {i} (h : s₀.TimersStand s) : s₀.TimersStand (s.raise i) := h.setFlag (by decide)

theorem drawStatus (h : s₀.TimersStand s) : s₀.TimersStand s.drawStatus.2 := h.beside

/-- Records on source rings pass beside the timers. -/
theorem posts (h : s₀.TimersStand s) (g : s.Posts t) : s₀.TimersStand t := by
  have port (a p : Nat) (place : a % 32 ≠ 8) : a ≠ Adr.APORT_STAT p := by unfold Adr.APORT_STAT; omega
  have above (a : Nat) (block : 0x0200C000 ≤ a) (place : a % 32 ≠ 8) : BesidePosts a :=
    besidePosts_above (Nat.lt_of_lt_of_le (by decide) block) fun p => port a p place
  have only := g.only
  refine h.trans ⟨by rw [only], by rw [only], by rw [only], fun n _ => ?_, fun n _ => ?_⟩
  · exact g.reg _ (above _ (by unfold Adr.TMR_CTL; omega) (by unfold Adr.TMR_CTL; omega))
  · exact g.reg _ (above _ (by unfold Adr.TMR_STAT; omega) (by unfold Adr.TMR_STAT; omega))

theorem post {q record} (source : q < 12) (h : s₀.TimersStand s) : s₀.TimersStand (s.post q record) := h.posts (State.posts_post source record)

theorem postFault {code engine status cause arg} (h : s₀.TimersStand s) : s₀.TimersStand (s.postFault code engine status cause arg) := by
  unfold State.postFault
  exact h.raise.post (by decide)

theorem logFault {type engine status arg0 arg1 arg2} (h : s₀.TimersStand s) :
    s₀.TimersStand (s.logFault type engine status arg0 arg1 arg2) := by
  unfold State.logFault
  exact ite h.beside (h.count (by decide))

/-! ### Errors of the Basin (R244 to R246) -/

theorem bankOf_lt (w : Nat) : bankOf w < 2 ^ 5 := by
  have field (hi lo : Nat) (narrow : hi + 1 - lo ≤ 5) : bits w hi lo < 2 ^ 5 :=
    Nat.lt_of_lt_of_le (Nat.mod_lt _ (Nat.two_pow_pos _)) (Nat.pow_le_pow_right (by decide) narrow)
  unfold bankOf
  exact Nat.xor_lt_two_pow (Nat.xor_lt_two_pow (Nat.xor_lt_two_pow (Nat.xor_lt_two_pow (field 4 0 (by decide)) (field 9 5 (by decide)))
    (field 14 10 (by decide))) (field 19 15 (by decide))) (field 21 20 (by decide))

theorem besideTimers_spare (w : Nat) : BesideTimers (Adr.BASIN_SPARE (bankOf w / 8)) := by
  have := bankOf_lt w
  unfold BesideTimers Adr.BASIN_SPARE
  omega

theorem remapRow {w} (h : s₀.TimersStand s) : s₀.TimersStand (s.remapRow w) := by
  unfold State.remapRow
  exact ite ((h.drawStatus.setFld (besideTimers_spare w)).setFlag (by decide)).beside.logFault.postFault
    (h.drawStatus.setFlag (by decide)).logFault.postFault

theorem chargeRow {w} (h : s₀.TimersStand s) : s₀.TimersStand (s.chargeRow w) := by
  unfold State.chargeRow
  exact ite h.remapRow h.beside

theorem correctWord {master w} (h : s₀.TimersStand s) : s₀.TimersStand (s.correctWord master w) := by
  unfold State.correctWord State.basinErr
  exact ((h.count (by decide)).setReg (by decide)).drawStatus.postFault.beside.chargeRow

theorem badWord {master w} (h : s₀.TimersStand s) : s₀.TimersStand (s.badWord master w) := by
  unfold State.badWord State.basinErr
  exact ((h.count (by decide)).setReg (by decide)).drawStatus.postFault.remapRow

theorem checkWords {master l} (h : s₀.TimersStand s) : s₀.TimersStand (s.checkWords master l).2 := by
  induction l generalizing s with
  | nil => exact h
  | cons w l ih =>
    rw [State.checkWords]
    split
    · exact ih h
    · exact ih h.correctWord
    · exact ih h.badWord

theorem writePart {port a l} (h : s₀.TimersStand s) : s₀.TimersStand (s.writePart Master.disp port a l).2 := by
  unfold State.writePart
  exact ite_snd (beside (posts (ite_snd h h.checkWords) (State.posts_putPart _ _ _ _))) (ite_snd h h.checkWords)

theorem basinWrite {port a l} (h : s₀.TimersStand s) : s₀.TimersStand (s.basinWrite Master.disp port a l).2 :=
  List.foldlRecOn (motive := fun p : Written × State => s₀.TimersStand p.2) _ _ h fun _ stands _ _ => stands.writePart

/-- A record of a timer (R394). -/
theorem offerTmr {k record} (h : s₀.TimersStand s) : s₀.TimersStand (s.offerTmr k record).2 := by
  unfold State.offerTmr State.basinRead State.writeEntry
  refine ite_snd (h.posts (State.posts_loseEvent (by decide))) (ite_snd (count (by decide) ?_) (h.posts (State.posts_basinPut _ _ _ _)).beside)
  dsimp only
  split
  · exact h.checkWords.basinWrite
  · exact h.checkWords

/-! ### What else a tick does -/

theorem sweepStart (h : s₀.TimersStand s) : s₀.TimersStand s.sweepStart := by
  unfold State.sweepStart State.sweepSave State.setBorrow
  exact ite ((h.setFlag (by decide)).setFlag (by decide)).checkWords.beside h

theorem copybackTime (h : s₀.TimersStand s) : s₀.TimersStand s.copybackTime := by
  unfold State.copybackTime
  exact ite (h.setFlag (by decide)) h

theorem wdogRun {n} (h : s₀.TimersStand s) : s₀.TimersStand (s.wdogRun n) := by
  unfold State.wdogRun
  exact ite h.beside h

theorem setCout {c d} (h : s₀.TimersStand s) : s₀.TimersStand (s.setCout c d) := h.beside

theorem rangeDone {c t} (h : s₀.TimersStand s) : s₀.TimersStand (s.rangeDone c t) := by
  unfold State.rangeDone
  exact h.setCout.posts (State.posts_anaPostAt _ _ _ _ _ _)

theorem disconnect {c t} (h : s₀.TimersStand s) : s₀.TimersStand (s.disconnect c t) := h.setCout.rangeDone

theorem clampEnd {c t} (h : s₀.TimersStand s) : s₀.TimersStand (s.clampEnd c t) := by
  unfold State.clampEnd
  split
  · exact ite h.disconnect (ite h.setCout.rangeDone h.setCout)
  · exact h

theorem clampDue {c t} (h : s₀.TimersStand s) : s₀.TimersStand (s.clampDue c t) := by
  unfold State.clampDue
  split
  · exact ite h.clampEnd h
  · exact h

theorem atOldZero {c t} (h : s₀.TimersStand s) : s₀.TimersStand (s.atOldZero c t) := by
  unfold State.atOldZero
  exact ite h.disconnect h.setCout

theorem stepAt {c t} (h : s₀.TimersStand s) : s₀.TimersStand (s.stepAt c t) := by
  unfold State.stepAt
  dsimp only
  split
  · exact setCout (ite h.clampDue.setCout.atOldZero h.clampDue.setCout)
  · exact h.clampDue.setCout
  · exact setCout (ite h.clampDue.setCout.rangeDone h.clampDue.setCout)
  · exact setCout (ite h.clampDue.setCout h.clampDue)

theorem stepsTo {c t} (h : s₀.TimersStand s) : s₀.TimersStand (s.stepsTo c t) := by
  unfold State.stepsTo
  exact clampDue (h.foldl fun h => h.stepAt)

end State.TimersStand

/-- Beside the timers, ticks that pass leave the timers alone. -/
theorem State.ticksPass_stands (s : State) (n : Nat) : (s.timePasses n).TimersStand (s.ticksPass n) := by
  unfold State.ticksPass
  have passed := State.TimersStand.refl (s.timePasses n)
  exact .ite (.foldl passed.wdogRun.beside.copybackTime.sweepStart fun h => h.stepsTo) passed.wdogRun.beside.copybackTime.sweepStart

end Sys2Proof.Machine
end

/-!
SUPPORT. One channel while the others step (R387 to R392): what a step of channel j leaves of channel n.
-/
section
namespace Sys2Proof.Machine

variable {s t u v : State} {j k m n : Nat}

/-! ### Channels -/

theorem State.tch_setTch_same (inside : n < s.tmr.chans.length) (f : Tmr → Tmr) : (s.setTch n f).tch n = f (s.tch n) := by
  simp [State.tch, State.setTch, inside]

theorem State.tch_setTch_other (other : m ≠ n) (f : Tmr → Tmr) : (s.setTch n f).tch m = s.tch m := by
  simp [State.tch, State.setTch, List.getD_eq_getElem?_getD, List.getElem?_set_ne other.symm]

theorem State.length_setTch (n : Nat) (f : Tmr → Tmr) : (s.setTch n f).tmr.chans.length = s.tmr.chans.length := by
  simp [State.setTch]

/-- In s the time, the edges of the slow clock, channel n with its status, and how the channels are set stand as in s₀. -/
structure State.ChannelStands (n : Nat) (s₀ s : State) : Prop where
  time : s.time = s₀.time
  clk : s.clk = s₀.clk
  count : s.tmr.chans.length = s₀.tmr.chans.length
  acc : s.tmr.acc = s₀.tmr.acc
  ctl : ∀ m, m < 16 → s.reg (Adr.TMR_CTL m) = s₀.reg (Adr.TMR_CTL m)
  stat : s.reg (Adr.TMR_STAT n) = s₀.reg (Adr.TMR_STAT n)
  chan : s.tch n = s₀.tch n

theorem tmrStat_ne (other : m ≠ n) : Adr.TMR_STAT m ≠ Adr.TMR_STAT n := by unfold Adr.TMR_STAT; omega

theorem tmrCtl_ne_stat (m n : Nat) : Adr.TMR_CTL m ≠ Adr.TMR_STAT n := by unfold Adr.TMR_CTL Adr.TMR_STAT; omega

theorem State.TimersStand.channel (h : s.TimersStand t) (inside : n < 16) : State.ChannelStands n s t :=
  ⟨h.time, h.clk, by rw [h.tmr], by rw [h.tmr], h.ctl, h.stat n inside, by rw [State.tch, h.tmr, State.tch]⟩

namespace State.ChannelStands

theorem refl (n : Nat) (s : State) : State.ChannelStands n s s := ⟨rfl, rfl, rfl, rfl, fun _ _ => rfl, rfl, rfl⟩

theorem trans (h : State.ChannelStands n s t) (g : State.ChannelStands n t u) : State.ChannelStands n s u :=
  ⟨g.time.trans h.time, g.clk.trans h.clk, g.count.trans h.count, g.acc.trans h.acc, fun m channel => (g.ctl m channel).trans (h.ctl m channel),
    g.stat.trans h.stat, g.chan.trans h.chan⟩

theorem ite {c : Prop} [Decidable c] (h : State.ChannelStands n s t) (g : State.ChannelStands n s u) : State.ChannelStands n s (if c then t else u) := by
  split <;> assumption

theorem setTch {f : Tmr → Tmr} (h : State.ChannelStands n s t) (other : n ≠ m) : State.ChannelStands n s (t.setTch m f) :=
  ⟨h.time, h.clk, (State.length_setTch m f).trans h.count, h.acc, h.ctl, h.stat, (State.tch_setTch_other other f).trans h.chan⟩

theorem setStat {i : Nat} {b : Bool} (h : State.ChannelStands n s t) (other : n ≠ m) :
    State.ChannelStands n s (t.setFlag (Adr.TMR_STAT m) i b) :=
  ⟨h.time, h.clk, h.count, h.acc, fun j channel => (t.reg_setFlag_other (tmrCtl_ne_stat j m) i b).trans (h.ctl j channel),
    (t.reg_setFlag_other (tmrStat_ne other) i b).trans h.stat, h.chan⟩

end State.ChannelStands

/-! ### The record of a step (R394) -/

/-- The post of channel n passes beside the timers, but for what the channel notes of it and for EVLOST. -/
theorem State.tmrPost_cases (s : State) (n events value : Nat) : ∃ u all at_ sent,
    s.tmrPost n events value = u.setTch n (fun t => { t with evs := all, evClk := at_, sent := sent }) ∧
    (s.TimersStand u ∨ ∃ v, s.TimersStand v ∧ u = v.setFlag (Adr.TMR_STAT n) 5 true) := by
  have offered (record : List Byte) : s.TimersStand (if (s.offerTmr n record).1 then (s.offerTmr n record).2.setFlag (Adr.TMR_STAT n) 5 true
        else (s.offerTmr n record).2) ∨ ∃ v, s.TimersStand v ∧ (if (s.offerTmr n record).1 then (s.offerTmr n record).2.setFlag (Adr.TMR_STAT n) 5 true
        else (s.offerTmr n record).2) = v.setFlag (Adr.TMR_STAT n) 5 true := by
    have stands := (State.TimersStand.refl s).offerTmr (k := n) (record := record)
    split
    · exact .inr ⟨_, stands, rfl⟩
    · exact .inl stands
  unfold State.tmrPost
  dsimp only
  generalize (if (s.tch n).evClk = s.clk then _ else _) = all
  split
  · exact ⟨_, _, _, _, rfl, .inl ((State.TimersStand.refl s).posts (State.posts_basinPut _ _ _ _))⟩
  · split
    · exact ⟨_, _, _, _, rfl, offered _⟩
    · exact ⟨s, _, _, _, rfl, .inl (.refl s)⟩

theorem State.tmrPost_stands (other : m ≠ n) (inside : m < 16) (events value : Nat) : State.ChannelStands m s (s.tmrPost n events value) := by
  obtain ⟨u, all, at_, sent, post, beside⟩ := s.tmrPost_cases n events value
  rw [post]
  rcases beside with stands | ⟨v, stands, rfl⟩
  · exact (stands.channel inside).setTch other
  · exact ((stands.channel inside).setStat other).setTch other

/-! ### A step of another channel -/

theorem State.linkedHigh_of_low (low : s.linkedLow j = true) : s.linkedHigh (j + 1) = true := by
  simp only [State.linkedLow, State.linkedHigh, Bool.and_eq_true, decide_eq_true_eq, Nat.add_sub_cancel] at low ⊢
  exact ⟨by omega, low.2⟩

theorem State.tmrStep_linkedHigh (high : s.linkedHigh n = true) (k : Nat) : s.tmrStep n k = s := by
  unfold State.tmrStep
  rw [if_pos high]

theorem State.ChannelStands.linkedLow (h : State.ChannelStands n s t) (inside : j < 16) : t.linkedLow j = s.linkedLow j := by
  rw [State.linkedLow, State.linkedLow, State.flag_eq_of_reg (h.ctl j inside)]

/-- The count of channel j put in place, in both channels of a pair. -/
def State.tmrPut (s : State) (j c : Nat) : State :=
  let s := s.setTch j (fun t => { t with cnt := c % 2 ^ 32 })
  if s.linkedLow j then s.setTch (j + 1) (fun t => { t with cnt := c / 2 ^ 32 % 2 ^ 32, jump := none }) else s

theorem State.tmrPut_stands (h : State.ChannelStands n s t) (other : n ≠ j) (inside : j < 16) (partner : s.linkedLow j = true → n ≠ j + 1) (c : Nat) :
    State.ChannelStands n s (t.tmrPut j c) := by
  unfold State.tmrPut
  dsimp only
  split
  · next low =>
    have low : s.linkedLow j = true := (h.linkedLow inside).symm.trans low
    exact (h.setTch other).setTch (partner low)
  · exact h.setTch other

/-! ### The parts of a step (R390 to R392) -/

/-- The step of k ticks carries the count of channel n past its modulus. -/
abbrev State.tmrWraps (s : State) (n k : Nat) : Prop := s.tmrMod n ≤ s.tmrCount n + k

/-- Staged values come into force at a wrap. -/
def State.tmrSwapped (s : State) (n k : Nat) : State :=
  if decide (s.tmrWraps n k) && decide (s.tmrMode n = 1) then
    match (s.tch n).staged with
    | some (a, b) => s.setTch n (fun t => { t with cmp := a, per := b, staged := none })
    | none => s
  else s

/-- The step meets the compare value. -/
def State.tmrHits (s : State) (n k : Nat) : Bool :=
  let cmp := ((s.tmrSwapped n k).tch n).cmp
  if s.tmrMod n ≤ s.tmrCount n + k then
    decide (cmp < (s.tmrSwapped n k).tmrMod n) &&
      (decide (cmp ≤ s.tmrCount n + k - s.tmrMod n) || ((s.tch n).staged.isNone && decide (s.tmrCount n < cmp)))
  else match matchDist (s.tmrMod n) (s.tmrCount n) cmp with
    | some d => d ≤ k
    | none => false

/-- The count that the step leads to. -/
def State.tmrEnd (s : State) (n k : Nat) : Nat :=
  if s.tmrMod n ≤ s.tmrCount n + k then (s.tmrCount n + k - s.tmrMod n) % (s.tmrSwapped n k).tmrMod n else s.tmrCount n + k

/-- CMPF and OVF of a step. -/
def State.tmrFlagged (s : State) (n : Nat) (hit : Bool) (wraps : Prop) [Decidable wraps] : State :=
  let s := if hit then s.setFlag (Adr.TMR_STAT n) 0 true else s
  if wraps then s.setFlag (Adr.TMR_STAT n) 1 true else s

/-- CMPF, OVF and the output of a step. -/
def State.tmrMarked (s : State) (n : Nat) (hit : Bool) (wraps pwm : Prop) [Decidable wraps] [Decidable pwm] : State :=
  let s := s.tmrFlagged n hit wraps
  if pwm then s.setTch n (fun t => { t with out := if hit then false else t.out || wraps }) else s

/-- A step up to its record. -/
def State.tmrMoved (s : State) (n k : Nat) : State :=
  ((s.tmrSwapped n k).tmrPut n (s.tmrEnd n k)).tmrMarked n (s.tmrHits n k) (s.tmrWraps n k) (s.tmrMode n = 1)

theorem State.tmrStep_jump (apart : s.linkedHigh n = false) {v : Nat} (jump : (s.tch n).jump = some v) (k : Nat) :
    s.tmrStep n k = (s.tmrPut n v).setTch n (fun t => { t with jump := none }) := by
  unfold State.tmrStep
  rw [if_neg (Bool.eq_false_iff.mp apart)]
  simp only [jump]
  rfl

theorem State.tmrStep_moved (apart : s.linkedHigh n = false) (still : (s.tch n).jump = none) (k : Nat) : s.tmrStep n k =
    if s.tmrHits n k || decide (s.tmrWraps n k) then
      (s.tmrMoved n k).tmrPost n (b2n (s.tmrHits n k) + 2 * b2n (decide (s.tmrWraps n k))) ((s.tmrMoved n k).tch n).cnt
    else s.tmrMoved n k := by
  unfold State.tmrStep
  rw [if_neg (Bool.eq_false_iff.mp apart)]
  simp only [still]
  rfl

theorem State.ChannelStands.swapped (h : State.ChannelStands n s t) (other : n ≠ j) (k : Nat) : State.ChannelStands n s (t.tmrSwapped j k) := by
  unfold State.tmrSwapped
  split
  · split
    · exact h.setTch other
    · exact h
  · exact h

theorem State.ChannelStands.flagged (h : State.ChannelStands n s t) (other : n ≠ j) (hit : Bool) (wraps : Prop) [Decidable wraps] :
    State.ChannelStands n s (t.tmrFlagged j hit wraps) := by
  unfold State.tmrFlagged
  have first : State.ChannelStands n s (if hit then t.setFlag (Adr.TMR_STAT j) 0 true else t) := .ite (h.setStat other) h
  exact .ite (first.setStat other) first

theorem State.ChannelStands.marked (h : State.ChannelStands n s t) (other : n ≠ j) (hit : Bool) (wraps pwm : Prop) [Decidable wraps]
    [Decidable pwm] : State.ChannelStands n s (t.tmrMarked j hit wraps pwm) := by
  unfold State.tmrMarked
  exact .ite ((h.flagged other hit wraps).setTch other) (h.flagged other hit wraps)

/-- A step of channel j leaves channel n where n is another channel, and no partner of j. -/
theorem State.tmrStep_stands (other : n ≠ j) (inside : n < 16) (channel : j < 16) (partner : s.linkedLow j = true → n ≠ j + 1) (k : Nat) :
    State.ChannelStands n s (s.tmrStep j k) := by
  by_cases high : s.linkedHigh j = true
  · rw [State.tmrStep_linkedHigh high]
    exact .refl n s
  · have apart := Bool.eq_false_iff.mpr high
    cases jump : (s.tch j).jump with
    | some v =>
      rw [State.tmrStep_jump apart jump]
      exact (State.tmrPut_stands (.refl n s) other channel partner v).setTch other
    | none =>
      have moved : State.ChannelStands n s (s.tmrMoved j k) :=
        (State.tmrPut_stands ((State.ChannelStands.refl n s).swapped other k) other channel partner _).marked other _ _ _
      rw [State.tmrStep_moved apart jump]
      exact .ite (moved.trans (State.tmrPost_stands other inside _ _)) moved

end Sys2Proof.Machine
end

/-!
SUPPORT. What a step makes of its own channel (R387, R390 to R392).
-/
section
namespace Sys2Proof.Machine

variable {s t u : State} {k m n c : Nat} {hit : Bool} {wraps pwm : Prop} [Decidable wraps] [Decidable pwm]

/-! ### Staged values -/

/-- Without staged values for this step nothing changes. -/
theorem State.tmrSwapped_none (none : s.tmrMode n = 1 → s.tmrWraps n k → (s.tch n).staged = none) : s.tmrSwapped n k = s := by
  unfold State.tmrSwapped
  split
  · next due =>
    simp only [Bool.and_eq_true, decide_eq_true_eq] at due
    rw [none due.2 due.1]
  · rfl

theorem State.tmrSwapped_staged {a b : Nat} (wraps : s.tmrWraps n k) (pwm : s.tmrMode n = 1) (staged : (s.tch n).staged = some (a, b)) :
    s.tmrSwapped n k = s.setTch n (fun t => { t with cmp := a, per := b, staged := none }) := by
  have due : (decide (s.tmrWraps n k) && decide (s.tmrMode n = 1)) = true := by simp [wraps, pwm]
  unfold State.tmrSwapped
  rw [if_pos due]
  simp only [staged]

/-- In s the time, the edges of the slow clock and the registers stand as in s₀; only channels may differ. -/
structure State.ChannelsOnly (s₀ s : State) : Prop where
  time : s.time = s₀.time
  clk : s.clk = s₀.clk
  count : s.tmr.chans.length = s₀.tmr.chans.length
  acc : s.tmr.acc = s₀.tmr.acc
  regs : s.regs = s₀.regs

namespace State.ChannelsOnly

theorem refl (s : State) : s.ChannelsOnly s := ⟨rfl, rfl, rfl, rfl, rfl⟩

theorem setTch {f : Tmr → Tmr} (h : s.ChannelsOnly t) : s.ChannelsOnly (t.setTch m f) :=
  ⟨h.time, h.clk, (State.length_setTch m f).trans h.count, h.acc, h.regs⟩

theorem swapped (h : s.ChannelsOnly t) : s.ChannelsOnly (t.tmrSwapped n k) := by
  unfold State.tmrSwapped
  split
  · split
    · exact h.setTch
    · exact h
  · exact h

theorem put (h : s.ChannelsOnly t) : s.ChannelsOnly (t.tmrPut n c) := by
  unfold State.tmrPut
  dsimp only
  split
  · exact h.setTch.setTch
  · exact h.setTch

theorem linkedLow (h : s.ChannelsOnly t) (n : Nat) : t.linkedLow n = s.linkedLow n := by
  rw [State.linkedLow, State.linkedLow, State.flag_eq_of_reg (State.reg_congr h.regs _)]

end State.ChannelsOnly

/-! ### The channel and its flags -/

theorem State.tmrPut_tch (inside : n < s.tmr.chans.length) (c : Nat) : (s.tmrPut n c).tch n = { s.tch n with cnt := c % 2 ^ 32 } := by
  unfold State.tmrPut
  dsimp only
  split
  · rw [State.tch_setTch_other (by omega), State.tch_setTch_same inside]
  · rw [State.tch_setTch_same inside]

theorem State.tmrPut_partner (inside : n + 1 < s.tmr.chans.length) (low : s.linkedLow n = true) (c : Nat) :
    ((s.tmrPut n c).tch (n + 1)).cnt = c / 2 ^ 32 % 2 ^ 32 := by
  have low' : (s.setTch n (fun t => { t with cnt := c % 2 ^ 32 })).linkedLow n = true := low
  unfold State.tmrPut
  dsimp only
  rw [if_pos low', State.tch_setTch_same (by rwa [State.length_setTch])]

theorem State.tmrFlagged_tmr : (s.tmrFlagged n hit wraps).tmr = s.tmr := by
  unfold State.tmrFlagged
  dsimp only
  split <;> split <;> rfl

theorem State.tmrFlagged_time : (s.tmrFlagged n hit wraps).time = s.time ∧ (s.tmrFlagged n hit wraps).clk = s.clk := by
  unfold State.tmrFlagged
  dsimp only
  split <;> split <;> exact ⟨rfl, rfl⟩

theorem State.tmrFlagged_hit (met : hit = true) : (s.tmrFlagged n hit wraps).flag (Adr.TMR_STAT n) 0 = true := by
  unfold State.tmrFlagged
  rw [if_pos met]
  dsimp only
  generalize Adr.TMR_STAT n = a
  have set : (s.setFlag a 0 true).flag a 0 = true := s.flag_setFlag a 0 true (by decide)
  split
  · exact ((s.setFlag a 0 true).flag_setFlag_other (by decide) (by decide) true).trans set
  · exact set

theorem State.tmrFlagged_wrap (past : wraps) : (s.tmrFlagged n hit wraps).flag (Adr.TMR_STAT n) 1 = true := by
  unfold State.tmrFlagged
  dsimp only
  rw [if_pos past]
  generalize Adr.TMR_STAT n = a
  exact State.flag_setFlag _ a 1 true (by decide)

theorem State.tmrMarked_tch (inside : n < s.tmr.chans.length) : (s.tmrMarked n hit wraps pwm).tch n =
    { s.tch n with out := if pwm then (if hit then false else (s.tch n).out || decide wraps) else (s.tch n).out } := by
  have flagged : (s.tmrFlagged n hit wraps).tch n = s.tch n := by rw [State.tch, State.tmrFlagged_tmr, State.tch]
  unfold State.tmrMarked
  dsimp only
  split
  · rw [State.tch_setTch_same (by rwa [State.tmrFlagged_tmr]), flagged]
  · rw [flagged]

theorem State.tmrMarked_other (other : m ≠ n) : (s.tmrMarked n hit wraps pwm).tch m = s.tch m := by
  have flagged : (s.tmrFlagged n hit wraps).tch m = s.tch m := by rw [State.tch, State.tmrFlagged_tmr, State.tch]
  unfold State.tmrMarked
  dsimp only
  split
  · rw [State.tch_setTch_other other, flagged]
  · exact flagged

theorem State.tmrMarked_flag (a i : Nat) : (s.tmrMarked n hit wraps pwm).flag a i = (s.tmrFlagged n hit wraps).flag a i := by
  unfold State.tmrMarked
  dsimp only
  split <;> rfl

theorem State.tmrMarked_acc : (s.tmrMarked n hit wraps pwm).tmr.acc = s.tmr.acc := by
  have flagged : (s.tmrFlagged n hit wraps).tmr.acc = s.tmr.acc := by rw [State.tmrFlagged_tmr]
  unfold State.tmrMarked
  dsimp only
  split <;> exact flagged

theorem State.tmrMarked_time : (s.tmrMarked n hit wraps pwm).time = s.time ∧ (s.tmrMarked n hit wraps pwm).clk = s.clk := by
  unfold State.tmrMarked
  dsimp only
  split <;> exact State.tmrFlagged_time

theorem State.tmrMarked_ctl (m : Nat) : (s.tmrMarked n hit wraps pwm).reg (Adr.TMR_CTL m) = s.reg (Adr.TMR_CTL m) := by
  have flagged : (s.tmrFlagged n hit wraps).reg (Adr.TMR_CTL m) = s.reg (Adr.TMR_CTL m) := by
    have apart (i : Nat) (v : State) := v.reg_setFlag_other (tmrCtl_ne_stat m n) i true
    unfold State.tmrFlagged
    dsimp only
    split <;> split <;> simp only [apart]
  unfold State.tmrMarked
  dsimp only
  split <;> exact flagged

/-! ### The step (R387, R390 to R392) -/

/-- What a step of k ticks of channel n makes of s. -/
structure State.ChannelSteps (n k : Nat) (s t : State) : Prop where
  time : t.time = s.time
  clk : t.clk = s.clk
  acc : t.tmr.acc = s.tmr.acc
  ctl : ∀ m, m < 16 → t.reg (Adr.TMR_CTL m) = s.reg (Adr.TMR_CTL m)
  still : (t.tch n).jump = none
  count : (t.tch n).cnt = s.tmrEnd n k % 2 ^ 32
  high : s.linkedLow n = true → (t.tch (n + 1)).cnt = s.tmrEnd n k / 2 ^ 32 % 2 ^ 32
  hit : s.tmrHits n k = true → t.flag (Adr.TMR_STAT n) 0 = true
  wrap : s.tmrWraps n k → t.flag (Adr.TMR_STAT n) 1 = true
  out : s.tmrMode n = 1 → (t.tch n).out = if s.tmrHits n k then false else (s.tch n).out || decide (s.tmrWraps n k)
  staged : ∀ a b, s.tmrWraps n k → s.tmrMode n = 1 → (s.tch n).staged = some (a, b) →
    (t.tch n).cmp = a ∧ (t.tch n).per = b ∧ (t.tch n).staged = none

theorem State.tmrMoved_tch (inside : n < s.tmr.chans.length) : (s.tmrMoved n k).tch n = { (s.tmrSwapped n k).tch n with
    cnt := s.tmrEnd n k % 2 ^ 32
    out := if s.tmrMode n = 1 then (if s.tmrHits n k then false else ((s.tmrSwapped n k).tch n).out || decide (s.tmrWraps n k))
      else ((s.tmrSwapped n k).tch n).out } := by
  have swapped := (State.ChannelsOnly.refl s).swapped (n := n) (k := k)
  have inside' : n < (s.tmrSwapped n k).tmr.chans.length := by rwa [swapped.count]
  have put := swapped.put (n := n) (c := s.tmrEnd n k)
  unfold State.tmrMoved
  rw [State.tmrMarked_tch (by rwa [put.count]), State.tmrPut_tch inside']

/-- A swap leaves the waiting jump and the output. -/
theorem State.tmrSwapped_tch (inside : n < s.tmr.chans.length) : ((s.tmrSwapped n k).tch n).jump = (s.tch n).jump ∧
    ((s.tmrSwapped n k).tch n).out = (s.tch n).out := by
  unfold State.tmrSwapped
  split
  · split
    · rw [State.tch_setTch_same inside]
      exact ⟨rfl, rfl⟩
    · exact ⟨rfl, rfl⟩
  · exact ⟨rfl, rfl⟩

theorem State.tmrMoved_steps (inside : n < s.tmr.chans.length) (pair : s.linkedLow n = true → n + 1 < s.tmr.chans.length)
    (still : (s.tch n).jump = none) (k : Nat) : State.ChannelSteps n k s (s.tmrMoved n k) := by
  have swapped := (State.ChannelsOnly.refl s).swapped (n := n) (k := k)
  have put := swapped.put (n := n) (c := s.tmrEnd n k)
  obtain ⟨jump, out⟩ := State.tmrSwapped_tch (k := k) inside
  have own := State.tmrMoved_tch (k := k) inside
  refine ⟨State.tmrMarked_time.1.trans put.time, State.tmrMarked_time.2.trans put.clk, State.tmrMarked_acc.trans put.acc,
    fun m _ => (State.tmrMarked_ctl m).trans (State.reg_congr put.regs _), by rw [own]; exact jump.trans still, by rw [own], fun low => ?_, fun met => ?_, fun past => ?_, fun pwm => ?_, fun a b past pwm staged => ?_⟩
  · unfold State.tmrMoved
    rw [State.tmrMarked_other (by omega), State.tmrPut_partner (by rw [swapped.count]; exact pair low) ((swapped.linkedLow n).trans low)]
  · exact (State.tmrMarked_flag _ _).trans (State.tmrFlagged_hit met)
  · exact (State.tmrMarked_flag _ _).trans (State.tmrFlagged_wrap past)
  · rw [own, out]
    simp only [pwm, if_true]
  · rw [own, State.tmrSwapped_staged past pwm staged, State.tch_setTch_same inside]
    exact ⟨rfl, rfl, rfl⟩

namespace State.ChannelSteps

/-- What leaves the channel and its partner's count leaves what the step made. -/
theorem keeps (h : State.ChannelSteps n k s t) (own : State.ChannelStands n t u)
    (pair : s.linkedLow n = true → (u.tch (n + 1)).cnt = (t.tch (n + 1)).cnt) : State.ChannelSteps n k s u := by
  have flag (i : Nat) : u.flag (Adr.TMR_STAT n) i = t.flag (Adr.TMR_STAT n) i := State.flag_eq_of_reg own.stat
  exact ⟨own.time.trans h.time, own.clk.trans h.clk, own.acc.trans h.acc,
    fun m channel => (own.ctl m channel).trans (h.ctl m channel), by rw [own.chan]; exact h.still, by rw [own.chan]; exact h.count,
    fun low => (pair low).trans (h.high low), fun met => (flag 0).trans (h.hit met), fun past => (flag 1).trans (h.wrap past),
    by rw [own.chan]; exact h.out, by rw [own.chan]; exact h.staged⟩

/-- A lost record shows in EVLOST. -/
theorem lost (h : State.ChannelSteps n k s t) : State.ChannelSteps n k s (t.setFlag (Adr.TMR_STAT n) 5 true) := by
  have flag (i : Nat) (low : i < 5) : (t.setFlag (Adr.TMR_STAT n) 5 true).flag (Adr.TMR_STAT n) i = t.flag (Adr.TMR_STAT n) i :=
    t.flag_setFlag_other (by omega) (by decide) true
  exact ⟨h.time, h.clk, h.acc, fun m channel => (t.reg_setFlag_other (tmrCtl_ne_stat m n) 5 true).trans (h.ctl m channel), h.still, h.count, h.high, fun met => (flag 0 (by decide)).trans (h.hit met),
    fun past => (flag 1 (by decide)).trans (h.wrap past), h.out, h.staged⟩

/-- What a channel notes of its record. -/
theorem noted (h : State.ChannelSteps n k s t) (inside : n < t.tmr.chans.length) (all at_ : Nat) (sent : Bool) :
    State.ChannelSteps n k s (t.setTch n (fun t => { t with evs := all, evClk := at_, sent := sent })) := by
  have own := State.tch_setTch_same inside (fun t => { t with evs := all, evClk := at_, sent := sent })
  have pair := State.tch_setTch_other (s := t) (m := n + 1) (n := n) (by omega) (fun t => { t with evs := all, evClk := at_, sent := sent })
  exact ⟨h.time, h.clk, h.acc, h.ctl, by rw [own]; exact h.still, by rw [own]; exact h.count, by rw [pair]; exact h.high, h.hit, h.wrap,
    by rw [own]; exact h.out, by rw [own]; exact h.staged⟩

/-- The record of a step leaves what the step made. -/
theorem post (h : State.ChannelSteps n k s t) (inside : n < t.tmr.chans.length) (channel : n < 16) (events value : Nat) :
    State.ChannelSteps n k s (t.tmrPost n events value) := by
  obtain ⟨u, all, at_, sent, post, beside⟩ := t.tmrPost_cases n events value
  rw [post]
  have passed {v : State} (stands : t.TimersStand v) : State.ChannelSteps n k s v :=
    h.keeps (stands.channel channel) fun _ => by rw [State.tch, stands.tmr, State.tch]
  rcases beside with stands | ⟨v, stands, rfl⟩
  · exact (passed stands).noted (by rwa [stands.tmr]) _ _ _
  · have count : n < (v.setFlag (Adr.TMR_STAT n) 5 true).tmr.chans.length := by
      rw [State.setFlag_tmr, stands.tmr]
      exact inside
    exact (passed stands).lost.noted count _ _ _

end State.ChannelSteps

theorem State.tmrMoved_count (s : State) (n k : Nat) : (s.tmrMoved n k).tmr.chans.length = s.tmr.chans.length := by
  have put := ((State.ChannelsOnly.refl s).swapped (n := n) (k := k)).put (n := n) (c := s.tmrEnd n k)
  unfold State.tmrMoved State.tmrMarked
  dsimp only
  split
  · rw [State.length_setTch, State.tmrFlagged_tmr, put.count]
  · rw [State.tmrFlagged_tmr, put.count]

theorem State.tmrStep_steps (apart : s.linkedHigh n = false) (channels : s.tmr.chans.length = 16) (channel : n < 16)
    (still : (s.tch n).jump = none) (k : Nat) : State.ChannelSteps n k s (s.tmrStep n k) := by
  have even (low : s.linkedLow n = true) : n + 1 < s.tmr.chans.length := by
    simp only [State.linkedLow, Bool.and_eq_true, decide_eq_true_eq] at low
    omega
  have moved := State.tmrMoved_steps (by omega) even still k
  rw [State.tmrStep_moved apart still]
  split
  · exact moved.post (by rw [State.tmrMoved_count]; omega) channel _ _
  · exact moved

end Sys2Proof.Machine
end

/-!
SUPPORT. A channel's step among those of all channels, and in a tick (R386 to R392).
-/
section
namespace Sys2Proof.Machine

variable {s t u v : State} {j k m n : Nat}

/-! ### What a step depends on -/

/-- Channel n, its partner's count and how the channels are set are in u what they are in s. -/
structure State.SameChannel (n : Nat) (s u : State) : Prop where
  count : u.tmr.chans.length = s.tmr.chans.length
  ctl : ∀ m, m < 16 → u.reg (Adr.TMR_CTL m) = s.reg (Adr.TMR_CTL m)
  chan : u.tch n = s.tch n
  pair : s.linkedLow n = true → (u.tch (n + 1)).cnt = (s.tch (n + 1)).cnt

theorem State.linkedLow_congr (ctl : u.reg (Adr.TMR_CTL n) = s.reg (Adr.TMR_CTL n)) : u.linkedLow n = s.linkedLow n := by
  rw [State.linkedLow, State.linkedLow, State.flag_eq_of_reg ctl]

theorem State.tmrMode_congr (ctl : u.reg (Adr.TMR_CTL n) = s.reg (Adr.TMR_CTL n)) : u.tmrMode n = s.tmrMode n := State.fld_eq_of_reg ctl

theorem State.tmrMod_congr (ctl : u.reg (Adr.TMR_CTL n) = s.reg (Adr.TMR_CTL n)) (chan : u.tch n = s.tch n) : u.tmrMod n = s.tmrMod n := by
  rw [State.tmrMod, State.tmrMod, State.linkedLow_congr ctl, State.tmrMode_congr ctl, chan]

namespace State.SameChannel

theorem tmrCount (same : State.SameChannel n s u) (channel : n < 16) : u.tmrCount n = s.tmrCount n := by
  unfold State.tmrCount
  rw [State.linkedLow_congr (same.ctl n channel), same.chan]
  split
  · next low => rw [same.pair low]
  · rfl

theorem tmrWraps (same : State.SameChannel n s u) (channel : n < 16) : u.tmrWraps n k ↔ s.tmrWraps n k := by
  unfold State.tmrWraps
  rw [State.tmrMod_congr (same.ctl n channel) same.chan, same.tmrCount channel]

theorem tmrSwapped (same : State.SameChannel n s u) (channel : n < 16) (inside : n < s.tmr.chans.length) :
    (u.tmrSwapped n k).tch n = (s.tmrSwapped n k).tch n := by
  unfold State.tmrSwapped
  simp only [same.tmrWraps channel, State.tmrMode_congr (same.ctl n channel), same.chan]
  split
  · split
    · rw [State.tch_setTch_same inside, State.tch_setTch_same (by rwa [same.count]), same.chan]
    · exact same.chan
  · exact same.chan

theorem swappedMod (same : State.SameChannel n s u) (channel : n < 16) (inside : n < s.tmr.chans.length) :
    (u.tmrSwapped n k).tmrMod n = (s.tmrSwapped n k).tmrMod n := by
  have left := ((State.ChannelsOnly.refl u).swapped (n := n) (k := k)).regs
  have right := ((State.ChannelsOnly.refl s).swapped (n := n) (k := k)).regs
  exact State.tmrMod_congr ((State.reg_congr left _).trans ((same.ctl n channel).trans (State.reg_congr right _).symm)) (same.tmrSwapped channel inside)

theorem tmrEnd (same : State.SameChannel n s u) (channel : n < 16) (inside : n < s.tmr.chans.length) : u.tmrEnd n k = s.tmrEnd n k := by
  rw [State.tmrEnd, State.tmrEnd, State.tmrMod_congr (same.ctl n channel) same.chan, same.tmrCount channel, same.swappedMod channel inside]

theorem tmrHits (same : State.SameChannel n s u) (channel : n < 16) (inside : n < s.tmr.chans.length) : u.tmrHits n k = s.tmrHits n k := by
  rw [State.tmrHits, State.tmrHits, State.tmrMod_congr (same.ctl n channel) same.chan, same.tmrCount channel, same.swappedMod channel inside,
    same.tmrSwapped channel inside, same.chan]

end State.SameChannel

/-- A step from a state that has the channel of s is a step from s. -/
theorem State.ChannelSteps.before (h : State.ChannelSteps n k u t) (same : State.SameChannel n s u) (channel : n < 16)
    (inside : n < s.tmr.chans.length) (time : u.time = s.time) (clk : u.clk = s.clk) (acc : u.tmr.acc = s.tmr.acc) :
    State.ChannelSteps n k s t := by
  have wraps := same.tmrWraps (k := k) channel
  have mode := State.tmrMode_congr (same.ctl n channel)
  refine ⟨h.time.trans time, h.clk.trans clk, h.acc.trans acc, fun m channel => (h.ctl m channel).trans (same.ctl m channel), h.still,
    by rw [← same.tmrEnd channel inside]; exact h.count, fun low => ?_, by rw [← same.tmrHits channel inside]; exact h.hit,
    fun past => h.wrap (wraps.mpr past), fun pwm => ?_, fun a b past pwm staged => ?_⟩
  · rw [← same.tmrEnd channel inside]
    exact h.high ((State.linkedLow_congr (same.ctl n channel)).trans low)
  · rw [h.out (mode.trans pwm), same.tmrHits channel inside, same.chan]
    simp only [wraps]
  · exact h.staged a b (wraps.mpr past) (mode.trans pwm) (by rw [same.chan]; exact staged)

/-! ### All channels -/

theorem State.ChannelStands.linkedHigh (h : State.ChannelStands n s t) (inside : j < 16) : t.linkedHigh j = s.linkedHigh j := by
  rw [State.linkedHigh, State.linkedHigh, State.flag_eq_of_reg (h.ctl (j - 1) (by omega))]

/-- The steps of channels that are neither n nor joined to it leave channel n. -/
theorem State.tmrSteps_stands (inside : n < 16) {l : List Nat} (apart : ∀ j ∈ l, j < 16 ∧
    (s.linkedHigh j = true ∨ n ≠ j ∧ (s.linkedLow j = true → n ≠ j + 1))) (k : Nat) :
    State.ChannelStands n s (l.foldl (fun s j => s.tmrStep j k) s) := by
  refine List.foldlRecOn (motive := fun t : State => State.ChannelStands n s t) _ _ (.refl n s) fun t stands j member => ?_
  obtain ⟨channel, high | ⟨other, partner⟩⟩ := apart j member
  · rw [State.tmrStep_linkedHigh ((stands.linkedHigh channel).trans high)]
    exact stands
  · exact stands.trans (State.tmrStep_stands other inside channel (fun low => partner ((stands.linkedLow channel).symm.trans low)) k)

/-- Channel n and, for the low word of a pair, channel n + 1 while channels other than n step. -/
theorem State.tmrSteps_pair (apart : s.linkedHigh n = false) (inside : n < 16) {l : List Nat} (others : ∀ j ∈ l, j < 16 ∧ j ≠ n) (k : Nat) :
    State.ChannelStands n s (l.foldl (fun s j => s.tmrStep j k) s) ∧
    (s.linkedLow n = true → State.ChannelStands (n + 1) s (l.foldl (fun s j => s.tmrStep j k) s)) := by
  refine ⟨State.tmrSteps_stands inside (fun j member => ?_) k, fun low => State.tmrSteps_stands ?_ (fun j member => ?_) k⟩
  · obtain ⟨channel, other⟩ := others j member
    refine ⟨channel, .inr ⟨other.symm, fun low next => ?_⟩⟩
    rw [next, State.linkedHigh_of_low low] at apart
    cases apart
  · simp only [State.linkedLow, Bool.and_eq_true, decide_eq_true_eq] at low
    omega
  · obtain ⟨channel, other⟩ := others j member
    refine ⟨channel, ?_⟩
    by_cases next : n + 1 = j
    · exact .inl (next ▸ State.linkedHigh_of_low low)
    · exact .inr ⟨next, fun _ => by omega⟩

theorem State.tmrStepAll_steps (apart : s.linkedHigh n = false) (channels : s.tmr.chans.length = 16) (channel : n < 16)
    (still : (s.tch n).jump = none) (k : Nat) : State.ChannelSteps n k s (s.tmrStepAll k) := by
  obtain ⟨l, r, whole⟩ := List.append_of_mem (List.mem_range.mpr channel)
  have single : (l ++ n :: r).Nodup := whole ▸ List.nodup_range
  have below (j : Nat) (member : j ∈ l ++ n :: r) : j < 16 := List.mem_range.mp (whole ▸ member)
  obtain ⟨_, single_r, disjoint⟩ := List.nodup_append.mp single
  have left : ∀ j ∈ l, j < 16 ∧ j ≠ n := fun j member => ⟨below j (by simp [member]), disjoint j member n (by simp)⟩
  have right : ∀ j ∈ r, j < 16 ∧ j ≠ n := fun j member =>
    ⟨below j (by simp [member]), fun same => (List.nodup_cons.mp single_r).1 (same ▸ member)⟩
  rw [State.tmrStepAll, whole, List.foldl_append, List.foldl_cons]
  obtain ⟨before, partner⟩ := State.tmrSteps_pair apart channel left k
  generalize l.foldl _ s = u at before partner ⊢
  have same : State.SameChannel n s u := ⟨before.count, before.ctl, before.chan, fun low => by rw [(partner low).chan]⟩
  have steps := (State.tmrStep_steps ((before.linkedHigh channel).trans apart) (before.count.trans channels) channel (by rw [before.chan]; exact still)
    k).before same channel (by omega) before.time before.clk before.acc
  generalize u.tmrStep n k = v at steps ⊢
  have high : v.linkedHigh n = false := by
    rw [← apart, State.linkedHigh, State.linkedHigh, State.flag_eq_of_reg (steps.ctl (n - 1) (by omega))]
  obtain ⟨after, partner⟩ := State.tmrSteps_pair high channel right k
  exact steps.keeps after fun low => by rw [(partner ((State.linkedLow_congr (steps.ctl n channel)).trans low)).chan]

/-! ### A tick -/

theorem State.tmrChunk_le (s : State) (n : Nat) : s.tmrChunk n ≤ n :=
  List.foldlRecOn (motive := fun d : Nat => d ≤ n) _ _ (Nat.le_refl n) fun _ below _ _ => Nat.le_trans (Nat.min_le_left _ _) below

theorem State.slowPeriod_pos (s : State) : 0 < s.slowPeriod.1 := by
  unfold State.slowPeriod
  split
  · exact Nat.div_pos (by omega) (by decide)
  · decide

/-- Ticks up to the end of the next step of the channels. -/
def State.stepTicks (s : State) : Nat := if s.tmr.slow then s.slowPeriod.1 - s.tmr.acc else 1

/-- Ticks of the next step as the channels count it. -/
def State.stepLength (s : State) : Nat := if s.tmr.slow then s.slowPeriod.1 else 1

/-- Time at the end of the next step, the channels not yet stepped. -/
def State.stepTime (s : State) : State :=
  { s with time := s.time + s.stepTicks, clk := s.clk + s.stepTicks,
           tmr := if s.tmr.slow then { s.tmr with acc := 0, frac := s.slowPeriod.2 } else s.tmr }

theorem State.stepTime_same (s : State) (n : Nat) : State.SameChannel n s s.stepTime := by
  have chans : s.stepTime.tmr.chans = s.tmr.chans := by
    show (if s.tmr.slow then _ else _ : Tmrs).chans = _
    split <;> rfl
  have chan (m : Nat) : s.stepTime.tch m = s.tch m := by rw [State.tch, chans, State.tch]
  exact ⟨by rw [chans], fun _ _ => rfl, chan n, fun _ => by rw [chan]⟩

theorem State.slowRun_succ (fuel : Nat) (s : State) (n : Nat) : State.slowRun (fuel + 1) s n =
    let p := s.slowPeriod
    let rest := p.1 - s.tmr.acc
    if n < rest then { s with time := s.time + n, clk := s.clk + n, tmr := { s.tmr with acc := s.tmr.acc + n } }
    else
      let s := { s with time := s.time + rest, clk := s.clk + rest, tmr := { s.tmr with acc := 0, frac := p.2 } }
      let s := s.tmrStepAll p.1
      if s.tmr.change && !s.wantSlow then State.tmrRun (n - rest) { s with tmr := { s.tmr with slow := false, change := false } } (n - rest)
      else State.slowRun fuel s (n - rest) := rfl

theorem State.slowRun_none (fuel : Nat) (edge : s.tmr.acc = 0) : State.slowRun (fuel + 1) s 0 = s := by
  have inside : 0 < s.slowPeriod.1 - s.tmr.acc := by
    have := s.slowPeriod_pos
    omega
  rw [State.slowRun_succ]
  exact if_pos inside

/-- What remains of a period of the slow clock is a step of the channels, after which the base clock may take over. -/
theorem State.slowRun_step (slow : s.tmr.slow = true) (edge : (s.stepTime.tmrStepAll s.stepLength).tmr.acc = 0) (fuel : Nat) :
    ∃ a b, State.slowRun (fuel + 2) s s.stepTicks = { s.stepTime.tmrStepAll s.stepLength with
      tmr := { (s.stepTime.tmrStepAll s.stepLength).tmr with slow := a, change := b } } := by
  have ticks : s.stepTicks = s.slowPeriod.1 - s.tmr.acc := by rw [State.stepTicks, if_pos slow]
  have time : s.stepTime = { s with time := s.time + s.stepTicks, clk := s.clk + s.stepTicks, tmr := { s.tmr with acc := 0, frac := s.slowPeriod.2 } } := by
    rw [State.stepTime, if_pos slow]
  have length : s.stepLength = s.slowPeriod.1 := by rw [State.stepLength, if_pos slow]
  rw [State.slowRun_succ]
  dsimp only
  rw [← ticks, if_neg (Nat.lt_irrefl _), Nat.sub_self, ← time, ← length]
  generalize s.stepTime.tmrStepAll s.stepLength = w at edge ⊢
  split
  · exact ⟨false, false, rfl⟩
  · rw [State.slowRun_none fuel edge]
    exact ⟨_, _, rfl⟩

theorem State.timePasses_steps (apart : s.linkedHigh n = false) (channels : s.tmr.chans.length = 16) (channel : n < 16)
    (still : (s.tch n).jump = none) (runs : s.tmrStopped = false) :
    State.ChannelSteps n s.stepLength s.stepTime (s.timePasses s.stepTicks) := by
  have same := s.stepTime_same n
  have steps := State.tmrStepAll_steps (s := s.stepTime) apart (same.count.trans channels) channel (by rw [same.chan]; exact still) s.stepLength
  unfold State.timePasses
  by_cases slow : s.tmr.slow = true
  · rw [if_pos slow]
    have acc : s.stepTime.tmr.acc = 0 := by
      show (if s.tmr.slow then _ else _ : Tmrs).acc = 0
      rw [if_pos slow]
    obtain ⟨a, b, run⟩ := State.slowRun_step slow (steps.acc.trans acc) (s.stepTicks / 600)
    rw [run]
    generalize s.stepTime.tmrStepAll s.stepLength = w at steps ⊢
    exact steps.keeps ⟨rfl, rfl, rfl, rfl, fun _ _ => rfl, rfl, rfl⟩ fun _ => rfl
  · rw [if_neg slow, if_neg (Bool.eq_false_iff.mp runs)]
    have ticks : s.stepTicks = 1 := by rw [State.stepTicks, if_neg slow]
    have length : s.stepLength = 1 := by rw [State.stepLength, if_neg slow]
    have time : s.stepTime = { s with time := s.time + 1, clk := s.clk + 1 } := by rw [State.stepTime, if_neg slow, ticks]
    have chunk : Nat.max 1 (s.tmrChunk 1) = 1 := Nat.max_eq_left (s.tmrChunk_le 1)
    rw [ticks, State.tmrRun]
    dsimp only
    rw [if_neg (by decide), chunk, ← time, State.tmrRun, ← length]
    exact steps

/-- A tick inside a sample is a step of the channels. -/
theorem State.tick_steps (apart : s.linkedHigh n = false) (channels : s.tmr.chans.length = 16) (channel : n < 16)
    (still : (s.tch n).jump = none) (runs : s.tmrStopped = false) (supplied : s.power.vddao = true) (held : s.power.held = false)
    (within : s.inserted = false ∨ s.time + s.stepTicks < s.nextBoundary) : State.ChannelSteps n s.stepLength s.stepTime s.tick := by
  have tick : s.tick = s.ticksPass s.stepTicks := by
    have inner : (s.inserted && decide (s.nextBoundary ≤ s.time + s.stepTicks)) = false := by
      rcases within with off | within
      · simp [off]
      · simp only [Bool.and_eq_false_iff, decide_eq_false_iff_not]
        exact .inr (by omega)
    unfold State.tick
    rw [supplied, held]
    dsimp only [Bool.not_true, Bool.false_eq_true]
    rw [if_neg (by decide), if_neg (by decide)]
    exact if_neg (Bool.eq_false_iff.mp inner)
  have stands := s.ticksPass_stands s.stepTicks
  rw [tick]
  exact (State.timePasses_steps apart channels channel still runs).keeps (stands.channel channel) fun _ => by
    rw [State.tch, stands.tmr, State.tch]

end Sys2Proof.Machine
end

/-!
SUPPORT. O47: the rows of a compare match and of a wrap make one step of every channel.
-/
section
namespace Sys2Proof.Machine

variable {s t : State} {k n : Nat}

/-- Channel n makes a step at the next tick: it counts by itself, no jump waits, and its clock runs. -/
abbrev State.tmrCounts (s : State) (n : Nat) : Prop := s.linkedHigh n = false ∧ (s.tch n).jump = none ∧ s.tmrStopped = false

/-- A step of k ticks reaches the compare value of channel n (R390). -/
abbrev State.tmrReaches (s : State) (n k : Nat) : Prop := (s.tch n).cmp < s.tmrMod n ∧
  (if s.tmrCount n < (s.tch n).cmp then (s.tch n).cmp - s.tmrCount n else (s.tch n).cmp + s.tmrMod n - s.tmrCount n) ≤ k

theorem matchDist_reaches {m c cmp : Nat} : (match matchDist m c cmp with | some d => decide (d ≤ k) | none => false) = true ↔
    cmp < m ∧ (if c < cmp then cmp - c else cmp + m - c) ≤ k := by
  unfold matchDist
  by_cases never : m ≤ cmp
  · rw [if_pos never]
    simp [never]
  · rw [if_neg never]
    simp only [decide_eq_true_eq]
    exact ⟨fun near => ⟨by omega, near⟩, fun near => near.2⟩

/-- Without staged values the step meets the compare value that stands. -/
theorem State.tmrHits_iff (none : (s.tch n).staged = none) : s.tmrHits n k = true ↔ s.tmrReaches n k := by
  have swapped : s.tmrSwapped n k = s := State.tmrSwapped_none fun _ _ => none
  unfold State.tmrHits State.tmrReaches
  rw [swapped]
  dsimp only
  split
  · next past =>
    rw [none]
    simp only [Option.isNone_none, Bool.true_and, Bool.and_eq_true, Bool.or_eq_true, decide_eq_true_eq]
    constructor
    · rintro ⟨below, reached⟩
      refine ⟨below, ?_⟩
      split <;> omega
    · rintro ⟨below, reached⟩
      refine ⟨below, ?_⟩
      split at reached <;> omega
  · exact matchDist_reaches

theorem State.tmrEnd_within (stays : ¬ s.tmrWraps n k) : s.tmrEnd n k = s.tmrCount n + k := if_neg stays

theorem State.tmrEnd_past (past : s.tmrWraps n k) (keeps : (s.tch n).staged = none ∨ s.tmrMode n ≠ 1) :
    s.tmrEnd n k = (s.tmrCount n + k - s.tmrMod n) % s.tmrMod n := by
  have swapped : s.tmrSwapped n k = s := State.tmrSwapped_none fun pwm _ => keeps.resolve_right fun other => other pwm
  rw [State.tmrEnd, if_pos past, swapped]

/-! ### The rows -/

theorem State.nextStepIs_match : s.nextStepIs n false = true ↔ s.tmrCounts n ∧ s.tmrReaches n s.stepLength := by
  unfold State.nextStepIs
  split
  · next rests =>
    refine ⟨fun h => (nomatch h), fun ⟨⟨apart, still, runs⟩, _⟩ => ?_⟩
    simp [apart, still, runs] at rests
  · next counts =>
    simp only [Bool.or_eq_true, not_or, Bool.not_eq_true, Option.isSome_eq_false_iff, Option.isNone_iff_eq_none] at counts
    exact matchDist_reaches.trans ⟨fun reached => ⟨⟨counts.1.1, counts.1.2, counts.2⟩, reached⟩, fun h => h.2⟩

theorem State.nextStepIs_wrap : s.nextStepIs n true = true ↔ s.tmrCounts n ∧ s.tmrWraps n s.stepLength := by
  unfold State.nextStepIs
  split
  · next rests =>
    refine ⟨fun h => (nomatch h), fun ⟨⟨apart, still, runs⟩, _⟩ => ?_⟩
    simp [apart, still, runs] at rests
  · next counts =>
    simp only [Bool.or_eq_true, not_or, Bool.not_eq_true, Option.isSome_eq_false_iff, Option.isNone_iff_eq_none] at counts
    simp only [if_true, decide_eq_true_eq]
    exact ⟨fun past => ⟨⟨counts.1.1, counts.1.2, counts.2⟩, past⟩, fun h => h.2⟩

theorem exec_compareMatch (n : Fin 16) (s : State) :
    exec (.compareMatch n) s = s.run fun s => if s.nextStepIs n.val false then s.tick else s := rfl

theorem exec_timerWrap (n : Fin 16) (s : State) :
    exec (.timerWrap n) s = s.run fun s => if s.nextStepIs n.val true then s.tick else s := rfl

theorem State.run_tick {due : State → Bool} (steps : due s = true) :
    s.run (fun s => if due s then s.tick else s) = .next (s.tick.queued s.pending) := by
  exact congrArg (fun t => Host.Outcome.next (State.queued t s.pending)) (if_pos steps)

/-- A row that is due is a tick. -/
theorem exec_timer_due {row : Instr} {n : Fin 16} (counts : s.tmrCounts n.val)
    (due : (s.tmrReaches n.val s.stepLength ∧ row = .compareMatch n) ∨ (s.tmrWraps n.val s.stepLength ∧ row = .timerWrap n)) :
    exec row s = .next (s.tick.queued s.pending) := by
  rcases due with ⟨reached, rfl⟩ | ⟨past, rfl⟩
  · rw [exec_compareMatch]
    exact State.run_tick (due := fun s => s.nextStepIs n.val false) (State.nextStepIs_match.mpr ⟨counts, reached⟩)
  · rw [exec_timerWrap]
    exact State.run_tick (due := fun s => s.nextStepIs n.val true) (State.nextStepIs_wrap.mpr ⟨counts, past⟩)

theorem exec_compareMatch_rest (n : Fin 16) (rests : ¬ (s.tmrCounts n.val ∧ s.tmrReaches n.val s.stepLength)) :
    exec (.compareMatch n) s = .next s := by
  rw [exec_compareMatch]
  exact State.run_same (if_neg (mt State.nextStepIs_match.mp rests))

theorem exec_timerWrap_rest (n : Fin 16) (rests : ¬ (s.tmrCounts n.val ∧ s.tmrWraps n.val s.stepLength)) : exec (.timerWrap n) s = .next s := by
  rw [exec_timerWrap]
  exact State.run_same (if_neg (mt State.nextStepIs_wrap.mp rests))

/-- Settles O47: inside a sample a row that is due makes the tick, in which channel n makes its one step while the others leave it. -/
theorem timersMatchAndWrap : Obligations.TimersMatchAndWrap := by
  unfold Obligations.TimersMatchAndWrap
  intro s n shaped supplied held x k ticks m c steps hit wraps within
  obtain ⟨-, -, -, -, -, -, channels⟩ := State.shaped_iff.mp shaped
  have count : ticks = s.stepTicks := by
    show (if s.tmr.slow then (if s.tmr.slow then s.slowPeriod.1 else 1) - s.tmr.acc else 1) = s.stepTicks
    unfold State.stepTicks
    split <;> rfl
  rw [count] at within
  refine ⟨exec_compareMatch_rest n, exec_timerWrap_rest n, fun counts row due => ⟨_, exec_timer_due counts due, ?_⟩⟩
  obtain ⟨apart, still, runs⟩ := counts
  have made := State.tick_steps apart channels n.isLt still runs supplied held within
  have same := s.stepTime_same n.val
  have inside : n.val < s.tmr.chans.length := by omega
  have mode := State.tmrMode_congr (same.ctl n.val n.isLt)
  have past (beyond : wraps) : s.stepTime.tmrWraps n.val s.stepLength := (same.tmrWraps n.isLt).mpr beyond
  have met (none : x.staged = none) : s.stepTime.tmrHits n.val s.stepLength = true ↔ hit := by
    rw [same.tmrHits n.isLt inside]
    exact State.tmrHits_iff none
  have cnt : (s.tick.tch n.val).cnt = s.tmrEnd n.val s.stepLength % 2 ^ 32 := by rw [← same.tmrEnd n.isLt inside]; exact made.count
  refine ⟨?_, ?_, made.still, fun stays => ?_, fun beyond keeps => ?_, fun low stays => ?_, fun reached none => ?_, fun beyond => ?_, fun a b beyond pwm staged => ?_⟩
  · rw [count]
    exact made.time
  · rw [count]
    exact made.clk
  · exact cnt.trans (by rw [State.tmrEnd_within (k := s.stepLength) stays]; rfl)
  · exact cnt.trans (by rw [State.tmrEnd_past (k := s.stepLength) beyond keeps]; rfl)
  · have high := made.high ((State.linkedLow_congr (same.ctl n.val n.isLt)).trans low)
    rw [same.tmrEnd n.isLt inside, State.tmrEnd_within (k := s.stepLength) stays] at high
    exact high
  · have struck := (met none).mpr reached
    refine ⟨made.hit struck, fun pwm => (made.out (mode.trans pwm)).trans ?_⟩
    rw [if_pos struck]
  · refine ⟨made.wrap (past beyond), fun pwm none missed => (made.out (mode.trans pwm)).trans ?_⟩
    rw [if_neg (mt (met none).mp missed), decide_eq_true (past beyond), Bool.or_true]
  · exact made.staged a b (past beyond) (mode.trans pwm) (by rw [same.chan]; exact staged)

end Sys2Proof.Machine
end
